-- ==== Sys2Proof/Word.lean ====
section
/-! DEFINITION. The words of the part: bytes on the ports, colours, and the sparse stores of the memories. -/

namespace Sys2Proof

/-- A byte as the ports carry it (R173). -/
abbrev Byte := BitVec 8

/-- A colour 0..15, the content of one cell (R24). -/
abbrev Colour := BitVec 4

/-- A sparse store: (key, value) pairs, keys strictly rising, no value equal to what an unlisted key reads as. -/
abbrev Store (α : Type) := List (Nat × α)

/-- The carriers 1..16: index `k` is carrier `k + 1`. -/
abbrev Carrier := Fin 16

/-- The rails 1..8: index `r` is rail `r + 1`. -/
abbrev Rail := Fin 8

/-- The knitting systems 1..3: index `s` is system `s + 1`. -/
abbrev System := Fin 3

/-- The selector heads in the order S1F, S1B, S2F, S2B, S3F, S3B: index `h` is head `h + 1` of R164. -/
abbrev Head := Fin 6

end Sys2Proof
end

