-- ==== Sys2Proof/Config.lean ====
section
/-! DEFINITION. The fixed sizes of the part, and the free values: what the manual leaves open and no proof can see. -/

namespace Sys2Proof

/-- The greatest carriage position P (R12, R14). -/
def Config.maxCount : Nat := 1048575

/-- The number of pattern rows (R24). -/
def Config.rowCount : Nat := 512

/-- The number of cells of a pattern row (R24). -/
def Config.cellCount : Nat := 1280

/-- The number of course slots (R68). -/
def Config.slotCount : Nat := 16

/-- The most data bytes a load frame carries (R28, R30). -/
def Config.maxLoadBytes : Nat := 640

/-- FREE. Whether a read frame that ends when its command would be answered otherwise than when its reply was formed
is answered as its reply was (true) or as at its end (false). DESIGN CHOICE, log 7: R173 and R176 leave it open. -/
opaque Config.answerFollowsReply : Bool

/-- FREE. The rank of one of several things that fall together, read with the free counter: the lowest rank is taken
first. DESIGN CHOICE, log 12: "either may be taken first" (R150, R155, R162, R122). -/
opaque Config.rank : Nat → Nat → Nat

end Sys2Proof
end

