-- ==== Sys2Proof/Syntax.lean ====
section
/-! DEFINITION. The commands: one constructor per row of spec/opcode_table.json, with the operands of the layouts of
R181 and R182 at their widths, and how the command's frame ran (R173, R174, R176). -/

namespace Sys2Proof

/-- The two serial command ports (R173). -/
inductive Port where
  | pattern
  | drive
deriving DecidableEq, Repr

/-- How a frame ended (R173, R174). -/
inductive FrameEnd where
  /-- with exactly the whole bytes its command requires -/
  | fits
  /-- after `bytes` whole bytes following the command byte and `bits` further bits, which is not the command's length -/
  | misfit (bytes bits : Nat)
  /-- select was asserted less than 2 µs after the frame before it; `bytes` whole bytes followed the command byte -/
  | tooSoon (bytes : Nat)
deriving DecidableEq, Repr

/-- What part of a read command's frame a step is (R176): the reply is formed before the frame ends. -/
inductive ReadFrame where
  /-- the whole frame, with nothing taken between the reply and the end -/
  | whole (e : FrameEnd)
  /-- the forming of the reply, at the receipt of the last parameter byte (of the command byte, with no parameters) -/
  | opened
  /-- the end of a frame whose reply an earlier `opened` step formed -/
  | closed (e : FrameEnd)
deriving DecidableEq, Repr

/-- One system entry of a COMMIT_COURSE frame, 24 bytes (R182). -/
structure EntryFrame where
  system : Byte
  sourceKind : Byte
  source : BitVec 16
  table : Byte
  carrier : Byte
  width : BitVec 16
  origin : BitVec 16
  shift : BitVec 16
  mirror : Byte
  exchange : Byte
  exchangeA : Byte
  exchangeB : Byte
  overlay : Byte
  overlayRow : BitVec 16
  overlayOrigin : BitVec 16
  overlayWidth : BitVec 16
  overlayKey : Byte
deriving DecidableEq, Repr

/-- The parameters of a COMMIT_COURSE frame (R182). The entry count (header byte 11) is the length of `entries`. -/
structure CourseFrame where
  tag : BitVec 16
  kind : Byte
  direction : Byte
  racking : Byte
  speed : Byte
  zone : Byte
  zoneLeft : BitVec 16
  zoneRight : BitVec 16
  entries : List EntryFrame
deriving DecidableEq, Repr

/-- The commands of the part. -/
inductive Instr where
  -- both ports
  | readStatus (port : Port) (frame : ReadFrame)
  | softReset (port : Port) (frame : FrameEnd)
  | readGeometryField (port : Port) (frame : ReadFrame) (field index : Byte)
  | readFault (port : Port) (frame : ReadFrame)
  | unknownCommand (port : Port) (frame : FrameEnd) (code : Byte)
  -- Pattern Port: pattern memory
  | writeRow (frame : FrameEnd) (row start : BitVec 16) (data : List Byte)
  | rowContinue (frame : FrameEnd) (data : List Byte)
  | readRow (frame : ReadFrame) (row start count : BitVec 16)
  | testCell (frame : ReadFrame) (row cell : BitVec 16)
  | exchangeCell (frame : ReadFrame) (row cell : BitVec 16) (colour : Byte)
  | conditionalExchangeCell (frame : ReadFrame) (row cell : BitVec 16) (expected new : Byte)
  | scanRow (frame : ReadFrame) (row a b set : BitVec 16) (direction : Byte)
  -- Pattern Port: technique tables and row pointers
  | writeTechnique (frame : FrameEnd) (table colour front back parity : Byte)
  | readTechnique (frame : ReadFrame) (table colour : Byte)
  | setPointer (frame : FrameEnd) (pointer : Byte) (current low high : BitVec 16) (mode step : Byte)
  | readPointer (frame : ReadFrame) (pointer : Byte)
  -- Pattern Port: courses
  | commitCourse (frame : FrameEnd) (record : CourseFrame)
  | discardHead (frame : FrameEnd)
  | fetchCompletion (frame : ReadFrame)
  | readHeadCourse (frame : ReadFrame)
  | setZone (frame : FrameEnd) (left right : BitVec 16)
  | setWantLevel (frame : FrameEnd) (level : Byte)
  -- Pattern Port: carriers and the resume record
  | setCarrier (frame : FrameEnd) (carrier : Byte) (position : BitVec 16)
  | setCarrierLimit (frame : FrameEnd) (carrier speed : Byte)
  | readCarrier (frame : ReadFrame) (carrier : Byte)
  | readResumeRecord (frame : ReadFrame)
  | clearResumeRecord (frame : FrameEnd)
  -- Drive Port: geometry and the settings store
  | setGeometryField (frame : FrameEnd) (field index : Byte) (value : BitVec 32)
  | goOnline (frame : FrameEnd)
  | goOffline (frame : FrameEnd)
  | storeSettings (frame : FrameEnd)
  | storeWriteComplete
  -- Drive Port: position and supply
  | readPosition (frame : ReadFrame)
  | homeArm (frame : FrameEnd)
  | setRacking (frame : FrameEnd) (racking : Byte)
  | actuatorsOn (frame : FrameEnd)
  | wakeComplete
  | actuatorsOff (frame : FrameEnd)
  -- Drive Port: asking for a stroke, and the stages of arming
  | requestStroke (frame : FrameEnd)
  | locksAndResolution
  | zoneStage
  | imageStage
  | transferPairing
  | carrierPlan
  | extentAndTurningPoints
  | speedClass
  | completionAndGrant
  | readGrant (frame : ReadFrame)
  -- Drive Port: the stroke
  | beginStroke (frame : FrameEnd)
  | abandonStroke (frame : FrameEnd)
  | resumeStroke (frame : FrameEnd)
  | setSpeedCap (frame : FrameEnd) (speed : Byte)
  | clearStop (frame : FrameEnd)
  -- events of the lines and timers
  | encoderTransition (a b : Bool)
  | pulseEnd (head : Head)
  | indexPulse
  | stopInAssertion
  | stopInRelease
  | yarnSensorBreak (carrier : Carrier)
  | pfwAssertion
  | pfwRelease
  | resumeRecordWriteComplete
  | retainedWriteComplete
  | powerOn
  | powerLoss
  | resetAssertion
  | resetRelease
  | startUpEnd
  | yarnSensorBreakEnd (carrier : Carrier)
  | backupSupplyFailure
deriving DecidableEq, Repr

end Sys2Proof
end

