-- ==== Sys2Proof/Decode.lean ====
section
/-! DEFINITION. The command table and the byte layouts of the frames (R173, R181, R182): decoding a frame's bytes to a
command, encoding a command as a frame, and the host's reading of the opcode table's words. -/

namespace Sys2Proof

/-- A row of the command table of R181: port, code, and the bytes of the parameters and of the reply. -/
structure FrameShape where
  port : Port
  code : Byte
  params : Nat
  reply : Nat
deriving DecidableEq, Repr

/-- The bytes that follow the command byte of a frame of the command's own length (R173). -/
def FrameShape.length (f : FrameShape) : Nat := f.params + f.reply

/-! The command table of R181. -/

def Layout.readStatus (port : Port) : FrameShape := ⟨port, 0x01, 0, 7⟩
def Layout.softReset (port : Port) : FrameShape := ⟨port, 0x02, 0, 0⟩
def Layout.readGeometryField (port : Port) : FrameShape := ⟨port, 0x03, 2, 4⟩
def Layout.readFault (port : Port) : FrameShape := ⟨port, 0x04, 0, 26⟩
/-- `data` cell bytes follow the row and the start cell. -/
def Layout.writeRow (data : Nat) : FrameShape := ⟨.pattern, 0x10, 4 + data, 0⟩
def Layout.rowContinue (data : Nat) : FrameShape := ⟨.pattern, 0x11, data, 0⟩
/-- The reply is the returned count and ceil(count/2) cell bytes, none if the count is outside 1..1,280 (R33, R181). -/
def Layout.readRow (count : BitVec 16) : FrameShape :=
  ⟨.pattern, 0x12, 6, 2 + if 1 ≤ count.toNat ∧ count.toNat ≤ Config.cellCount then (count.toNat + 1) / 2 else 0⟩
def Layout.testCell : FrameShape := ⟨.pattern, 0x13, 4, 1⟩
def Layout.exchangeCell : FrameShape := ⟨.pattern, 0x14, 5, 1⟩
def Layout.conditionalExchangeCell : FrameShape := ⟨.pattern, 0x15, 6, 2⟩
def Layout.scanRow : FrameShape := ⟨.pattern, 0x16, 9, 3⟩
def Layout.writeTechnique : FrameShape := ⟨.pattern, 0x20, 5, 0⟩
def Layout.readTechnique : FrameShape := ⟨.pattern, 0x21, 2, 3⟩
def Layout.setPointer : FrameShape := ⟨.pattern, 0x28, 9, 0⟩
def Layout.readPointer : FrameShape := ⟨.pattern, 0x29, 1, 8⟩
/-- 12 header bytes and 24 bytes an entry (R182). -/
def Layout.commitCourse (entries : Nat) : FrameShape := ⟨.pattern, 0x30, 12 + 24 * entries, 0⟩
def Layout.discardHead : FrameShape := ⟨.pattern, 0x31, 0, 0⟩
def Layout.fetchCompletion : FrameShape := ⟨.pattern, 0x32, 0, 29⟩
def Layout.readHeadCourse : FrameShape := ⟨.pattern, 0x33, 0, 25⟩
def Layout.setZone : FrameShape := ⟨.pattern, 0x34, 4, 0⟩
def Layout.setWantLevel : FrameShape := ⟨.pattern, 0x35, 1, 0⟩
def Layout.setCarrier : FrameShape := ⟨.pattern, 0x38, 3, 0⟩
def Layout.setCarrierLimit : FrameShape := ⟨.pattern, 0x39, 2, 0⟩
def Layout.readCarrier : FrameShape := ⟨.pattern, 0x3A, 1, 7⟩
def Layout.readResumeRecord : FrameShape := ⟨.pattern, 0x3C, 0, 106⟩
def Layout.clearResumeRecord : FrameShape := ⟨.pattern, 0x3D, 0, 0⟩
def Layout.setGeometryField : FrameShape := ⟨.drive, 0x40, 6, 0⟩
def Layout.goOnline : FrameShape := ⟨.drive, 0x41, 0, 0⟩
def Layout.goOffline : FrameShape := ⟨.drive, 0x42, 0, 0⟩
def Layout.storeSettings : FrameShape := ⟨.drive, 0x43, 0, 0⟩
def Layout.readPosition : FrameShape := ⟨.drive, 0x48, 0, 5⟩
def Layout.homeArm : FrameShape := ⟨.drive, 0x49, 0, 0⟩
def Layout.setRacking : FrameShape := ⟨.drive, 0x4A, 1, 0⟩
def Layout.actuatorsOn : FrameShape := ⟨.drive, 0x50, 0, 0⟩
def Layout.actuatorsOff : FrameShape := ⟨.drive, 0x51, 0, 0⟩
def Layout.requestStroke : FrameShape := ⟨.drive, 0x58, 0, 0⟩
def Layout.readGrant : FrameShape := ⟨.drive, 0x59, 0, 32⟩
def Layout.beginStroke : FrameShape := ⟨.drive, 0x5A, 0, 0⟩
def Layout.abandonStroke : FrameShape := ⟨.drive, 0x5B, 0, 0⟩
def Layout.resumeStroke : FrameShape := ⟨.drive, 0x5C, 0, 0⟩
def Layout.setSpeedCap : FrameShape := ⟨.drive, 0x5D, 1, 0⟩
def Layout.clearStop : FrameShape := ⟨.drive, 0x60, 0, 0⟩

/-- The command-table row of a command; none for UNKNOWN_COMMAND, which has no length, and for the events. -/
def Instr.shape : Instr → Option FrameShape
  | .readStatus port _ => some (Layout.readStatus port)
  | .softReset port _ => some (Layout.softReset port)
  | .readGeometryField port _ _ _ => some (Layout.readGeometryField port)
  | .readFault port _ => some (Layout.readFault port)
  | .unknownCommand _ _ _ => none
  | .writeRow _ _ _ data => some (Layout.writeRow data.length)
  | .rowContinue _ data => some (Layout.rowContinue data.length)
  | .readRow _ _ _ count => some (Layout.readRow count)
  | .testCell _ _ _ => some Layout.testCell
  | .exchangeCell _ _ _ _ => some Layout.exchangeCell
  | .conditionalExchangeCell _ _ _ _ _ => some Layout.conditionalExchangeCell
  | .scanRow _ _ _ _ _ _ => some Layout.scanRow
  | .writeTechnique _ _ _ _ _ _ => some Layout.writeTechnique
  | .readTechnique _ _ _ => some Layout.readTechnique
  | .setPointer _ _ _ _ _ _ _ => some Layout.setPointer
  | .readPointer _ _ => some Layout.readPointer
  | .commitCourse _ record => some (Layout.commitCourse record.entries.length)
  | .discardHead _ => some Layout.discardHead
  | .fetchCompletion _ => some Layout.fetchCompletion
  | .readHeadCourse _ => some Layout.readHeadCourse
  | .setZone _ _ _ => some Layout.setZone
  | .setWantLevel _ _ => some Layout.setWantLevel
  | .setCarrier _ _ _ => some Layout.setCarrier
  | .setCarrierLimit _ _ _ => some Layout.setCarrierLimit
  | .readCarrier _ _ => some Layout.readCarrier
  | .readResumeRecord _ => some Layout.readResumeRecord
  | .clearResumeRecord _ => some Layout.clearResumeRecord
  | .setGeometryField _ _ _ _ => some Layout.setGeometryField
  | .goOnline _ => some Layout.goOnline
  | .goOffline _ => some Layout.goOffline
  | .storeSettings _ => some Layout.storeSettings
  | .storeWriteComplete => none
  | .readPosition _ => some Layout.readPosition
  | .homeArm _ => some Layout.homeArm
  | .setRacking _ _ => some Layout.setRacking
  | .actuatorsOn _ => some Layout.actuatorsOn
  | .wakeComplete => none
  | .actuatorsOff _ => some Layout.actuatorsOff
  | .requestStroke _ => some Layout.requestStroke
  | .locksAndResolution => none
  | .zoneStage => none
  | .imageStage => none
  | .transferPairing => none
  | .carrierPlan => none
  | .extentAndTurningPoints => none
  | .speedClass => none
  | .completionAndGrant => none
  | .readGrant _ => some Layout.readGrant
  | .beginStroke _ => some Layout.beginStroke
  | .abandonStroke _ => some Layout.abandonStroke
  | .resumeStroke _ => some Layout.resumeStroke
  | .setSpeedCap _ _ => some Layout.setSpeedCap
  | .clearStop _ => some Layout.clearStop
  | .encoderTransition _ _ => none
  | .pulseEnd _ => none
  | .indexPulse => none
  | .stopInAssertion => none
  | .stopInRelease => none
  | .yarnSensorBreak _ => none
  | .pfwAssertion => none
  | .pfwRelease => none
  | .resumeRecordWriteComplete => none
  | .retainedWriteComplete => none
  | .powerOn => none
  | .powerLoss => none
  | .resetAssertion => none
  | .resetRelease => none
  | .startUpEnd => none
  | .yarnSensorBreakEnd _ => none
  | .backupSupplyFailure => none

/-! ## Decoding a frame -/

/-- Byte `i` of the parameters; a byte that was not sent reads 0 (such a frame is refused with FRAME anyway). -/
def paramByte (p : List Byte) (i : Nat) : Byte := p.getD i 0

/-- The two bytes from `i`, most significant first (R181). -/
def paramWord (p : List Byte) (i : Nat) : BitVec 16 := paramByte p i ++ paramByte p (i + 1)

/-- The four bytes from `i`, most significant first (R181). -/
def paramLong (p : List Byte) (i : Nat) : BitVec 32 := paramWord p i ++ paramWord p (i + 2)

/-- How a frame of `have_` whole bytes and `bits` bits after its command byte ended, where its command needs `need`. -/
def endOf (need have_ bits : Nat) : FrameEnd :=
  if have_ = need ∧ bits = 0 then .fits else .misfit have_ bits

/-- A system entry from its 24 bytes (R182). -/
def decodeEntry (p : List Byte) : EntryFrame where
  system := paramByte p 0
  sourceKind := paramByte p 1
  source := paramWord p 2
  table := paramByte p 4
  carrier := paramByte p 5
  width := paramWord p 6
  origin := paramWord p 8
  shift := paramWord p 10
  mirror := paramByte p 12
  exchange := paramByte p 13
  exchangeA := paramByte p 14
  exchangeB := paramByte p 15
  overlay := paramByte p 16
  overlayRow := paramWord p 17
  overlayOrigin := paramWord p 19
  overlayWidth := paramWord p 21
  overlayKey := paramByte p 23

/-- The first `n` system entries of the bytes after the header. -/
def decodeEntries : Nat → List Byte → List EntryFrame
  | 0, _ => []
  | n + 1, p => decodeEntry p :: decodeEntries n (p.drop 24)

/-- The COMMIT_COURSE parameters (R182). A frame whose length does not fit its own entry count lists no entry. -/
def decodeCourse (p : List Byte) : CourseFrame where
  tag := paramWord p 0
  kind := paramByte p 2
  direction := paramByte p 3
  racking := paramByte p 4
  speed := paramByte p 5
  zone := paramByte p 6
  zoneLeft := paramWord p 7
  zoneRight := paramWord p 9
  entries := if p.length = 12 + 24 * (paramByte p 11).toNat then decodeEntries (paramByte p 11).toNat (p.drop 12) else []

/-- A command code and its parameters on the Pattern Port (R181). -/
def decodePattern (code : Byte) (p : List Byte) (bits : Nat) : Instr :=
  let fit (f : FrameShape) : FrameEnd := endOf f.length p.length bits
  match code.toNat with
  | 0x01 => .readStatus .pattern (.whole (fit (Layout.readStatus .pattern)))
  | 0x02 => .softReset .pattern (fit (Layout.softReset .pattern))
  | 0x03 => .readGeometryField .pattern (.whole (fit (Layout.readGeometryField .pattern))) (paramByte p 0) (paramByte p 1)
  | 0x04 => .readFault .pattern (.whole (fit (Layout.readFault .pattern)))
  | 0x10 => .writeRow (fit (Layout.writeRow (p.length - 4))) (paramWord p 0) (paramWord p 2) (p.drop 4)
  | 0x11 => .rowContinue (fit (Layout.rowContinue p.length)) p
  | 0x12 => .readRow (.whole (fit (Layout.readRow (paramWord p 4)))) (paramWord p 0) (paramWord p 2) (paramWord p 4)
  | 0x13 => .testCell (.whole (fit Layout.testCell)) (paramWord p 0) (paramWord p 2)
  | 0x14 => .exchangeCell (.whole (fit Layout.exchangeCell)) (paramWord p 0) (paramWord p 2) (paramByte p 4)
  | 0x15 => .conditionalExchangeCell (.whole (fit Layout.conditionalExchangeCell)) (paramWord p 0) (paramWord p 2) (paramByte p 4) (paramByte p 5)
  | 0x16 => .scanRow (.whole (fit Layout.scanRow)) (paramWord p 0) (paramWord p 2) (paramWord p 4) (paramWord p 6) (paramByte p 8)
  | 0x20 => .writeTechnique (fit Layout.writeTechnique) (paramByte p 0) (paramByte p 1) (paramByte p 2) (paramByte p 3) (paramByte p 4)
  | 0x21 => .readTechnique (.whole (fit Layout.readTechnique)) (paramByte p 0) (paramByte p 1)
  | 0x28 => .setPointer (fit Layout.setPointer) (paramByte p 0) (paramWord p 1) (paramWord p 3) (paramWord p 5) (paramByte p 7) (paramByte p 8)
  | 0x29 => .readPointer (.whole (fit Layout.readPointer)) (paramByte p 0)
  | 0x30 => .commitCourse (fit (Layout.commitCourse (paramByte p 11).toNat)) (decodeCourse p)
  | 0x31 => .discardHead (fit Layout.discardHead)
  | 0x32 => .fetchCompletion (.whole (fit Layout.fetchCompletion))
  | 0x33 => .readHeadCourse (.whole (fit Layout.readHeadCourse))
  | 0x34 => .setZone (fit Layout.setZone) (paramWord p 0) (paramWord p 2)
  | 0x35 => .setWantLevel (fit Layout.setWantLevel) (paramByte p 0)
  | 0x38 => .setCarrier (fit Layout.setCarrier) (paramByte p 0) (paramWord p 1)
  | 0x39 => .setCarrierLimit (fit Layout.setCarrierLimit) (paramByte p 0) (paramByte p 1)
  | 0x3A => .readCarrier (.whole (fit Layout.readCarrier)) (paramByte p 0)
  | 0x3C => .readResumeRecord (.whole (fit Layout.readResumeRecord))
  | 0x3D => .clearResumeRecord (fit Layout.clearResumeRecord)
  | _ => .unknownCommand .pattern (.misfit p.length bits) code

/-- A command code and its parameters on the Drive Port (R181). -/
def decodeDrive (code : Byte) (p : List Byte) (bits : Nat) : Instr :=
  let fit (f : FrameShape) : FrameEnd := endOf f.length p.length bits
  match code.toNat with
  | 0x01 => .readStatus .drive (.whole (fit (Layout.readStatus .drive)))
  | 0x02 => .softReset .drive (fit (Layout.softReset .drive))
  | 0x03 => .readGeometryField .drive (.whole (fit (Layout.readGeometryField .drive))) (paramByte p 0) (paramByte p 1)
  | 0x04 => .readFault .drive (.whole (fit (Layout.readFault .drive)))
  | 0x40 => .setGeometryField (fit Layout.setGeometryField) (paramByte p 0) (paramByte p 1) (paramLong p 2)
  | 0x41 => .goOnline (fit Layout.goOnline)
  | 0x42 => .goOffline (fit Layout.goOffline)
  | 0x43 => .storeSettings (fit Layout.storeSettings)
  | 0x48 => .readPosition (.whole (fit Layout.readPosition))
  | 0x49 => .homeArm (fit Layout.homeArm)
  | 0x4A => .setRacking (fit Layout.setRacking) (paramByte p 0)
  | 0x50 => .actuatorsOn (fit Layout.actuatorsOn)
  | 0x51 => .actuatorsOff (fit Layout.actuatorsOff)
  | 0x58 => .requestStroke (fit Layout.requestStroke)
  | 0x59 => .readGrant (.whole (fit Layout.readGrant))
  | 0x5A => .beginStroke (fit Layout.beginStroke)
  | 0x5B => .abandonStroke (fit Layout.abandonStroke)
  | 0x5C => .resumeStroke (fit Layout.resumeStroke)
  | 0x5D => .setSpeedCap (fit Layout.setSpeedCap) (paramByte p 0)
  | 0x60 => .clearStop (fit Layout.clearStop)
  | _ => .unknownCommand .drive (.misfit p.length bits) code

/-- The command a frame spells: its whole bytes, the command byte first, and the bits after them (R173). A frame in
which not even the command byte was completed is no frame. -/
def decodeFrame (port : Port) (bytes : List Byte) (bits : Nat) : Option Instr :=
  match bytes with
  | [] => none
  | code :: p =>
    match port with
    | .pattern => some (decodePattern code p bits)
    | .drive => some (decodeDrive code p bits)

/-- Whether the code names a command of the port (R173, R181). -/
def knownCode (port : Port) (code : Byte) : Bool :=
  match decodeFrame port [code] 0 with
  | some (.unknownCommand _ _ _) => false
  | _ => true

/-! ## Encoding a command as a frame -/

/-- Two bytes, most significant first (R181). -/
def wordBytes (x : BitVec 16) : List Byte := [x.extractLsb' 8 8, x.extractLsb' 0 8]

/-- Four bytes, most significant first (R181). -/
def longBytes (x : BitVec 32) : List Byte :=
  [x.extractLsb' 24 8, x.extractLsb' 16 8, x.extractLsb' 8 8, x.extractLsb' 0 8]

/-- The 24 bytes of a system entry (R182). -/
def encodeEntry (e : EntryFrame) : List Byte :=
  [e.system, e.sourceKind] ++ wordBytes e.source ++ [e.table, e.carrier] ++ wordBytes e.width ++ wordBytes e.origin ++
    wordBytes e.shift ++ [e.mirror, e.exchange, e.exchangeA, e.exchangeB, e.overlay] ++ wordBytes e.overlayRow ++
    wordBytes e.overlayOrigin ++ wordBytes e.overlayWidth ++ [e.overlayKey]

/-- The parameter bytes of a COMMIT_COURSE frame (R182). -/
def encodeCourse (r : CourseFrame) : List Byte :=
  wordBytes r.tag ++ [r.kind, r.direction, r.racking, r.speed, r.zone] ++ wordBytes r.zoneLeft ++ wordBytes r.zoneRight ++
    [BitVec.ofNat 8 r.entries.length] ++ r.entries.flatMap encodeEntry

/-- The parameter bytes of a command (R181, R182); none for an event. -/
def encodeParams : Instr → List Byte
  | .readStatus _ _ => []
  | .softReset _ _ => []
  | .readGeometryField _ _ field index => [field, index]
  | .readFault _ _ => []
  | .unknownCommand _ _ _ => []
  | .writeRow _ row start data => wordBytes row ++ wordBytes start ++ data
  | .rowContinue _ data => data
  | .readRow _ row start count => wordBytes row ++ wordBytes start ++ wordBytes count
  | .testCell _ row cell => wordBytes row ++ wordBytes cell
  | .exchangeCell _ row cell colour => wordBytes row ++ wordBytes cell ++ [colour]
  | .conditionalExchangeCell _ row cell expected new => wordBytes row ++ wordBytes cell ++ [expected, new]
  | .scanRow _ row a b set direction => wordBytes row ++ wordBytes a ++ wordBytes b ++ wordBytes set ++ [direction]
  | .writeTechnique _ table colour front back parity => [table, colour, front, back, parity]
  | .readTechnique _ table colour => [table, colour]
  | .setPointer _ pointer current low high mode step =>
    [pointer] ++ wordBytes current ++ wordBytes low ++ wordBytes high ++ [mode, step]
  | .readPointer _ pointer => [pointer]
  | .commitCourse _ record => encodeCourse record
  | .discardHead _ => []
  | .fetchCompletion _ => []
  | .readHeadCourse _ => []
  | .setZone _ left right => wordBytes left ++ wordBytes right
  | .setWantLevel _ level => [level]
  | .setCarrier _ carrier position => [carrier] ++ wordBytes position
  | .setCarrierLimit _ carrier speed => [carrier, speed]
  | .readCarrier _ carrier => [carrier]
  | .readResumeRecord _ => []
  | .clearResumeRecord _ => []
  | .setGeometryField _ field index value => [field, index] ++ longBytes value
  | .goOnline _ => []
  | .goOffline _ => []
  | .storeSettings _ => []
  | .storeWriteComplete => []
  | .readPosition _ => []
  | .homeArm _ => []
  | .setRacking _ racking => [racking]
  | .actuatorsOn _ => []
  | .wakeComplete => []
  | .actuatorsOff _ => []
  | .requestStroke _ => []
  | .locksAndResolution => []
  | .zoneStage => []
  | .imageStage => []
  | .transferPairing => []
  | .carrierPlan => []
  | .extentAndTurningPoints => []
  | .speedClass => []
  | .completionAndGrant => []
  | .readGrant _ => []
  | .beginStroke _ => []
  | .abandonStroke _ => []
  | .resumeStroke _ => []
  | .setSpeedCap _ speed => [speed]
  | .clearStop _ => []
  | .encoderTransition _ _ => []
  | .pulseEnd _ => []
  | .indexPulse => []
  | .stopInAssertion => []
  | .stopInRelease => []
  | .yarnSensorBreak _ => []
  | .pfwAssertion => []
  | .pfwRelease => []
  | .resumeRecordWriteComplete => []
  | .retainedWriteComplete => []
  | .powerOn => []
  | .powerLoss => []
  | .resetAssertion => []
  | .resetRelease => []
  | .startUpEnd => []
  | .yarnSensorBreakEnd _ => []
  | .backupSupplyFailure => []

/-- The frame of a command: its code, its parameters, and filler bytes (0) while the reply is clocked out (R173). -/
def encodeFrame (i : Instr) : Option (Port × List Byte) :=
  i.shape.map fun f => (f.port, f.code :: (encodeParams i ++ List.replicate f.reply 0))

/-! ## The opcode table's words -/

/-- The command an opcode-table word spells. No row of spec/opcode_table.json gives bits, so no word spells one (log 2). -/
def decodeTableWord (_nbits _w : Nat) : Option Instr := none

end Sys2Proof
end

