-- ==== Sys2Proof/Machine/State.lean ====
section
/-! DEFINITION. Everything the part holds, block by block (00_scope.md, "How the part is organised"), as plain data, and
its state right after reset. -/

namespace Sys2Proof.Machine

/-- The result codes (11_the_two_ports.md, "Result codes"). -/
inductive ResultCode where
  | ok | notNow | busy | range | inUse | full | empty | stopped | wrongSide | notHomed | geometry | frame | unknown
deriving DecidableEq, Repr

/-- What a head does to one needle (R41). -/
inductive Action where
  | miss | tuck | knit | xfer | recv
deriving DecidableEq, Repr

/-- On which back needles a back action applies (R42). -/
inductive Parity where
  | all | even | odd
deriving DecidableEq, Repr

/-- How a row pointer moves after a row is taken (R52). -/
inductive PointerMode where
  | fixed | up | down
deriving DecidableEq, Repr

/-- The kind of a course (R63). -/
inductive Kind where
  | knit | transfer
deriving DecidableEq, Repr

/-- The direction of a stroke (R63). -/
inductive Direction where
  | l2r | r2l
deriving DecidableEq, Repr

/-- The state of a course in the queue (R69). -/
inductive CourseState where
  | queued | arming | armed | knitting | faulted
deriving DecidableEq, Repr

/-- The device mode (R4). -/
inductive Mode where
  | offline | ready
deriving DecidableEq, Repr

/-- The state of the actuator supply (R144). -/
inductive SupplyState where
  | standby | waking | on
deriving DecidableEq, Repr

/-- The bed a head works on. -/
inductive Bed where
  | front | back
deriving DecidableEq, Repr

/-- The stroke faults (R162). -/
inductive FaultReason where
  | stopRequest | yarnBreak | overspeed | reversal | encoder | powerWarning
deriving DecidableEq, Repr

/-- Power and start-up: off; RESET asserted; the 2 ms start-up; at work (R180). -/
inductive Phase where
  | off | held | startUp | running
deriving DecidableEq, Repr

/-! ## Input pins -/

/-- The levels of the input lines: true is high for the encoder, asserted for STOP_IN, PFW and RESET, and a reported
break for a yarn sensor. -/
structure Pins where
  encA : Bool
  encB : Bool
  stopIn : Bool
  pfw : Bool
  reset : Bool
  yarn : Vector Bool 16
deriving DecidableEq, Repr

/-! ## Geometry block -/

/-- The writable fields of the geometry record (R1). A rail `r` of `carrierRail` is rail number `r + 1`. -/
structure Geometry where
  bedNeedles : Nat
  cpn : Nat
  bedOrigin : Nat
  homeCount : Nat
  systems : Nat
  headOffset : Vector Int 6
  catchOffset : Int
  lead : Nat
  margin : Nat
  parkGap : Nat
  travelLo : Nat
  travelHi : Nat
  backlash : Nat
  indexTol : Nat
  pulseUs : Nat
  rails : Nat
  carriers : Nat
  carrierRail : Vector Rail 16
  carrierCap : Vector Nat 16
  xferCap : Nat
deriving DecidableEq, Repr

/-- The defaults of R1. -/
def Geometry.defaults : Geometry where
  bedNeedles := 1024
  cpn := 16
  bedOrigin := 4096
  homeCount := 0
  systems := 3
  headOffset := #v[0, 0, 0, 0, 0, 0]
  catchOffset := 0
  lead := 0
  margin := 64
  parkGap := 4
  travelLo := 0
  travelHi := 1048575
  backlash := 4
  indexTol := 4
  pulseUs := 100
  rails := 4
  carriers := 8
  carrierRail := #v[0, 0, 1, 1, 2, 2, 3, 3, 3, 3, 3, 3, 3, 3, 3, 3]
  carrierCap := #v[8, 8, 8, 8, 8, 8, 8, 8, 8, 8, 8, 8, 8, 8, 8, 8]
  xferCap := 3

/-- The settings store: the stored fields, and whether their check word matches (R8, R10, R11). -/
structure SettingsStore where
  record : Geometry
  checkGood : Bool
deriving DecidableEq, Repr

/-- The geometry block (R1, R4, R8, R11). -/
structure GeometryBlock where
  record : Geometry
  check : Nat
  mode : Mode
  storeBusy : Bool
  settingsBlank : Bool
  store : SettingsStore
deriving DecidableEq, Repr

/-! ## Position counter -/

/-- The position counter (R12 to R20). `count` is P. -/
structure PositionCounter where
  count : Nat
  valid : Bool
  homing : Bool
  racking : Int
  rackKnown : Bool
  levelA : Bool
  levelB : Bool
deriving DecidableEq, Repr

/-! ## Pattern memory, technique tables, row pointers -/

/-- The cells of the pattern memory: cell `j` of row `r` at address `1280 r + j`; an unlisted cell is colour 0 (R39). -/
abbrev Memory := Store Colour

/-- The pattern memory and its row lock set (R24, R25). -/
structure PatternMemory where
  cells : Memory
  locks : List Nat
deriving DecidableEq, Repr

/-- The load cursor of the Pattern Port controller (R27, R31). -/
structure LoadCursor where
  row : Nat
  cell : Nat
  continuation : Bool
  overrun : Bool
deriving DecidableEq, Repr

/-- A technique-table entry (R40). -/
structure TechniqueEntry where
  front : Action
  back : Action
  parity : Parity
deriving DecidableEq, Repr

/-- The entry every table holds after power-on and RESET (R51). -/
def TechniqueEntry.blank : TechniqueEntry := ⟨.miss, .miss, .all⟩

/-- The technique tables and their lock set (R40, R49). -/
structure TechniqueMemory where
  tables : Vector (Vector TechniqueEntry 16) 8
  locks : List (Fin 8)
deriving DecidableEq, Repr

/-- A row pointer (R52). -/
structure Pointer where
  current : Nat
  low : Nat
  high : Nat
  mode : PointerMode
  step : Nat
deriving DecidableEq, Repr

/-- A pointer after every reset (R62). -/
def Pointer.initial : Pointer := ⟨0, 0, 511, .fixed, 1⟩

/-! ## Courses -/

/-- Where a system's row comes from (R63). -/
inductive RowSource where
  | direct (row : Nat)
  | pointer (p : Fin 8)
deriving DecidableEq, Repr

/-- The motif overlay of a system entry (R63, R93). -/
structure Overlay where
  row : Nat
  origin : Nat
  width : Nat
  key : Colour
deriving DecidableEq, Repr

/-- A system entry of a course record (R63). -/
structure SystemEntry where
  system : System
  source : RowSource
  table : Fin 8
  carrier : Option Carrier
  width : Nat
  origin : Nat
  shift : Int
  mirror : Bool
  exchange : Option (Colour × Colour)
  overlay : Option Overlay
deriving DecidableEq, Repr

/-- The reasons and details with which an arming is refused (R137). -/
inductive ArmingRefusal where
  | notHomed
  | rackUnknown
  | rackMismatch (current required : Int)
  | supplyNotOn (supply : SupplyState)
  | stopLatched (stopIn : Bool)
  | zoneEmpty (left right : Int)
  | transferPair (system : System) (bed : Bed) (index : Int)
  | carrierUnknown (carrier unknown : Carrier)
  | railConflict (earlier refused : Carrier)
  | carrierSide (carrier : Carrier) (pickup bound : Int)
  | carrierBlocked (carrier blocker : Carrier)
  | outOfReach (right : Bool) (turningPoint : Int) (limit : Nat)
deriving DecidableEq, Repr

/-- A refusal as the course record keeps it: reason, details and stage (R64, R137). -/
structure LastRefusal where
  reason : ArmingRefusal
  stage : Nat
deriving DecidableEq, Repr

/-- The grant summary of a course record (R64). -/
structure GrantSummary where
  left : Int
  right : Int
  speed : Nat
deriving DecidableEq, Repr

/-- A course record (R63, R64). -/
structure Course where
  tag : BitVec 16
  kind : Kind
  direction : Direction
  racking : Int
  speed : Nat
  zone : Option (Int × Int)
  entries : List SystemEntry
  state : CourseState
  resolved : List (System × Nat)
  lastRefusal : Option LastRefusal
  grant : Option GrantSummary
  lastFault : Option FaultReason
  parked : List (Carrier × Int)
deriving DecidableEq, Repr

/-- How a retired course ended (R72). -/
inductive CourseOutcome where
  | done | discarded
deriving DecidableEq, Repr

/-- A completion record (R73). -/
structure CompletionRecord where
  tag : BitVec 16
  outcome : CourseOutcome
  fault : Option FaultReason
  rows : List (System × Nat)
  left : Int
  right : Int
  speed : Nat
  parked : List (Carrier × Int)
deriving DecidableEq, Repr

/-- The course queue and the completion list, the front first (R68, R69), the global zone (R67), the want level (R81). -/
structure CourseQueue where
  courses : List Course
  completions : List CompletionRecord
  zoneLeft : Int
  zoneRight : Int
  wantLevel : Nat
deriving DecidableEq, Repr

/-! ## Arming engine and stroke image -/

/-- The stages of arming after stage 1, which is taken with REQUEST_STROKE (R126). -/
inductive ArmingStage where
  | locks | zone | image | pairing | carrierPlan | extent | speed | completion
deriving DecidableEq, Repr

/-- A grant record (R138). -/
structure GrantRecord where
  tag : BitVec 16
  direction : Direction
  start : Int
  finish : Int
  left : Int
  right : Int
  speed : Nat
  clampedLeft : Bool
  clampedRight : Bool
  speedCapped : Bool
  suppressed : Bool
  carrierIdle : Bool
  engaged : List (Carrier × Int × Int)
deriving DecidableEq, Repr

/-- A refusal record (R137). -/
structure RefusalRecord where
  tag : BitVec 16
  reason : ArmingRefusal
  stage : Nat
deriving DecidableEq, Repr

/-- The outcome record of the last arming (R139). -/
inductive OutcomeRecord where
  | grant (record : GrantRecord)
  | refusal (record : RefusalRecord)
deriving DecidableEq, Repr

/-- The arming engine (R125, R134, R139, R143): the stage it takes next (none: idle), its notes, what stages 7 and 8
found, the outcome record, and the drive cap (R133). -/
structure ArmingEngine where
  stage : Option ArmingStage
  positionLost : Bool
  stopSeen : Bool
  suppressed : Bool
  carrierIdle : Bool
  clampedLeft : Bool
  clampedRight : Bool
  speedCapped : Bool
  turnLeft : Int
  turnRight : Int
  grantedSpeed : Nat
  outcome : Option OutcomeRecord
  driveCap : Nat
deriving DecidableEq, Repr

/-- The arming engine after every reset (R143). -/
def ArmingEngine.initial : ArmingEngine where
  stage := none
  positionLost := false
  stopSeen := false
  suppressed := false
  carrierIdle := false
  clampedLeft := false
  clampedRight := false
  speedCapped := false
  turnLeft := 0
  turnRight := 0
  grantedSpeed := 0
  outcome := none
  driveCap := 8

/-- How far a plan entry has come (R119). -/
inductive Progress where
  | awaitingCatch | carrying | left
deriving DecidableEq, Repr

/-- An entry of the catch and release plan (R104, R119). -/
structure PlanEntry where
  carrier : Carrier
  system : System
  pickup : Int
  release : Int
  progress : Progress
deriving DecidableEq, Repr

/-- The stroke image (R86). A needle a list does not name is MISS. -/
structure StrokeImage where
  lists : Vector (Store Action) 6
  zone : Option (Nat × Nat)
  extents : Vector (Option (Nat × Nat)) 3
  plan : List PlanEntry
  extent : Option (Int × Int)
deriving DecidableEq, Repr

/-- The cleared image (R87). -/
def StrokeImage.cleared : StrokeImage := ⟨#v[[], [], [], [], [], []], none, #v[none, none, none], [], none⟩

/-! ## Head sequencers -/

/-- The stroke record (R147), but for the pulse-running flags, which outlive it. -/
structure StrokeRecord where
  direction : Direction
  finish : Int
  furthest : Int
  next : Vector Int 6
deriving DecidableEq, Repr

/-- The head sequencers: stroke record, pulse-running flags, and what each head's lines carry (MISS at rest; R152). -/
structure HeadSequencers where
  stroke : Option StrokeRecord
  pulses : Vector Bool 6
  lines : Vector Action 6
deriving DecidableEq, Repr

/-- The head sequencers after every reset (R158). -/
def HeadSequencers.initial : HeadSequencers where
  stroke := none
  pulses := #v[false, false, false, false, false, false]
  lines := #v[.miss, .miss, .miss, .miss, .miss, .miss]

/-- Every catcher raised, as every kind of reset leaves them (R119). -/
def catchersRaised : Vector Bool 8 := #v[false, false, false, false, false, false, false, false]

/-! ## Carrier table and retained memory -/

/-- The state of a carrier, with its position where it has one (R105). -/
inductive CarrierStatus where
  | parked (position : Int)
  | engaged (position : Int)
  | held (position : Int)
  | unknown
deriving DecidableEq, Repr

/-- An entry of the carrier table (R105). -/
structure CarrierEntry where
  status : CarrierStatus
  rail : Rail
deriving DecidableEq, Repr

/-- The fault record (R164). -/
structure FaultRecord where
  tag : BitVec 16
  reason : FaultReason
  carrier : Option Carrier
  head : Option Head
  count : Nat
  next : Vector Int 6
  resumable : Bool
deriving DecidableEq, Repr

/-- The resume record (R170). -/
structure ResumeRecord where
  head : Option (BitVec 16 × CourseState)
  rows : List (System × Nat)
  fault : Option FaultRecord
  pointers : Vector Pointer 8
deriving DecidableEq, Repr

/-- A change waiting to be written to retained memory (R107, R170). -/
inductive RetainedChange where
  /-- one carrier-table entry -/
  | carrier (k : Carrier) (entry : CarrierEntry)
  /-- a resume record taken at a power-fail warning -/
  | resume (record : ResumeRecord)
  /-- the resume record made absent -/
  | clearResume
  /-- the recovered contents, written back with a fresh check word at start-up (R108) -/
  | recovered (carriers : Vector CarrierEntry 16) (resume : Option ResumeRecord)
deriving DecidableEq, Repr

/-- Retained memory: its contents, whether its check word matches, whether the backup supply has failed since the last
start-up, the changes still to be written (the front one is being written), and RETAINED_LOST (R107, R108). -/
structure RetainedMemory where
  carriers : Vector CarrierEntry 16
  resume : Option ResumeRecord
  checkGood : Bool
  backupFailed : Bool
  writes : List RetainedChange
  lost : Bool
deriving DecidableEq, Repr

/-! ## Stop and fault unit, ports, attention reasons -/

/-- The stop and fault unit (R159, R164, R170). -/
structure StopUnit where
  latch : Bool
  faultRecord : Option FaultRecord
  resume : Option ResumeRecord
deriving DecidableEq, Repr

/-- What the reply of a read command carried that the end of its frame acts on (R176). -/
inductive Carried where
  | nothing
  /-- a status word: for each of GRANT_WITHDRAWN, STROKE_DONE and WAKE_DONE that it showed pending, its count (R178) -/
  | reasons (grantWithdrawn strokeDone wakeDone : Option Nat)
  /-- the fault record, with the count of FAULT -/
  | fault (count : Nat)
  /-- a grant record, with the count of the outcome record's reasons -/
  | grant (count : Nat)
  /-- a refusal record, with the count of the outcome record's reasons -/
  | refusal (count : Nat)
  /-- the completion record at the front of the list -/
  | completion
  /-- a completion record that has left the list since (R78) -/
  | gone
deriving DecidableEq, Repr

/-- A formed reply: its bytes, the result the command's own rule gives with it, and what it carried. -/
structure Formed where
  reply : List Byte
  result : ResultCode
  carried : Carried
deriving DecidableEq, Repr

/-- A read frame in progress whose reply has been formed (R173, R176). -/
structure OpenFrame where
  code : Byte
  formed : Formed
deriving DecidableEq, Repr

/-- A port controller: last result (R174), frame in progress, and the bytes clocked out in the latest frame. -/
structure PortState where
  lastResult : ResultCode
  frame : Option OpenFrame
  out : List Byte
deriving DecidableEq, Repr

/-- A port after power-on and RESET (R174). -/
def PortState.initial : PortState := ⟨.busy, none, []⟩

/-- The Pattern Port attention reasons but COURSES_LOW, which follows its condition (R178, R82). -/
structure PatternReasons where
  completionWaiting : Bool
  headRefused : Bool
  fault : Bool
  resumeValid : Bool
deriving DecidableEq, Repr

/-- The Drive Port attention reasons (R178). -/
structure DriveReasons where
  grantReady : Bool
  refusalReady : Bool
  grantWithdrawn : Bool
  strokeDone : Bool
  fault : Bool
  wakeDone : Bool
deriving DecidableEq, Repr

/-- How often each reason that a read command clears has been set: the model's own count, by which the end of a frame
tells a reason that its reply showed from the same reason set again since (R178; log 28). The reasons of the outcome
record, GRANT_READY and REFUSAL_READY, share one count, and so do the two ports' FAULT. -/
structure ReasonCounts where
  outcome : Nat
  grantWithdrawn : Nat
  strokeDone : Nat
  fault : Nat
  wakeDone : Nat
deriving DecidableEq, Repr

/-! ## The whole part -/

/-- The state of the part and the queue of waiting commands (log 1). -/
@[ext]
structure State where
  phase : Phase
  pins : Pins
  geo : GeometryBlock
  pos : PositionCounter
  mem : PatternMemory
  load : LoadCursor
  tech : TechniqueMemory
  ptrs : Vector Pointer 8
  queue : CourseQueue
  arm : ArmingEngine
  image : StrokeImage
  heads : HeadSequencers
  catchers : Vector Bool 8
  carriers : Vector CarrierEntry 16
  retained : RetainedMemory
  supply : SupplyState
  stops : StopUnit
  patternPort : PortState
  drivePort : PortState
  patternReasons : PatternReasons
  driveReasons : DriveReasons
  reasonCounts : ReasonCounts
  freeIndex : Nat
  pending : List Instr
deriving DecidableEq, Repr

/-- No command makes the part stop for good: every one is answered with a result code or takes effect, so there is no
fault to raise. -/
inductive Fault
deriving DecidableEq, Repr

/-- Why a command has no meaning in the model. -/
inductive Refusal where
  /-- the command's arm has no meaning yet; raised by no arm of this model (safe) -/
  | notModelled (mnemonic : String)
deriving DecidableEq, Repr

/-- A carrier whose position is not known, its recorded rail never written (log 5). -/
def CarrierEntry.neverPlaced : CarrierEntry := ⟨.unknown, 0⟩

/-- All sixteen carriers never placed. -/
def carriersNeverPlaced : Vector CarrierEntry 16 := Vector.ofFn fun _ => CarrierEntry.neverPlaced

/-- Every technique entry MISS, MISS, ALL (R51). -/
def TechniqueMemory.initial : TechniqueMemory :=
  ⟨Vector.ofFn fun _ => Vector.ofFn fun _ => TechniqueEntry.blank, []⟩

/-- Every pointer at its reset values (R62). -/
def pointersInitial : Vector Pointer 8 := Vector.ofFn fun _ => Pointer.initial

/-- The queue after every reset (R84, R85). -/
def CourseQueue.initial : CourseQueue := ⟨[], [], 0, 1279, 2⟩

/-- The load cursor after every reset (R39). -/
def LoadCursor.initial : LoadCursor := ⟨0, 0, false, false⟩

/-- No Pattern Port reason pending. -/
def PatternReasons.none : PatternReasons := ⟨false, false, false, false⟩

/-- No Drive Port reason pending. -/
def DriveReasons.none : DriveReasons := ⟨false, false, false, false, false, false⟩

/-- The part right after reset: a power-on start-up of a part never used before has ended (log 3), with the input lines
at rest (log 4). -/
def State.reset : State where
  phase := .running
  pins := ⟨false, false, false, false, false, Vector.ofFn fun _ => false⟩
  geo := ⟨Geometry.defaults, 0, .offline, false, true, ⟨Geometry.defaults, false⟩⟩
  pos := ⟨0, false, false, 0, false, false, false⟩
  mem := ⟨[], []⟩
  load := LoadCursor.initial
  tech := TechniqueMemory.initial
  ptrs := pointersInitial
  queue := CourseQueue.initial
  arm := ArmingEngine.initial
  image := StrokeImage.cleared
  heads := HeadSequencers.initial
  catchers := catchersRaised
  carriers := carriersNeverPlaced
  retained := ⟨carriersNeverPlaced, none, true, false, [], true⟩
  supply := .standby
  stops := ⟨false, none, none⟩
  patternPort := PortState.initial
  drivePort := PortState.initial
  patternReasons := PatternReasons.none
  driveReasons := DriveReasons.none
  reasonCounts := ⟨0, 0, 0, 0, 0⟩
  freeIndex := 0
  pending := []

end Sys2Proof.Machine
end

