-- ==== Sys2Proof/Machine/Ops.lean ====
section
/-! DEFINITION. The operations the meanings share: the update of one block, the sparse stores, the pattern memory, the
window arithmetic, carriers and retained memory, the stop latch, the stroke fault, the return to QUEUED, retirement. -/

namespace Sys2Proof.Machine

/-! ## One block replaced (Laws/State.lean has the lemma of every block for each) -/

def State.withPhase (s : State) (x : Phase) : State := { s with phase := x }
def State.withPins (s : State) (x : Pins) : State := { s with pins := x }
def State.withGeo (s : State) (x : GeometryBlock) : State := { s with geo := x }
def State.withPos (s : State) (x : PositionCounter) : State := { s with pos := x }
def State.withMem (s : State) (x : PatternMemory) : State := { s with mem := x }
def State.withLoad (s : State) (x : LoadCursor) : State := { s with load := x }
def State.withTech (s : State) (x : TechniqueMemory) : State := { s with tech := x }
def State.withPtrs (s : State) (x : Vector Pointer 8) : State := { s with ptrs := x }
def State.withQueue (s : State) (x : CourseQueue) : State := { s with queue := x }
def State.withArm (s : State) (x : ArmingEngine) : State := { s with arm := x }
def State.withImage (s : State) (x : StrokeImage) : State := { s with image := x }
def State.withHeads (s : State) (x : HeadSequencers) : State := { s with heads := x }
def State.withCatchers (s : State) (x : Vector Bool 8) : State := { s with catchers := x }
def State.withCarriers (s : State) (x : Vector CarrierEntry 16) : State := { s with carriers := x }
def State.withRetained (s : State) (x : RetainedMemory) : State := { s with retained := x }
def State.withSupply (s : State) (x : SupplyState) : State := { s with supply := x }
def State.withStops (s : State) (x : StopUnit) : State := { s with stops := x }
def State.withPatternPort (s : State) (x : PortState) : State := { s with patternPort := x }
def State.withDrivePort (s : State) (x : PortState) : State := { s with drivePort := x }
def State.withPatternReasons (s : State) (x : PatternReasons) : State := { s with patternReasons := x }
def State.withDriveReasons (s : State) (x : DriveReasons) : State := { s with driveReasons := x }
def State.withReasonCounts (s : State) (x : ReasonCounts) : State := { s with reasonCounts := x }
def State.withFreeIndex (s : State) (x : Nat) : State := { s with freeIndex := x }
def State.withPending (s : State) (x : List Instr) : State := { s with pending := x }

/-! ## Sparse stores -/

/-- What key `a` holds; an unlisted key reads `d`. -/
def Store.read {α : Type} (d : α) : Store α → Nat → α
  | [], _ => d
  | (k, v) :: m, a => if a = k then v else Store.read d m a

/-- Key `a` takes `v`; writing `d` removes the key, and the keys stay rising. -/
def Store.write {α : Type} [DecidableEq α] (d : α) : Store α → Nat → α → Store α
  | [], a, v => if v = d then [] else [(a, v)]
  | (k, w) :: m, a, v =>
    if a < k then (if v = d then (k, w) :: m else (a, v) :: (k, w) :: m)
    else if a = k then (if v = d then m else (a, v) :: m)
    else (k, w) :: Store.write d m a v

/-- The canonical form: keys strictly rising, no value equal to `d`. -/
def Store.wf {α : Type} [DecidableEq α] (d : α) (m : Store α) : Bool :=
  decide ((m.map Prod.fst).Pairwise (· < ·)) && m.all fun e => decide (e.2 ≠ d)

/-! ## Pattern memory (R24) -/

/-- The address of a cell. -/
def cellAddress (row cell : Nat) : Nat := row * Config.cellCount + cell

/-- The colour of a cell. -/
def Memory.read (m : Memory) (row cell : Nat) : Colour := Store.read 0 m (cellAddress row cell)

/-- A cell takes a colour. -/
def Memory.write (m : Memory) (row cell : Nat) (c : Colour) : Memory := Store.write 0 m (cellAddress row cell) c

/-- The canonical form of the pattern memory, every address within the 512 rows. -/
def Memory.wf (m : Memory) : Bool :=
  Store.wf 0 m && m.all fun e => decide (e.1 < Config.rowCount * Config.cellCount)

/-- Adds a number to a lock set once (R25, R49). -/
def addLock {α : Type} [DecidableEq α] (x : α) (locks : List α) : List α := if x ∈ locks then locks else locks ++ [x]

/-- The first of `a .. b` (forward), or of `b .. a` (reverse), at which `p` holds (R38, R100). -/
def searchRange (p : Nat → Bool) (a b : Nat) (reverse : Bool) : Option Nat :=
  let range := List.range' a (b + 1 - a)
  (if reverse then range.reverse else range).find? p

/-! ## Numbers -/

/-- `x` brought to the nearest end of `lo .. hi` (00_scope.md, "Clamping and refusing"). -/
def clamp (lo hi x : Int) : Int := if x < lo then lo else if hi < x then hi else x

/-- The direction d: +1 for L2R, -1 for R2L (00_scope.md, "Conventions"). -/
def Direction.sign : Direction → Int
  | .l2r => 1
  | .r2l => -1

/-- `a` lies strictly behind `b` in the direction of travel. -/
def Direction.behind (d : Direction) (a b : Int) : Bool :=
  match d with
  | .l2r => decide (a < b)
  | .r2l => decide (b < a)

/-- The sixteen carriers, lowest number first. -/
def allCarriers : List Carrier := [0, 1, 2, 3, 4, 5, 6, 7, 8, 9, 10, 11, 12, 13, 14, 15]

/-- The six heads, S1F to S3B. -/
def allHeads : List Head := [0, 1, 2, 3, 4, 5]

/-- The three systems, ascending. -/
def allSystems : List System := [0, 1, 2]

/-! ## Windows (R21, R22) -/

/-- The system of a head. -/
def Head.system (h : Head) : System := ⟨h.val / 2, by omega⟩

/-- The bed of a head. -/
def Head.bed (h : Head) : Bed := if h.val % 2 = 0 then .front else .back

/-- The head of a system on a bed. -/
def System.head (s : System) (b : Bed) : Head :=
  match b with
  | .front => ⟨2 * s.val, by omega⟩
  | .back => ⟨2 * s.val + 1, by omega⟩

/-- The window index at position `p` and direction `d` of what stands `offset` counts from the reference (R21, R22). -/
def windowIndex (g : Geometry) (offset : Int) (d : Direction) (p : Int) : Int :=
  (p + offset + d.sign * (g.lead : Int) - (g.bedOrigin : Int) + ((g.cpn / 2 : Nat) : Int)) / (g.cpn : Int)

/-- The head index i_h (R21). -/
def headIndex (g : Geometry) (h : Head) (d : Direction) (p : Int) : Int := windowIndex g g.headOffset[h] d p

/-- The catcher index c (R22). -/
def catcherIndex (g : Geometry) (d : Direction) (p : Int) : Int := windowIndex g g.catchOffset d p

/-! ## The head course (R69) -/

/-- The course at the head of the queue. -/
def State.head? (s : State) : Option Course := s.queue.courses.head?

/-- Whether the head course is in state `st`. -/
def State.headIs (s : State) (st : CourseState) : Bool := decide (s.head?.map Course.state = some st)

/-- Whether the head course is ARMING, ARMED, KNITTING or FAULTED. -/
def State.pastQueued (s : State) : Bool :=
  s.headIs .arming || s.headIs .armed || s.headIs .knitting || s.headIs .faulted

/-- Changes the record of the head course. -/
def State.changeHead (s : State) (f : Course → Course) : State :=
  s.withQueue { s.queue with courses := match s.queue.courses with | [] => [] | c :: cs => f c :: cs }

/-- The number of courses in state QUEUED (R69). -/
def State.queuedCount (s : State) : Nat := s.queue.courses.countP fun c => decide (c.state = .queued)

/-- The number of slots in use (R68). -/
def State.slotsInUse (s : State) : Nat := s.queue.courses.length + s.queue.completions.length

/-- The listed entries of a course in ascending system number (R63). -/
def Course.listed (c : Course) : List SystemEntry :=
  allSystems.filterMap fun sys => c.entries.find? fun e => decide (e.system = sys)

/-- The carriers a course names. -/
def Course.carriers (c : Course) : List Carrier := c.entries.filterMap SystemEntry.carrier

/-! ## Carriers (R105 to R110, R114) -/

/-- The rail a carrier runs on: its CARRIER_RAIL (R105). -/
def State.railOf (s : State) (k : Carrier) : Rail := s.geo.record.carrierRail[k]

/-- Whether a carrier is in use: in 1..CARRIERS (R105). -/
def State.inUse (s : State) (k : Carrier) : Bool := decide (k.val < s.geo.record.carriers)

/-- The carrier lock (R114). -/
def State.carrierLocked (s : State) (k : Carrier) : Bool :=
  s.pastQueued && (match s.head? with | some c => decide (k ∈ c.carriers) | none => false)

/-- The rail lock (R114). -/
def State.railLocked (s : State) (r : Rail) : Bool :=
  allCarriers.any fun k => s.carrierLocked k && decide (s.railOf k = r)

/-- A position brought to the nearer end of -32..N+31 (R106, R111). -/
def Geometry.clampPosition (g : Geometry) (x : Int) : Int := clamp (-32) ((g.bedNeedles : Int) + 31) x

/-- Changes carrier-table entries; each entry that differs afterwards is a change to be written to retained memory
(R107; log 14). Where one event changes several entries, which the spec does not put in an order, they are written in
ascending carrier number (DESIGN CHOICE, log 26). -/
def State.changeCarriers (s : State) (f : Carrier → CarrierEntry → CarrierEntry) : State :=
  let new : Vector CarrierEntry 16 := Vector.ofFn fun k => f k s.carriers[k]
  (s.withCarriers new).withRetained { s.retained with
    writes := s.retained.writes ++
      allCarriers.filterMap fun k => if new[k] = s.carriers[k] then none else some (.carrier k new[k]) }

/-- Changes one carrier-table entry. -/
def State.changeCarrier (s : State) (k : Carrier) (f : CarrierEntry → CarrierEntry) : State :=
  s.changeCarriers fun j e => if j = k then f e else e

/-- The entry with its position lost (R105). -/
def CarrierEntry.lost (e : CarrierEntry) : CarrierEntry := { e with status := .unknown }

/-- A HELD entry becomes UNKNOWN (R109, R123). -/
def CarrierEntry.dropHeld (e : CarrierEntry) : CarrierEntry :=
  match e.status with
  | .held _ => e.lost
  | _ => e

/-- An ENGAGED entry becomes HELD at the position it has (R123). -/
def CarrierEntry.hold (e : CarrierEntry) : CarrierEntry :=
  match e.status with
  | .engaged p => { e with status := .held p }
  | _ => e

/-- A HELD entry becomes ENGAGED at `x` (R123). -/
def CarrierEntry.engageHeld (x : Int) (e : CarrierEntry) : CarrierEntry :=
  match e.status with
  | .held _ => { e with status := .engaged x }
  | _ => e

/-- An ENGAGED or HELD entry takes position `x` (R106). -/
def CarrierEntry.follow (x : Int) (e : CarrierEntry) : CarrierEntry :=
  match e.status with
  | .engaged _ => { e with status := .engaged x }
  | .held _ => { e with status := .held x }
  | _ => e

/-- Whether an entry is HELD. -/
def CarrierEntry.isHeld (e : CarrierEntry) : Bool := match e.status with | .held _ => true | _ => false

/-- Whether an entry is ENGAGED. -/
def CarrierEntry.isEngaged (e : CarrierEntry) : Bool := match e.status with | .engaged _ => true | _ => false

/-- Whether an entry is UNKNOWN. -/
def CarrierEntry.isUnknown (e : CarrierEntry) : Bool := match e.status with | .unknown => true | _ => false

/-- The position of a PARKED entry. -/
def CarrierEntry.parkedAt (e : CarrierEntry) : Option Int := match e.status with | .parked p => some p | _ => none

/-- The position of an entry, absent when UNKNOWN (R105). -/
def CarrierEntry.position (e : CarrierEntry) : Option Int :=
  match e.status with
  | .parked p => some p
  | .engaged p => some p
  | .held p => some p
  | .unknown => none

/-- Raises the catcher of every rail on which a HELD carrier stands (R123, R168). -/
def State.raiseHeldCatchers (s : State) : State :=
  s.withCatchers (Vector.ofFn fun r =>
    s.catchers[r] && !(allCarriers.any fun k => s.carriers[k].isHeld && decide (s.railOf k = r)))

/-! ## Retained memory (R107, R170) -/

/-- The contents of retained memory after one change has been written. A fresh check word over the recovered contents
matches; the check word follows every other change, and stays bad where it was bad (log 16). -/
def RetainedMemory.apply (m : RetainedMemory) : RetainedChange → RetainedMemory
  | .carrier k e => { m with carriers := m.carriers.set k.val e }
  | .resume r => { m with resume := some r }
  | .clearResume => { m with resume := none }
  | .recovered cs r => { m with carriers := cs, resume := r, checkGood := true }

/-- The contents of retained memory once every waiting change has been written. -/
def RetainedMemory.flush (m : RetainedMemory) : RetainedMemory :=
  { m.writes.foldl RetainedMemory.apply m with writes := [] }

/-- Appends a change to those to be written (R107). -/
def State.queueRetained (s : State) (c : RetainedChange) : State :=
  s.withRetained { s.retained with writes := s.retained.writes ++ [c] }

/-! ## Stop latch, locks and image -/

/-- Sets the stop latch, and the stop-seen note while ARMING (R159, R134). -/
def State.setLatch (s : State) : State :=
  let t := s.withStops { s.stops with latch := true }
  if s.headIs .arming then t.withArm { s.arm with stopSeen := true } else t

/-- Empties the row and table lock sets and clears the stroke image (R25, R49, R87). -/
def State.releaseCourse (s : State) : State :=
  ((s.withMem { s.mem with locks := [] }).withTech { s.tech with locks := [] }).withImage .cleared

/-- The head course returns to QUEUED from ARMING or ARMED, its place, written fields and resolved rows kept (R71); a
pending GRANT_READY is cleared on a return from ARMED (R139), and the arming engine is idle. -/
def State.returnToQueued (s : State) : State :=
  let t := ((s.changeHead fun c => { c with state := .queued }).releaseCourse).withArm { s.arm with stage := none }
  if s.headIs .armed then t.withDriveReasons { s.driveReasons with grantReady := false } else t

/-! ## Attention reasons set (R178) -/

/-- FAULT is set on both ports, and counted (R163, R178). -/
def State.raiseFault (s : State) : State :=
  let t := s.withPatternReasons { s.patternReasons with fault := true }
  (t.withDriveReasons { s.driveReasons with fault := true }).withReasonCounts
    { s.reasonCounts with fault := s.reasonCounts.fault + 1 }

/-- GRANT_WITHDRAWN is set, and counted (R17, R178). -/
def State.raiseGrantWithdrawn (s : State) : State :=
  (s.withDriveReasons { s.driveReasons with grantWithdrawn := true }).withReasonCounts
    { s.reasonCounts with grantWithdrawn := s.reasonCounts.grantWithdrawn + 1 }

/-- STROKE_DONE is set, and counted (R156, R178). -/
def State.raiseStrokeDone (s : State) : State :=
  (s.withDriveReasons { s.driveReasons with strokeDone := true }).withReasonCounts
    { s.reasonCounts with strokeDone := s.reasonCounts.strokeDone + 1 }

/-- WAKE_DONE is set, and counted (R145, R178). -/
def State.raiseWakeDone (s : State) : State :=
  (s.withDriveReasons { s.driveReasons with wakeDone := true }).withReasonCounts
    { s.reasonCounts with wakeDone := s.reasonCounts.wakeDone + 1 }

/-- A grant or a refusal has been written to the outcome record: GRANT_READY or REFUSAL_READY is set, HEAD_REFUSED is set
or cleared, and the record is counted (R135, R137, R178). -/
def State.raiseOutcome (s : State) (granted : Bool) : State :=
  let t := s.withDriveReasons { s.driveReasons with
    grantReady := s.driveReasons.grantReady || granted, refusalReady := s.driveReasons.refusalReady || !granted }
  (t.withPatternReasons { s.patternReasons with headRefused := !granted }).withReasonCounts
    { s.reasonCounts with outcome := s.reasonCounts.outcome + 1 }

/-! ## Stroke faults (R163) -/

/-- Whether a course faulted for this reason may be resumed (R162). -/
def FaultReason.resumable : FaultReason → Bool
  | .stopRequest => true
  | .yarnBreak => true
  | .overspeed => false
  | .reversal => false
  | .encoder => false
  | .powerWarning => false

/-- Every head's lines at rest and every pulse cut (R163, R158). -/
def HeadSequencers.silence (h : HeadSequencers) : HeadSequencers :=
  { h with pulses := HeadSequencers.initial.pulses, lines := HeadSequencers.initial.lines }

/-- The fault record of a stroke fault taken now (R164). -/
def State.faultRecordNow (s : State) (c : Course) (reason : FaultReason) (carrier : Option Carrier) (head : Option Head) :
    FaultRecord where
  tag := c.tag
  reason := reason
  carrier := carrier
  head := head
  count := s.pos.count
  next := match s.heads.stroke with | some r => r.next | none => #v[0, 0, 0, 0, 0, 0]
  resumable := reason.resumable

/-- A stroke fault: taken only while the head course is KNITTING (R162, R163). -/
def State.strokeFault (s : State) (reason : FaultReason) (carrier : Option Carrier) (head : Option Head) : State :=
  match s.head? with
  | none => s
  | some c =>
    if c.state = .knitting then
      let t := (s.withHeads s.heads.silence).changeCarriers fun _ e => e.hold
      let t := t.changeHead fun c => { c with state := .faulted, lastFault := some reason }
      let t := t.withStops { t.stops with latch := true, faultRecord := some (s.faultRecordNow c reason carrier head) }
      t.raiseFault
    else s

/-! ## The loss of P_VALID (R17) -/

/-- P_VALID is cleared, with the effects of R17 by the state of the head course. -/
def State.losePosition (s : State) : State :=
  let t := s.withPos { s.pos with valid := false }
  match s.head?.map Course.state with
  | some .arming => t.withArm { t.arm with positionLost := true }
  | some .armed => t.returnToQueued.raiseGrantWithdrawn
  | some .knitting => t.strokeFault .encoder none none
  | _ => t

/-! ## Retirement (R72) -/

/-- The completion record of a course (R73). -/
def Course.completion (c : Course) (outcome : CourseOutcome) : CompletionRecord where
  tag := c.tag
  outcome := outcome
  fault := match outcome with | .done => none | .discarded => c.lastFault
  rows := c.resolved
  left := match c.grant with | some g => g.left | none => 0
  right := match c.grant with | some g => g.right | none => 0
  speed := match c.grant with | some g => g.speed | none => 0
  parked := c.parked

/-- The head course retires: its record joins the completion list in its slot, its locks and image go, the stroke record
is made absent, COMPLETION_WAITING is set (R72, R87, R147). -/
def State.retire (s : State) (outcome : CourseOutcome) : State :=
  match s.queue.courses with
  | [] => s
  | c :: cs =>
    let t := (s.withQueue { s.queue with
      courses := cs, completions := s.queue.completions ++ [c.completion outcome] }).releaseCourse
    (t.withHeads { t.heads with stroke := none }).withPatternReasons { t.patternReasons with completionWaiting := true }

/-- A FAULTED head course is discarded: HELD carriers become UNKNOWN, their catchers rise, the course retires (R168). -/
def State.discardFaulted (s : State) : State :=
  (s.raiseHeldCatchers.changeCarriers fun _ e => e.dropHeld).retire .discarded

end Sys2Proof.Machine
end

