-- ==== Sys2Proof/Machine/Operands.lean ====
section
/-! DEFINITION. The operand forms of the commands: the codes of R181, the geometry fields of R1, the checks of a course
record (R63, R65), and the byte layouts of the records in the replies (R181, R182). -/

namespace Sys2Proof.Machine

/-! ## Codes (R181) -/

/-- The result codes' bytes (11_the_two_ports.md, "Result codes"). -/
def ResultCode.code : ResultCode → Byte
  | .ok => 0x00 | .notNow => 0x01 | .busy => 0x02 | .range => 0x03 | .inUse => 0x04 | .full => 0x05 | .empty => 0x06
  | .stopped => 0x07 | .wrongSide => 0x08 | .notHomed => 0x09 | .geometry => 0x0A | .frame => 0x0B | .unknown => 0x0C

def Action.code : Action → Byte
  | .miss => 0 | .tuck => 1 | .knit => 2 | .xfer => 3 | .recv => 4

def Action.ofCode (b : Byte) : Option Action :=
  match b.toNat with
  | 0 => some .miss | 1 => some .tuck | 2 => some .knit | 3 => some .xfer | 4 => some .recv | _ => none

def Parity.code : Parity → Byte
  | .all => 0 | .even => 1 | .odd => 2

def Parity.ofCode (b : Byte) : Option Parity :=
  match b.toNat with
  | 0 => some .all | 1 => some .even | 2 => some .odd | _ => none

def PointerMode.code : PointerMode → Byte
  | .fixed => 0 | .up => 1 | .down => 2

def PointerMode.ofCode (b : Byte) : Option PointerMode :=
  match b.toNat with
  | 0 => some .fixed | 1 => some .up | 2 => some .down | _ => none

def Kind.ofCode (b : Byte) : Option Kind :=
  match b.toNat with
  | 0 => some .knit | 1 => some .transfer | _ => none

def Direction.code : Direction → Byte
  | .l2r => 0 | .r2l => 1

def Direction.ofCode (b : Byte) : Option Direction :=
  match b.toNat with
  | 0 => some .l2r | 1 => some .r2l | _ => none

def CourseState.code : CourseState → Byte
  | .queued => 1 | .arming => 2 | .armed => 3 | .knitting => 4 | .faulted => 5

def CarrierStatus.code : CarrierStatus → Byte
  | .parked _ => 0 | .engaged _ => 1 | .held _ => 2 | .unknown => 3

def SupplyState.code : SupplyState → Byte
  | .standby => 0 | .waking => 1 | .on => 2

def FaultReason.code : FaultReason → Byte
  | .stopRequest => 1 | .yarnBreak => 2 | .overspeed => 3 | .reversal => 4 | .encoder => 5 | .powerWarning => 6

/-- The refusal reasons in the order of R137. -/
def ArmingRefusal.code : ArmingRefusal → Byte
  | .notHomed => 1 | .rackUnknown => 2 | .rackMismatch _ _ => 3 | .supplyNotOn _ => 4 | .stopLatched _ => 5
  | .zoneEmpty _ _ => 6 | .transferPair _ _ _ => 7 | .carrierUnknown _ _ => 8 | .railConflict _ _ => 9
  | .carrierSide _ _ _ => 10 | .carrierBlocked _ _ => 11 | .outOfReach _ _ _ => 12

def CourseOutcome.code : CourseOutcome → Byte
  | .done => 1 | .discarded => 2

def Bed.code : Bed → Byte
  | .front => 0 | .back => 1

/-- A flag byte: 1 for set, 0 otherwise (R181). -/
def flagByte (b : Bool) : Byte := if b then 1 else 0

/-- The carrier of a number 1..16. -/
def Carrier.ofNumber (n : Nat) : Option Carrier := if h : 1 ≤ n ∧ n ≤ 16 then some ⟨n - 1, by omega⟩ else none

/-- The rail of a number 1..8. -/
def Rail.ofNumber (n : Nat) : Option Rail := if h : 1 ≤ n ∧ n ≤ 8 then some ⟨n - 1, by omega⟩ else none

/-- The system of a number 1..3. -/
def System.ofNumber (n : Nat) : Option System := if h : 1 ≤ n ∧ n ≤ 3 then some ⟨n - 1, by omega⟩ else none

/-- The head of a number 1..6 (R164). -/
def Head.ofNumber (n : Nat) : Option Head := if h : 1 ≤ n ∧ n ≤ 6 then some ⟨n - 1, by omega⟩ else none

/-- A table or pointer number 0..7. -/
def bankNumber (n : Nat) : Option (Fin 8) := if h : n < 8 then some ⟨n, h⟩ else none

/-- A colour 0..15 carried in a byte. -/
def colourOf (b : Byte) : Option Colour := if b.toNat < 16 then some (BitVec.ofNat 4 b.toNat) else none

/-! ## Geometry fields (R1) -/

/-- The fields of the geometry record, in the order of the table of R1. -/
inductive GeometryField where
  | bedNeedles | cpn | bedOrigin | homeCount | systems | headOffset | catchOffset | lead | margin | parkGap | travelLo
  | travelHi | backlash | indexTol | pulseUs | rails | carriers | carrierRail | carrierCap | xferCap | geometryCheck
deriving DecidableEq, Repr

/-- The field codes, BED_NEEDLES 1 to GEOMETRY_CHECK 21 (R181). -/
def GeometryField.ofCode (b : Byte) : Option GeometryField :=
  match b.toNat with
  | 1 => some .bedNeedles | 2 => some .cpn | 3 => some .bedOrigin | 4 => some .homeCount | 5 => some .systems
  | 6 => some .headOffset | 7 => some .catchOffset | 8 => some .lead | 9 => some .margin | 10 => some .parkGap
  | 11 => some .travelLo | 12 => some .travelHi | 13 => some .backlash | 14 => some .indexTol | 15 => some .pulseUs
  | 16 => some .rails | 17 => some .carriers | 18 => some .carrierRail | 19 => some .carrierCap | 20 => some .xferCap
  | 21 => some .geometryCheck
  | _ => none

/-- A value of a field with no index (its index byte is 0, R181). -/
def unindexed {α : Type} (index : Nat) (x : Option α) : Option α := if index = 0 then x else none

/-- The present value of a field; none if the index is outside the field's index range (R3). -/
def GeometryBlock.fieldValue (b : GeometryBlock) (field : GeometryField) (index : Nat) : Option Int :=
  let g := b.record
  match field with
  | .bedNeedles => unindexed index (some (g.bedNeedles : Int))
  | .cpn => unindexed index (some (g.cpn : Int))
  | .bedOrigin => unindexed index (some (g.bedOrigin : Int))
  | .homeCount => unindexed index (some (g.homeCount : Int))
  | .systems => unindexed index (some (g.systems : Int))
  | .headOffset => (Head.ofNumber index).map fun h => g.headOffset[h]
  | .catchOffset => unindexed index (some g.catchOffset)
  | .lead => unindexed index (some (g.lead : Int))
  | .margin => unindexed index (some (g.margin : Int))
  | .parkGap => unindexed index (some (g.parkGap : Int))
  | .travelLo => unindexed index (some (g.travelLo : Int))
  | .travelHi => unindexed index (some (g.travelHi : Int))
  | .backlash => unindexed index (some (g.backlash : Int))
  | .indexTol => unindexed index (some (g.indexTol : Int))
  | .pulseUs => unindexed index (some (g.pulseUs : Int))
  | .rails => unindexed index (some (g.rails : Int))
  | .carriers => unindexed index (some (g.carriers : Int))
  | .carrierRail => (Carrier.ofNumber index).map fun k => (g.carrierRail[k].val : Int) + 1
  | .carrierCap => (Carrier.ofNumber index).map fun k => ((g.carrierCap[k] : Nat) : Int)
  | .xferCap => unindexed index (some (g.xferCap : Int))
  | .geometryCheck => unindexed index (some (b.check : Int))

/-- A value in `lo .. hi`. -/
def natIn (lo hi : Nat) (v : Int) : Option Nat := if (lo : Int) ≤ v ∧ v ≤ (hi : Int) then some v.toNat else none

/-- An offset in -32,768..32,767. -/
def offsetIn (v : Int) : Option Int := if -32768 ≤ v ∧ v ≤ 32767 then some v else none

/-- The record with one field written; none if the field is not writable or the index or the value is out of range
(R1, R2). -/
def Geometry.setField (g : Geometry) (field : GeometryField) (index : Nat) (v : Int) : Option Geometry :=
  match field with
  | .bedNeedles => unindexed index ((natIn 64 1280 v).map fun x => { g with bedNeedles := x })
  | .cpn => unindexed index ((natIn 4 64 v).map fun x => { g with cpn := x })
  | .bedOrigin => unindexed index ((natIn 0 1048575 v).map fun x => { g with bedOrigin := x })
  | .homeCount => unindexed index ((natIn 0 1048575 v).map fun x => { g with homeCount := x })
  | .systems => unindexed index ((natIn 1 3 v).map fun x => { g with systems := x })
  | .headOffset =>
    match Head.ofNumber index with
    | some h => (offsetIn v).map fun x => { g with headOffset := g.headOffset.set h.val x }
    | none => none
  | .catchOffset => unindexed index ((offsetIn v).map fun x => { g with catchOffset := x })
  | .lead => unindexed index ((natIn 0 255 v).map fun x => { g with lead := x })
  | .margin => unindexed index ((natIn 0 4095 v).map fun x => { g with margin := x })
  | .parkGap => unindexed index ((natIn 0 16 v).map fun x => { g with parkGap := x })
  | .travelLo => unindexed index ((natIn 0 1048575 v).map fun x => { g with travelLo := x })
  | .travelHi => unindexed index ((natIn 0 1048575 v).map fun x => { g with travelHi := x })
  | .backlash => unindexed index ((natIn 0 63 v).map fun x => { g with backlash := x })
  | .indexTol => unindexed index ((natIn 0 15 v).map fun x => { g with indexTol := x })
  | .pulseUs => unindexed index ((natIn 20 400 v).map fun x => { g with pulseUs := x })
  | .rails => unindexed index ((natIn 1 8 v).map fun x => { g with rails := x })
  | .carriers => unindexed index ((natIn 1 16 v).map fun x => { g with carriers := x })
  | .carrierRail =>
    match Carrier.ofNumber index with
    | some k => (Rail.ofNumber v.toNat).map fun r => { g with carrierRail := g.carrierRail.set k.val r }
    | none => none
  | .carrierCap =>
    match Carrier.ofNumber index with
    | some k => (natIn 1 8 v).map fun x => { g with carrierCap := g.carrierCap.set k.val x }
    | none => none
  | .xferCap => unindexed index ((natIn 1 8 v).map fun x => { g with xferCap := x })
  | .geometryCheck => none

/-! ## Rows and cells -/

/-- A row number 0..511. -/
def rowOf (b : BitVec 16) : Option Nat := if b.toNat < Config.rowCount then some b.toNat else none

/-- A cell number 0..1,279. -/
def cellOf (b : BitVec 16) : Option Nat := if b.toNat < Config.cellCount then some b.toNat else none

/-- The two cells of each data byte, the more significant half first (R24). -/
def unpackCells (data : List Byte) : List Colour :=
  data.flatMap fun b => [b.extractLsb' 4 4, b.extractLsb' 0 4]

/-- Cells packed two to a byte, the first in the more significant half; a half with no cell is 0 (R24, R33). -/
def packCells : List Colour → List Byte
  | [] => []
  | [a] => [a ++ (0 : Colour)]
  | a :: b :: cs => (a ++ b) :: packCells cs

/-- Whether a colour is in a set of sixteen membership bits (R37, R181). -/
def inColourSet (set : BitVec 16) (c : Colour) : Bool := set.getLsbD c.toNat

/-! ## The course record (R63, R65, R182) -/

/-- The row source of an entry; a kind other than 0 or 1 is out of range (R182). -/
def entrySource (f : EntryFrame) : Option RowSource :=
  if f.sourceKind = 0 then (rowOf f.source).map .direct
  else if f.sourceKind = 1 then (bankNumber f.source.toNat).map .pointer
  else none

/-- The carrier of an entry: none for 0; otherwise it must be in 1..CARRIERS, not named by an earlier entry, and the
course of kind KNIT (R63, R65). -/
def entryCarrier (f : EntryFrame) (g : Geometry) (kind : Kind) (earlier : List SystemEntry) :
    Option (Option Carrier) :=
  if f.carrier = 0 then some none
  else
    match Carrier.ofNumber f.carrier.toNat with
    | some k => if k.val < g.carriers ∧ kind = .knit ∧ some k ∉ earlier.map SystemEntry.carrier then some (some k) else none
    | none => none

/-- The exchange pair of an entry, if its flag is not 0 (R63). -/
def entryExchange (f : EntryFrame) : Option (Option (Colour × Colour)) :=
  if f.exchange = 0 then some none
  else
    match colourOf f.exchangeA, colourOf f.exchangeB with
    | some a, some b => some (some (a, b))
    | _, _ => none

/-- The overlay of an entry, if its flag is not 0 (R63). -/
def entryOverlay (f : EntryFrame) : Option (Option Overlay) :=
  if f.overlay = 0 then some none
  else
    match rowOf f.overlayRow, cellOf f.overlayOrigin, natIn 1 1280 f.overlayWidth.toNat, colourOf f.overlayKey with
    | some row, some origin, some width, some key => some (some ⟨row, origin, width, key⟩)
    | _, _, _, _ => none

/-- The system number of an entry: in 1..SYSTEMS and not that of an earlier entry (R63). -/
def entrySystem (f : EntryFrame) (g : Geometry) (earlier : List SystemEntry) : Option System :=
  match System.ofNumber f.system.toNat with
  | some sys => if sys.val < g.systems ∧ sys ∉ earlier.map SystemEntry.system then some sys else none
  | none => none

/-- The shift of an entry, -1,279..+1,279 (R63). -/
def entryShift (f : EntryFrame) : Option Int :=
  if -1279 ≤ f.shift.toInt ∧ f.shift.toInt ≤ 1279 then some f.shift.toInt else none

/-- A system entry, if every field passes the checks of R63 and R65 after the earlier entries of the record. -/
def checkEntry (f : EntryFrame) (g : Geometry) (kind : Kind) (earlier : List SystemEntry) : Option SystemEntry :=
  match entrySystem f g earlier, entrySource f, bankNumber f.table.toNat, entryCarrier f g kind earlier,
      natIn 1 1280 f.width.toNat, cellOf f.origin, entryShift f, entryExchange f, entryOverlay f with
  | some system, some source, some table, some carrier, some width, some origin, some shift, some exchange, some overlay =>
    some ⟨system, source, table, carrier, width, origin, shift, decide (f.mirror ≠ 0), exchange, overlay⟩
  | _, _, _, _, _, _, _, _, _ => none

/-- The entries of a record, checked in the order the frame gives (R65). -/
def checkEntries (g : Geometry) (kind : Kind) : List EntryFrame → List SystemEntry → Option (List SystemEntry)
  | [], earlier => some earlier
  | f :: fs, earlier =>
    match checkEntry f g kind earlier with
    | some e => checkEntries g kind fs (earlier ++ [e])
    | none => none

/-- The speed class as stored at commit: 0 as 1, above 8 as 8 (R63). -/
def clampClass (b : Byte) : Nat := if b.toNat = 0 then 1 else if 8 < b.toNat then 8 else b.toNat

/-- A racking -8..+8 (R18, R63). -/
def rackingOf (b : Byte) : Option Int := if -8 ≤ b.toInt ∧ b.toInt ≤ 8 then some b.toInt else none

/-- The course record of a COMMIT_COURSE frame, if every check of R65 holds: QUEUED, the fields the part fills in
absent (R64, R66). -/
def checkCourse (f : CourseFrame) (g : Geometry) : Option Course :=
  if 1 ≤ f.entries.length ∧ f.entries.length ≤ 3 ∧ f.entries.length ≤ g.systems then
    match Kind.ofCode f.kind, Direction.ofCode f.direction, rackingOf f.racking with
    | some kind, some direction, some racking =>
      match checkEntries g kind f.entries [] with
      | some entries =>
        some {
          tag := f.tag
          kind := kind
          direction := direction
          racking := racking
          speed := clampClass f.speed
          zone := if f.zone = 0 then none else some (f.zoneLeft.toInt, f.zoneRight.toInt)
          entries := entries
          state := .queued
          resolved := []
          lastRefusal := none
          grant := none
          lastFault := none
          parked := [] }
      | none => none
    | _, _, _ => none
  else none

/-! ## Layouts of the replies (R181, R182) -/

/-- The low byte of a number in two's complement. -/
def byteOf (x : Int) : Byte := BitVec.ofInt 8 x

/-- Two bytes, most significant first (R181). -/
def be2 (x : Int) : List Byte := [byteOf (x / 256), byteOf x]

/-- Three bytes, most significant first (R181). -/
def be3 (x : Int) : List Byte := [byteOf (x / 65536), byteOf (x / 256), byteOf x]

/-- Four bytes, most significant first (R181). -/
def be4 (x : Int) : List Byte := [byteOf (x / 16777216), byteOf (x / 65536), byteOf (x / 256), byteOf x]

/-- `n` bytes of 0. -/
def zeros (n : Nat) : List Byte := List.replicate n 0

/-- The bytes of a layout part `n` bytes long; what is absent reads 0 (R181). -/
def padTo (n : Nat) (l : List Byte) : List Byte := (l ++ zeros n).take n

/-- System and row pairs, three places of system 1, row 2 (R182). -/
def rowPairs (rows : List (System × Nat)) : List Byte :=
  padTo 9 (rows.flatMap fun r => byteOf (r.1.val + 1) :: be2 r.2)

/-- The number byte of a carrier. -/
def Carrier.byte (k : Carrier) : Byte := byteOf (k.val + 1)

/-- The details of a refusal, 8 bytes (R182). -/
def ArmingRefusal.details : ArmingRefusal → List Byte
  | .notHomed => zeros 8
  | .rackUnknown => zeros 8
  | .rackMismatch current required => padTo 8 [byteOf current, byteOf required]
  | .supplyNotOn supply => padTo 8 [supply.code]
  | .stopLatched stopIn => padTo 8 [flagByte stopIn]
  | .zoneEmpty left right => padTo 8 (be2 left ++ be2 right)
  | .transferPair system bed index => padTo 8 ([byteOf (system.val + 1), bed.code] ++ be2 index)
  | .carrierUnknown carrier unknown => padTo 8 [Carrier.byte carrier, Carrier.byte unknown]
  | .railConflict earlier refused => padTo 8 [Carrier.byte earlier, Carrier.byte refused]
  | .carrierSide carrier pickup bound => padTo 8 (Carrier.byte carrier :: (be2 pickup ++ be2 bound))
  | .carrierBlocked carrier blocker => padTo 8 [Carrier.byte carrier, Carrier.byte blocker]
  | .outOfReach right turningPoint limit => padTo 8 (flagByte right :: (be4 turningPoint ++ be3 limit))

/-- A byte of flags, the first in bit 0. -/
def flagBits (bits : List Bool) : Byte := byteOf (bits.foldr (fun b n => 2 * n + (if b then 1 else 0)) (0 : Int))

/-- The grant record, 31 bytes (R182). -/
def GrantRecord.bytes (g : GrantRecord) : List Byte :=
  be2 g.tag.toNat ++ [g.direction.code] ++ be3 g.start ++ be3 g.finish ++ be2 g.left ++ be2 g.right ++ [byteOf g.speed] ++
    [flagBits [g.clampedLeft, g.clampedRight, g.speedCapped, g.suppressed, g.carrierIdle]] ++ [byteOf g.engaged.length] ++
    padTo 15 (g.engaged.flatMap fun e => Carrier.byte e.1 :: (be2 e.2.1 ++ be2 e.2.2))

/-- The refusal record, 12 bytes (R182). -/
def RefusalRecord.bytes (r : RefusalRecord) : List Byte :=
  be2 r.tag.toNat ++ [r.reason.code, byteOf r.stage] ++ r.reason.details

/-- The reply of READ_GRANT, 32 bytes: the record kind and the record (R139, R182). -/
def outcomeBytes : Option OutcomeRecord → List Byte
  | none => zeros 32
  | some (.grant g) => 1 :: g.bytes
  | some (.refusal r) => 2 :: (r.bytes ++ zeros 19)

/-- The completion record, 29 bytes (R182). -/
def CompletionRecord.bytes (r : CompletionRecord) : List Byte :=
  be2 r.tag.toNat ++ [r.outcome.code] ++ [match r.fault with | some f => f.code | none => 0] ++ [byteOf r.rows.length] ++
    rowPairs r.rows ++ be2 r.left ++ be2 r.right ++ [byteOf r.speed] ++ [byteOf r.parked.length] ++
    padTo 9 (r.parked.flatMap fun p => Carrier.byte p.1 :: be2 p.2)

/-- The fault record, 26 bytes (R182). -/
def FaultRecord.bytes (r : FaultRecord) : List Byte :=
  be2 r.tag.toNat ++ [r.reason.code] ++
    [match r.carrier, r.head with | some k, _ => Carrier.byte k | none, some h => byteOf (h.val + 1) | none, none => 0] ++
    be3 r.count ++ r.next.toList.flatMap be3 ++ [flagByte r.resumable]

/-- The five fields of a pointer, 8 bytes in SET_POINTER order (R181). -/
def Pointer.fields (p : Pointer) : List Byte := be2 p.current ++ be2 p.low ++ be2 p.high ++ [p.mode.code, byteOf p.step]

/-- The reply of READ_HEAD_COURSE, 25 bytes (R80, R182). -/
def headCourseBytes : Option Course → List Byte
  | none => zeros 25
  | some c =>
    [1] ++ be2 c.tag.toNat ++ [c.state.code, byteOf c.resolved.length] ++ rowPairs c.resolved ++
      (match c.lastRefusal with
       | some r => [1, r.reason.code, byteOf r.stage] ++ r.reason.details
       | none => zeros 11)

/-- The resume record, 106 bytes (R182). -/
def ResumeRecord.bytes (r : ResumeRecord) : List Byte :=
  [1] ++ (match r.head with | some h => [1] ++ be2 h.1.toNat ++ [h.2.code] | none => zeros 4) ++ [byteOf r.rows.length] ++
    rowPairs r.rows ++ (match r.fault with | some f => 1 :: f.bytes | none => zeros 27) ++
    r.pointers.toList.flatMap Pointer.fields

end Sys2Proof.Machine
end

