-- ==== Sys2Proof/Machine/Flags.lean ====
section
/-! DEFINITION. The flags and output lines that follow from State: COURSES_LOW, the attention lines, STOP_OUT, AEN, the
actuator lines, and the status word. -/

namespace Sys2Proof.Machine

/-- Whether the part takes frames and counts: powered, with RESET released (R180). -/
def State.live (s : State) : Bool := decide (s.phase = .startUp) || decide (s.phase = .running)

/-- The attention reason COURSES_LOW: fewer QUEUED courses than the want level (R82). -/
def State.coursesLow (s : State) : Bool := decide (s.queuedCount < s.queue.wantLevel)

/-- PATN: some Pattern Port reason is pending; released while RESET is asserted and through start-up (R178, R180). -/
def State.patn (s : State) : Bool :=
  decide (s.phase = .running) &&
    (s.patternReasons.completionWaiting || s.coursesLow || s.patternReasons.headRefused || s.patternReasons.fault ||
      s.patternReasons.resumeValid)

/-- DATN: some Drive Port reason is pending; released while RESET is asserted and through start-up (R178, R180). -/
def State.datn (s : State) : Bool :=
  decide (s.phase = .running) &&
    (s.driveReasons.grantReady || s.driveReasons.refusalReady || s.driveReasons.grantWithdrawn ||
      s.driveReasons.strokeDone || s.driveReasons.fault || s.driveReasons.wakeDone)

/-- STOP_OUT is asserted exactly when the stop latch is set (R159). -/
def State.stopOut (s : State) : Bool := s.stops.latch

/-- AEN is asserted while the supply is ON (R144). -/
def State.aen (s : State) : Bool := decide (s.supply = .on)

/-- The three actuator lines of a head carry the code of its action, all 0 at rest (R152; "Pins and electrical notes"). -/
def State.headLines (s : State) (h : Head) : Bool × Bool × Bool :=
  let code := s.heads.lines[h].code
  (code.getLsbD 0, code.getLsbD 1, code.getLsbD 2)

/-- CATCH1 to CATCH8: high lowers the catcher of the rail (R119; "Pins and electrical notes"). -/
def State.catchLine (s : State) (r : Rail) : Bool := s.catchers[r]

/-- The attention byte of a port (R182). -/
def State.attentionByte (s : State) : Port → Byte
  | .pattern =>
    flagBits [s.patternReasons.completionWaiting, s.coursesLow, s.patternReasons.headRefused, s.patternReasons.fault,
      s.patternReasons.resumeValid]
  | .drive =>
    flagBits [s.driveReasons.grantReady, s.driveReasons.refusalReady, s.driveReasons.grantWithdrawn,
      s.driveReasons.strokeDone, s.driveReasons.fault, s.driveReasons.wakeDone]

/-- The status word of a port, 7 bytes (R177, R182). -/
def State.statusWord (s : State) (port : Port) : List Byte :=
  [flagBits [decide (s.geo.mode = .ready), s.geo.storeBusy, s.supply.code.getLsbD 0, s.supply.code.getLsbD 1,
      s.stops.latch, s.pos.valid, s.pos.rackKnown],
   (match s.head? with | some c => c.state.code | none => 0) |||
      flagBits [false, false, false, false, s.geo.settingsBlank, s.retained.lost, s.load.overrun]] ++
  (match s.head? with | some c => be2 c.tag.toNat | none => zeros 2) ++
  [byteOf s.queuedCount, byteOf s.queue.completions.length, s.attentionByte port]

end Sys2Proof.Machine
end

