-- ==== Sys2Proof/Machine/Frames.lean ====
section
/-! DEFINITION. How a port takes a frame and answers it (R173 to R176), shared by every port command. -/

namespace Sys2Proof.Machine

/-- The port controller of a port. -/
def State.port (s : State) : Port → PortState
  | .pattern => s.patternPort
  | .drive => s.drivePort

/-- Replaces the port controller of a port. -/
def State.withPort (s : State) (port : Port) (x : PortState) : State :=
  match port with
  | .pattern => s.withPatternPort x
  | .drive => s.withDrivePort x

/-- Whether a frame is answered BUSY: during start-up, and while STORE_BUSY is set but for the commands that R9 exempts
(R175). -/
def State.busy (s : State) (exempt : Bool) : Bool := decide (s.phase = .startUp) || (s.geo.storeBusy && !exempt)

/-- A frame's end: its result becomes the last result, and the part has clocked out the result before it, then `body`
(R174). -/
def State.closeFrame (s : State) (port : Port) (r : ResultCode) (body : List Byte) : State :=
  s.withPort port ⟨r, none, (s.port port).lastResult.code :: body⟩

/-- A frame while the part takes none: nothing is clocked out (R180). -/
def State.ignoreFrame (s : State) (port : Port) : State :=
  s.withPort port { s.port port with frame := none, out := [] }

/-- A frame whose select was asserted too soon: FFh throughout, no effect, the last result as it was (R174). -/
def State.missFrame (s : State) (port : Port) (bytes : Nat) : State :=
  s.withPort port { s.port port with out := List.replicate (bytes + 1) 0xFF }

/-- The continuation flag of the load cursor is cleared by a command that breaks a load (R27). -/
def State.breakLoad (s : State) (breaks : Bool) : State :=
  if breaks then s.withLoad { s.load with continuation := false } else s

/-- A command without a reply: BUSY, then FRAME, then its own rule (R175). `breaks` says that it clears the continuation
flag (R27). -/
def takeWrite (f : FrameShape) (breaks : Bool) (own : State → ResultCode × State) (e : FrameEnd) (s : State) : State :=
  if s.live then
    match e with
    | .tooSoon bytes => s.missFrame f.port bytes
    | .misfit bytes _ => s.closeFrame f.port (if s.busy false then .busy else .frame) (zeros bytes)
    | .fits =>
      if s.busy false then s.closeFrame f.port .busy (zeros f.params)
      else (own (s.breakLoad breaks)).2.closeFrame f.port (own (s.breakLoad breaks)).1 (zeros f.params)
  else s.ignoreFrame f.port

/-- A frame whose command byte names no command of the port: UNKNOWN, and the continuation flag is cleared on the
Pattern Port (R173, R27). Its length is not looked at (R175). -/
def takeUnknown (port : Port) (e : FrameEnd) (s : State) : State :=
  if s.live then
    match e with
    | .tooSoon bytes => s.missFrame port bytes
    | .misfit bytes _ =>
      if s.busy false then s.closeFrame port .busy (zeros bytes)
      else (s.breakLoad (decide (port = .pattern))).closeFrame port .unknown (zeros bytes)
    | .fits =>
      if s.busy false then s.closeFrame port .busy []
      else (s.breakLoad (decide (port = .pattern))).closeFrame port .unknown []
  else s.ignoreFrame port

/-- The forming of a reply: all zero while the command is answered BUSY (R176, R180; log 9). -/
def State.formReply (s : State) (f : FrameShape) (exempt : Bool) (form : State → Formed) : Formed :=
  if s.busy exempt then ⟨zeros f.reply, .busy, .nothing⟩ else form s

/-- The end of a read command's frame (R173, R175, R176). -/
def endRead (f : FrameShape) (exempt breaks : Bool) (finish : Formed → State → ResultCode × State) (formed : Formed)
    (e : FrameEnd) (s : State) : State :=
  match e with
  | .tooSoon _ => s
  | .misfit bytes _ =>
    s.closeFrame f.port (if s.busy exempt then .busy else .frame) ((zeros f.params ++ formed.reply ++ zeros bytes).take bytes)
  | .fits =>
    if s.busy exempt then s.closeFrame f.port .busy (zeros f.params ++ formed.reply)
    else
      ((finish formed s).2.breakLoad (breaks && decide ((finish formed s).1 ≠ .busy))).closeFrame f.port
        (finish formed s).1 (zeros f.params ++ formed.reply)

/-- A command with a reply: `form` forms it, `finish` is the command at the end of its frame (R176). `exempt` says that
R9 exempts it from BUSY, `breaks` that it clears the continuation flag (R27). An end with no such frame in progress is
no event (log 10). -/
def takeRead (f : FrameShape) (exempt breaks : Bool) (form : State → Formed) (finish : Formed → State → ResultCode × State)
    (frame : ReadFrame) (s : State) : State :=
  if s.live then
    match frame with
    | .whole (.tooSoon bytes) => s.missFrame f.port bytes
    | .whole e => endRead f exempt breaks finish (s.formReply f exempt form) e s
    | .opened => s.withPort f.port { s.port f.port with frame := some ⟨f.code, s.formReply f exempt form⟩ }
    | .closed e =>
      match (s.port f.port).frame with
      | some o => if o.code = f.code then endRead f exempt breaks finish o.formed e s else s
      | none => s
  else s.ignoreFrame f.port

/-- The end of a command that only reads: the result is the one its rule gives with the reply and at the end; where the
two differ, which one is free (log 7). `effect` is what a reply that carried something does (R176). -/
def finishRead (form : State → Formed) (effect : Carried → State → State) (formed : Formed) (s : State) :
    ResultCode × State :=
  (if formed.result = (form s).result then formed.result
   else if Config.answerFollowsReply then formed.result else (form s).result,
   effect formed.carried s)

/-- A reply with a result, carrying nothing. -/
def Formed.plain (reply : List Byte) (result : ResultCode) : Formed := ⟨reply, result, .nothing⟩

/-- No effect at the end of the frame. -/
def noEffect (_ : Carried) (s : State) : State := s

end Sys2Proof.Machine
end

