-- ==== Sys2Proof/Machine/Pointers.lean ====
section
/-! DEFINITION. The row pointers: their setting, reading and advance (R52 to R56). -/

namespace Sys2Proof.Machine

/-- The advance of a pointer by its mode (R56). -/
def Pointer.advance (p : Pointer) : Pointer :=
  let span : Int := (p.high : Int) - p.low + 1
  match p.mode with
  | .fixed => p
  | .up => { p with current := ((p.low : Int) + ((p.current : Int) - p.low + p.step) % span).toNat }
  | .down => { p with current := ((p.low : Int) + ((p.current : Int) - p.low - p.step) % span).toNat }

/-- The pointer a SET_POINTER frame gives, if every check of R53 holds. -/
def pointerOf (current low high : BitVec 16) (mode step : Byte) : Option Pointer :=
  match rowOf low, rowOf high, PointerMode.ofCode mode, natIn 1 15 step.toNat with
  | some lo, some hi, some m, some st =>
    if lo ≤ current.toNat ∧ current.toNat ≤ hi then some ⟨current.toNat, lo, hi, m, st⟩ else none
  | _, _, _, _ => none

/-- The own rule of SET_POINTER (R53). -/
def ownSetPointer (pointer : Byte) (current low high : BitVec 16) (mode step : Byte) (s : State) : ResultCode × State :=
  match bankNumber pointer.toNat, pointerOf current low high mode step with
  | some i, some p => (.ok, s.withPtrs (s.ptrs.set i.val p))
  | _, _ => (.range, s)

/-- SET_POINTER (R53). -/
def execSetPointer (frame : FrameEnd) (pointer : Byte) (current low high : BitVec 16) (mode step : Byte) (s : State) :
    Host.Outcome State Fault Refusal :=
  .next (takeWrite Layout.setPointer true (ownSetPointer pointer current low high mode step) frame s)

/-- The reply of READ_POINTER: the five fields (R55). -/
def formPointer (pointer : Byte) (s : State) : Formed :=
  match bankNumber pointer.toNat with
  | some i => .plain s.ptrs[i].fields .ok
  | none => .plain (zeros 8) .range

/-- READ_POINTER (R55). -/
def execReadPointer (frame : ReadFrame) (pointer : Byte) (s : State) : Host.Outcome State Fault Refusal :=
  .next (takeRead Layout.readPointer false true (formPointer pointer) (finishRead (formPointer pointer) noEffect) frame s)

end Sys2Proof.Machine
end

