-- ==== Sys2Proof/Machine/Techniques.lean ====
section
/-! DEFINITION. The technique-table commands of the Pattern Port (R40 to R50). -/

namespace Sys2Proof.Machine

/-- The entry of a table for a colour (R40). -/
def TechniqueMemory.entry (t : TechniqueMemory) (table : Fin 8) (colour : Colour) : TechniqueEntry :=
  t.tables[table][colour.toNat]'(colour.isLt)

/-- One whole entry is written (R47). -/
def TechniqueMemory.setEntry (t : TechniqueMemory) (table : Fin 8) (colour : Colour) (e : TechniqueEntry) :
    TechniqueMemory :=
  { t with tables := t.tables.set table.val (t.tables[table].set colour.toNat e colour.isLt) }

/-- The own rule of WRITE_TECHNIQUE: the operands' ranges, then the lock (R47, R50). -/
def ownWriteTechnique (table colour front back parity : Byte) (s : State) : ResultCode × State :=
  match bankNumber table.toNat, colourOf colour, Action.ofCode front, Action.ofCode back, Parity.ofCode parity with
  | some t, some c, some f, some b, some p =>
    if t ∈ s.tech.locks then (.inUse, s) else (.ok, s.withTech (s.tech.setEntry t c ⟨f, b, p⟩))
  | _, _, _, _, _ => (.range, s)

/-- WRITE_TECHNIQUE (R47). -/
def execWriteTechnique (frame : FrameEnd) (table colour front back parity : Byte) (s : State) :
    Host.Outcome State Fault Refusal :=
  .next (takeWrite Layout.writeTechnique true (ownWriteTechnique table colour front back parity) frame s)

/-- The reply of READ_TECHNIQUE: the entry's three fields (R48). -/
def formTechnique (table colour : Byte) (s : State) : Formed :=
  match bankNumber table.toNat, colourOf colour with
  | some t, some c =>
    let e := s.tech.entry t c
    .plain [e.front.code, e.back.code, e.parity.code] .ok
  | _, _ => .plain (zeros 3) .range

/-- READ_TECHNIQUE (R48). -/
def execReadTechnique (frame : ReadFrame) (table colour : Byte) (s : State) : Host.Outcome State Fault Refusal :=
  .next (takeRead Layout.readTechnique false true (formTechnique table colour)
    (finishRead (formTechnique table colour) noEffect) frame s)

end Sys2Proof.Machine
end

