-- ==== Sys2Proof/Machine/Resolve.lean ====
section
/-! DEFINITION. Resolving a course: the resolution pass (R57), the colour at a needle (R90 to R93), the effective actions
(R42 to R46), the head lists (R94 to R96), transfer pairing (R97 to R99), and the extents (R100, R102). -/

namespace Sys2Proof.Machine

/-! ## The resolution pass -/

/-- The resolved row of a system, if it has one. -/
def rowOfSystem (rows : List (System × Nat)) (sys : System) : Option Nat :=
  (rows.find? fun r => decide (r.1 = sys)).map Prod.snd

/-- The pass over the listed entries in ascending system number: a kept row stays, a direct row is taken, a pointer gives
its current row and advances before the next system is taken (R57, R58). Answers the pointers and the rows. -/
def resolveEntries (kept : List (System × Nat)) :
    List SystemEntry → Vector Pointer 8 → Vector Pointer 8 × List (System × Nat)
  | [], ptrs => (ptrs, [])
  | e :: es, ptrs =>
    match rowOfSystem kept e.system with
    | some row =>
      let rest := resolveEntries kept es ptrs
      (rest.1, (e.system, row) :: rest.2)
    | none =>
      match e.source with
      | .direct row =>
        let rest := resolveEntries kept es ptrs
        (rest.1, (e.system, row) :: rest.2)
      | .pointer p =>
        let rest := resolveEntries kept es (ptrs.set p.val ptrs[p].advance)
        (rest.1, (e.system, ptrs[p].current) :: rest.2)

/-! ## The colour at a needle -/

/-- The repeat width in use, W' (R90). -/
def repeatWidth (n : Nat) (e : SystemEntry) : Nat := if e.width ≤ n then e.width else n

/-- The base column of index `i`: repeat and shift, then mirror (R90, R91). -/
def baseColumn (n : Nat) (e : SystemEntry) (i : Nat) : Int :=
  let w : Int := repeatWidth n e
  let k := ((i : Int) - e.origin + e.shift) % w
  if e.mirror then w - 1 - k else k

/-- The exchange of the base colour (R92). -/
def exchangeColour (pair : Option (Colour × Colour)) (c : Colour) : Colour :=
  match pair with
  | none => c
  | some (a, b) => if c = a then b else if c = b then a else c

/-- The overlay over the colour beneath (R93). -/
def overlayColour (m : Memory) (o : Option Overlay) (i : Nat) (beneath : Colour) : Colour :=
  match o with
  | none => beneath
  | some o =>
    if o.origin ≤ i ∧ i < o.origin + o.width ∧ i - o.origin ≤ 1279 then
      let c := Memory.read m o.row (i - o.origin)
      if c = o.key then beneath else c
    else beneath

/-- The colour of a system at front-aligned index `i`, by the five steps of R90 to R93. -/
def colourAt (m : Memory) (n row : Nat) (e : SystemEntry) (i : Nat) : Colour :=
  overlayColour m e.overlay i (exchangeColour e.exchange (Memory.read m row (baseColumn n e i).toNat))

/-! ## Effective actions -/

/-- Whether a back parity applies to back needle `m` (R42). -/
def Parity.applies (p : Parity) (m : Nat) : Bool :=
  match p with
  | .all => true
  | .even => decide (m % 2 = 0)
  | .odd => decide (m % 2 = 1)

/-- Kind suppression (R45). -/
def suppress (kind : Kind) (a : Action) : Action :=
  match kind, a with
  | .knit, .xfer => .miss
  | .knit, .recv => .miss
  | .transfer, .knit => .miss
  | .transfer, .tuck => .miss
  | _, a => a

/-- Whether kind suppression changes a non-MISS action to MISS (R46). -/
def isSuppressed (kind : Kind) (a : Action) : Bool := decide (suppress kind a ≠ a)

/-- What the image is built from (R88): the bed, SYSTEMS, the racking, the cells, the tables, the zone, and the course's
resolved rows. -/
structure ImageInputs where
  needles : Nat
  systems : Nat
  racking : Int
  cells : Memory
  tech : TechniqueMemory
  zoneLeft : Nat
  zoneRight : Nat
  rows : List (System × Nat)
  kind : Kind

/-- The entry of a system's table for its colour at index `i`. -/
def ImageInputs.technique (x : ImageInputs) (e : SystemEntry) (i : Nat) : TechniqueEntry :=
  x.tech.entry e.table (colourAt x.cells x.needles ((rowOfSystem x.rows e.system).getD 0) e i)

/-- The front action at needle `i` before suppression; MISS outside the zone, where nothing is looked up (R94, R43). -/
def ImageInputs.frontRaw (x : ImageInputs) (e : SystemEntry) (i : Nat) : Action :=
  if x.zoneLeft ≤ i ∧ i ≤ x.zoneRight then (x.technique e i).front else .miss

/-- The back action at needle `m` after parity and before suppression; MISS outside the zone and where the needle faces
off the front bed (R95, R44). -/
def ImageInputs.backRaw (x : ImageInputs) (e : SystemEntry) (m : Nat) : Action :=
  let i : Int := (m : Int) + x.racking
  if 0 ≤ i ∧ i < x.needles ∧ x.zoneLeft ≤ m ∧ m ≤ x.zoneRight then
    let t := x.technique e i.toNat
    if t.parity.applies m then t.back else .miss
  else .miss

/-- The action at a needle of a head before suppression. -/
def ImageInputs.raw (x : ImageInputs) (e : SystemEntry) (b : Bed) (i : Nat) : Action :=
  match b with
  | .front => x.frontRaw e i
  | .back => x.backRaw e i

/-! ## The head lists -/

/-- A list of `n` entries as a store of its non-MISS ones. -/
def buildList (n : Nat) (f : Nat → Action) : Store Action :=
  (List.range n).filterMap fun i => if f i = .miss then none else some (i, f i)

/-- The entry of a system that gets its lists built: it is listed and its number is at most SYSTEMS (R96). -/
def ImageInputs.builtEntry (x : ImageInputs) (entries : List SystemEntry) (sys : System) : Option SystemEntry :=
  if sys.val < x.systems then entries.find? fun e => decide (e.system = sys) else none

/-- The list of one head (R94 to R96). -/
def ImageInputs.headList (x : ImageInputs) (entries : List SystemEntry) (h : Head) : Store Action :=
  match x.builtEntry entries (Head.system h) with
  | some e => buildList x.needles fun i => suppress x.kind (x.raw e (Head.bed h) i)
  | none => []

/-- Whether any entry looked up for any listed system was suppressed (R46). -/
def ImageInputs.anySuppressed (x : ImageInputs) (entries : List SystemEntry) : Bool :=
  allHeads.any fun h =>
    match x.builtEntry entries (Head.system h) with
    | some e => (List.range x.needles).any fun i => isSuppressed x.kind (x.raw e (Head.bed h) i)
    | none => false

/-- The entry of a list at an index; an index outside 0..N-1 names no needle and reads MISS (R21, R103). -/
def listEntry (n : Nat) (l : Store Action) (i : Int) : Action :=
  if 0 ≤ i ∧ i < n then Store.read .miss l i.toNat else .miss

/-- Whether front-aligned index `i` is marked for a system with these lists (R100). -/
def isMarked (n : Nat) (racking : Int) (front back : Store Action) (i : Nat) : Bool :=
  decide (Store.read .miss front i ≠ .miss) || decide (listEntry n back ((i : Int) - racking) ≠ .miss)

/-- The extent of a system: the least and the greatest marked index (R100). -/
def systemExtent (n : Nat) (racking : Int) (front back : Store Action) : Option (Nat × Nat) :=
  match searchRange (isMarked n racking front back) 0 (n - 1) false,
      searchRange (isMarked n racking front back) 0 (n - 1) true with
  | some l, some r => some (l, r)
  | _, _ => none

/-! ## Transfer pairing -/

/-- The partner a transfer action needs (R98). -/
def Action.partner : Action → Option Action
  | .xfer => some .recv
  | .recv => some .xfer
  | _ => none

/-- Whether an entry is unpaired, given what its partner's place holds (none: off the bed) (R98). -/
def isUnpaired (a partner : Action) : Bool :=
  match a.partner with
  | some need => decide (partner ≠ need)
  | none => false

/-- The first unpaired front entry by increasing n (R98, R99). -/
def unpairedFront (n : Nat) (racking : Int) (front back : Store Action) : Option Nat :=
  (List.range n).find? fun i => isUnpaired (Store.read .miss front i) (listEntry n back ((i : Int) - racking))

/-- The first unpaired back entry by increasing m (R98, R99). -/
def unpairedBack (n : Nat) (racking : Int) (front back : Store Action) : Option Nat :=
  (List.range n).find? fun m => isUnpaired (Store.read .miss back m) (listEntry n front ((m : Int) + racking))

/-- The pairing check over the listed systems in ascending number (R99). -/
def pairingRefusal (n : Nat) (racking : Int) (lists : Vector (Store Action) 6) (entries : List SystemEntry) :
    Option ArmingRefusal :=
  entries.findSome? fun e =>
    let front := lists[System.head e.system .front]
    let back := lists[System.head e.system .back]
    match unpairedFront n racking front back with
    | some i => some (.transferPair e.system .front (i : Int))
    | none =>
      match unpairedBack n racking front back with
      | some m => some (.transferPair e.system .back ((m : Int) + racking))
      | none => none

/-! ## The course extent -/

/-- The greatest of a list. -/
def maxOf : List Int → Int
  | [] => 0
  | x :: xs => xs.foldl max x

/-- The least of a list. -/
def minOf : List Int → Int
  | [] => 0
  | x :: xs => xs.foldl min x

/-- The ends of the non-empty system extents and the points of the plan (R102). -/
def StrokeImage.points (im : StrokeImage) : List Int :=
  (allSystems.flatMap fun sys =>
    match im.extents[sys] with
    | some (l, r) => [(l : Int), (r : Int)]
    | none => []) ++ im.plan.flatMap fun e => [e.pickup, e.release]

/-- The course extent; with every system extent and the plan empty it is the clamped zone (R102). -/
def StrokeImage.courseExtent (im : StrokeImage) : Int × Int :=
  match im.points with
  | [] => match im.zone with | some (l, r) => ((l : Int), (r : Int)) | none => (0, 0)
  | points => (minOf points, maxOf points)

end Sys2Proof.Machine
end

