-- ==== Sys2Proof/Machine/Stroke.lean ====
section
/-! DEFINITION. Running a stroke: what a change of P does to heads, catchers and carriers (R106, R120, R121, R150 to R156),
the commands BEGIN_STROKE, RESUME_STROKE, ABANDON_STROKE, and PULSE_END. -/

namespace Sys2Proof.Machine

/-! ## Catch and release -/

/-- A catch: the catcher lowers, the carrier becomes ENGAGED at c; a sensor that already reports a break faults the
stroke (R120, R106, R122). -/
def State.catchCarrier (s : State) (k : Carrier) (c : Int) : State :=
  let t := s.withCatchers (s.catchers.set (s.railOf k).val true)
  let t := t.changeCarrier k fun e => { e with status := .engaged (s.geo.record.clampPosition c) }
  if s.pins.yarn[k] then t.strokeFault .yarnBreak (some k) none else t

/-- A release: the catcher rises, the carrier is PARKED at q, the pair joins the carriers-parked list (R121, R74). -/
def State.releaseCarrier (s : State) (k : Carrier) (q : Int) : State :=
  let t := s.withCatchers (s.catchers.set (s.railOf k).val false)
  let t := t.changeCarrier k fun _ => ⟨.parked q, s.railOf k⟩
  t.changeHead fun c => { c with parked := c.parked ++ [(k, q)] }

/-- Whether an entry's catch is due as the catcher index goes from `c0` to `c` (R120, R23). -/
def catchDue (d : Direction) (c0 c : Int) (s : State) (e : PlanEntry) : Bool :=
  decide (e.progress = .awaitingCatch) && s.carriers[e.carrier].parkedAt.isSome && decide (c0 ≠ c) &&
    decide (c = e.pickup - d.sign)

/-- Whether an entry's release is due as the catcher index goes from `c0` to `c` (R121, R23). -/
def releaseDue (c0 c : Int) (s : State) (e : PlanEntry) : Bool :=
  decide (e.progress = .carrying) && s.carriers[e.carrier].isEngaged && decide (c0 ≠ c) && decide (c = e.release)

/-- One plan entry as the catcher index goes from `c0` to `c`, while the head course is KNITTING. -/
def catcherEvent (d : Direction) (c0 c : Int) (e : PlanEntry) (s : State) : PlanEntry × State :=
  if s.headIs .knitting = false then (e, s)
  else if catchDue d c0 c s e then ({ e with progress := .carrying }, s.catchCarrier e.carrier c)
  else if releaseDue c0 c s e then ({ e with progress := .left }, s.releaseCarrier e.carrier e.release)
  else (e, s)

/-- The plan entries in plan order (R121). -/
def catcherEvents (d : Direction) (c0 c : Int) : List PlanEntry → State → List PlanEntry × State
  | [], s => ([], s)
  | e :: es, s =>
    let one := catcherEvent d c0 c e s
    let rest := catcherEvents d c0 c es one.2
    (one.1 :: rest.1, rest.2)

/-- Catcher control as the catcher index goes from `c0` to `c`. -/
def State.runCatchers (s : State) (d : Direction) (c0 c : Int) : State :=
  let r := catcherEvents d c0 c s.image.plan s
  r.2.withImage { r.2.image with plan := r.1 }

/-! ## Selections -/

/-- The action of head `h` at window `v` (R151, R103). -/
def State.actionAt (s : State) (h : Head) (v : Int) : Action :=
  let i := match Head.bed h with | .front => v | .back => v - s.pos.racking
  listEntry s.geo.record.bedNeedles s.image.lists[h] i

/-- A selection event of head `h` (R150, R152, R153): MISS issues nothing; another action begins a pulse, or is an
OVERSPEED fault if the head's pulse is running, and is then not issued and q_h not advanced. -/
def State.select (s : State) (h : Head) : State :=
  match s.heads.stroke with
  | none => s
  | some r =>
    let a := s.actionAt h r.next[h]
    let advanced : StrokeRecord := { r with next := r.next.set h.val (r.next[h] + r.direction.sign) }
    if a = .miss then s.withHeads { s.heads with stroke := some advanced }
    else if s.heads.pulses[h] then s.strokeFault .overspeed none (some h)
    else s.withHeads ⟨some advanced, s.heads.pulses.set h.val true, s.heads.lines.set h.val a⟩

/-! ## Completion (R155, R156) -/

/-- Whether P is at or beyond the end point in the direction of travel (R155). -/
def StrokeRecord.atEnd (r : StrokeRecord) (p : Int) : Bool :=
  match r.direction with
  | .l2r => decide (r.finish ≤ p)
  | .r2l => decide (p ≤ r.finish)

/-- The carriers of the entries still CARRYING are released at their q, in plan order (R156). -/
def State.releaseCarrying (s : State) : State :=
  s.image.plan.foldl (fun t e => if e.progress = .carrying then t.releaseCarrier e.carrier e.release else t) s

/-- The stroke is complete: carriers released, the course retires as DONE, STROKE_DONE is set (R156). -/
def State.completeStroke (s : State) : State :=
  (s.releaseCarrying.retire .done).raiseStrokeDone

/-- The completion condition, examined while the head course is KNITTING (R155). -/
def State.examineCompletion (s : State) : State :=
  match s.heads.stroke with
  | some r => if s.headIs .knitting && r.atEnd s.pos.count then s.completeStroke else s
  | none => s

/-! ## A change of P -/

/-- What one change of P can bring due while the head course is KNITTING. -/
inductive CountWork where
  | select (h : Head)
  | catchers
  | reversal
  | complete
deriving DecidableEq, Repr

/-- Whether P has gone back beyond the backlash from the furthest position (R154). -/
def StrokeRecord.reversed (r : StrokeRecord) (backlash : Nat) (p : Int) : Bool :=
  match r.direction with
  | .l2r => decide (p < r.furthest - backlash)
  | .r2l => decide (r.furthest + backlash < p)

/-- F follows P in the direction of travel (R154). -/
def StrokeRecord.advanceFurthest (r : StrokeRecord) (p : Int) : StrokeRecord :=
  match r.direction with
  | .l2r => { r with furthest := max r.furthest p }
  | .r2l => { r with furthest := min r.furthest p }

/-- What is due as P goes from `p0` to its present value, in the order heads, catchers, reversal, completion. -/
def State.dueWork (s : State) (r : StrokeRecord) (p0 : Nat) : List CountWork :=
  let g := s.geo.record
  let d := r.direction
  let c0 := catcherIndex g d p0
  let c := catcherIndex g d s.pos.count
  (allHeads.filterMap fun h =>
    if headIndex g h d p0 ≠ headIndex g h d s.pos.count ∧ headIndex g h d s.pos.count = r.next[h]
    then some (.select h) else none) ++
  (if s.image.plan.any fun e => catchDue d c0 c s e || releaseDue c0 c s e then [.catchers] else []) ++
  (if r.reversed g.backlash s.pos.count then [.reversal] else []) ++
  (if r.atEnd s.pos.count then [.complete] else [])

/-- Whether a work that is due raises a stroke fault: an OVERSPEED, a catch of a carrier whose yarn is broken, a
REVERSAL. -/
def State.faulting (s : State) (r : StrokeRecord) (p0 : Nat) : CountWork → Bool
  | .select h => decide (s.actionAt h r.next[h] ≠ .miss) && s.heads.pulses[h]
  | .catchers =>
    s.image.plan.any fun e => s.pins.yarn[e.carrier] && catchDue r.direction
      (catcherIndex s.geo.record r.direction p0) (catcherIndex s.geo.record r.direction s.pos.count) s e
  | .reversal => true
  | .complete => false

/-- The number a work is ranked by. -/
def CountWork.index : CountWork → Nat
  | .select h => h.val
  | .catchers => 6
  | .reversal => 7
  | .complete => 8

/-- Puts a work into its place by rank, lowest first. -/
def insertByRank (rank : Nat → Nat) (w : CountWork) : List CountWork → List CountWork
  | [] => [w]
  | v :: vs => if rank w.index ≤ rank v.index then w :: v :: vs else v :: insertByRank rank w vs

/-- Works in the order of their ranks. -/
def sortByRank (rank : Nat → Nat) : List CountWork → List CountWork
  | [] => []
  | w :: ws => insertByRank rank w (sortByRank rank ws)

/-- One work, taken only while the head course is KNITTING (R150, R154, R155, R162). -/
def State.runWork (s : State) (p0 : Nat) (w : CountWork) : State :=
  if s.headIs .knitting then
    match w with
    | .select h => s.select h
    | .catchers =>
      match s.heads.stroke with
      | some r => s.runCatchers r.direction (catcherIndex s.geo.record r.direction p0) (catcherIndex s.geo.record r.direction s.pos.count)
      | none => s
    | .reversal => s.strokeFault .reversal none none
    | .complete => s.completeStroke
  else s

/-- ENGAGED and HELD carriers follow the catcher index, with the direction of the head course's stroke (R106). -/
def State.followCatchers (s : State) (d : Direction) (p0 : Nat) : State :=
  let g := s.geo.record
  if catcherIndex g d p0 = catcherIndex g d s.pos.count then s
  else s.changeCarriers fun _ e => e.follow (g.clampPosition (catcherIndex g d s.pos.count))

/-- The stroke's work at one change of P from `p0`. Where a stroke fault is due beside another work, either may be taken
first: the order is that of free ranks (log 12). -/
def State.strokeWork (s : State) (p0 : Nat) : State :=
  match s.heads.stroke with
  | none => s
  | some r =>
    let r := r.advanceFurthest s.pos.count
    let t := s.withHeads { s.heads with stroke := some r }
    let due := t.dueWork r p0
    if due.any (t.faulting r p0) then
      (sortByRank (Config.rank s.freeIndex) due).foldl (fun u w => u.runWork p0 w) (t.withFreeIndex (s.freeIndex + 1))
    else due.foldl (fun u w => u.runWork p0 w) t

/-- P has changed from `p0`: carriers follow the catchers, and while the head course is KNITTING the heads, the catchers,
the backlash and the end point are looked at (R106, R150 to R155). -/
def State.countChanged (s : State) (p0 : Nat) : State :=
  if p0 = s.pos.count then s
  else
    match s.head? with
    | none => s
    | some c =>
      match c.state with
      | .knitting => (s.followCatchers c.direction p0).strokeWork p0
      | .faulted => s.followCatchers c.direction p0
      | _ => s

/-! ## BEGIN_STROKE -/

/-- Whether the carriage is on the start side (R148). -/
def GrantRecord.onStartSide (g : GrantRecord) (p : Int) : Bool :=
  match g.direction with
  | .l2r => decide (p ≤ g.start)
  | .r2l => decide (g.start ≤ p)

/-- The grant of the outcome record, if it is one. -/
def ArmingEngine.grant (a : ArmingEngine) : Option GrantRecord :=
  match a.outcome with
  | some (.grant g) => some g
  | _ => none

/-- The stroke record written at BEGIN_STROKE (R149): each head's next pending needle is one window ahead of where it
stands. -/
def State.beginRecord (s : State) (g : GrantRecord) : StrokeRecord where
  direction := g.direction
  finish := g.finish
  furthest := s.pos.count
  next := Vector.ofFn fun h => headIndex s.geo.record h g.direction s.pos.count + g.direction.sign

/-- The own rule of BEGIN_STROKE (R148, R149). An ARMED course always has its grant as the outcome record (log 20). -/
def ownBeginStroke (s : State) : ResultCode × State :=
  if s.headIs .armed = false then (.notNow, s)
  else if s.stops.latch then (.stopped, s)
  else if s.pos.valid = false then (.notHomed, s)
  else if s.supply ≠ .on then (.notNow, s)
  else
    match s.arm.grant with
    | none => (.wrongSide, s)
    | some g =>
      if g.onStartSide s.pos.count then
        let t := s.changeHead fun c => { c with state := .knitting }
        let t := t.withPos { t.pos with homing := false }
        (.ok, (t.withHeads { t.heads with stroke := some (s.beginRecord g) }).examineCompletion)
      else (.wrongSide, s)

/-- BEGIN_STROKE (R148). -/
def execBeginStroke (frame : FrameEnd) (s : State) : Host.Outcome State Fault Refusal :=
  .next (takeWrite Layout.beginStroke false ownBeginStroke frame s)

/-! ## RESUME_STROKE -/

/-- Whether P lies between the grant's turning points (R166, check 6). -/
def GrantRecord.between (g : GrantRecord) (p : Int) : Bool :=
  decide (min g.start g.finish ≤ p) && decide (p ≤ max g.start g.finish)

/-- The window a plan entry still owes, if any (R166, check 7). -/
def PlanEntry.owed (e : PlanEntry) (d : Direction) : Option Int :=
  match e.progress with
  | .awaitingCatch => some (e.pickup - d.sign)
  | .carrying => some e.release
  | .left => none

/-- Whether every head, and every catcher still owing an event, stands behind its next window (R166, check 7). -/
def State.allBehind (s : State) (r : StrokeRecord) : Bool :=
  let g := s.geo.record
  (allHeads.all fun h => r.direction.behind (headIndex g h r.direction s.pos.count) r.next[h]) &&
    s.image.plan.all fun e =>
      match e.owed r.direction with
      | some v => r.direction.behind (catcherIndex g r.direction s.pos.count) v
      | none => true

/-- The first carrier of a list by free rank (log 12). -/
def firstByRank (rank : Nat → Nat) : List Carrier → Option Carrier
  | [] => none
  | k :: ks =>
    match firstByRank rank ks with
    | none => some k
    | some j => if rank k.val ≤ rank j.val then some k else some j

/-- A carrier engaged at the resume whose sensor reports a break faults the course again (R167, R122); which of several
is reported first is free. -/
def State.reportBroken (s : State) (engaged : List Carrier) : State :=
  match firstByRank (Config.rank s.freeIndex) (engaged.filter fun k => s.pins.yarn[k]) with
  | none => s
  | some k => (s.withFreeIndex (s.freeIndex + 1)).strokeFault .yarnBreak (some k) none

/-- The event of an accepted RESUME_STROKE (R167). -/
def State.resume (s : State) (r : StrokeRecord) : State :=
  let held := allCarriers.filter fun k => s.carriers[k].isHeld
  let c := s.geo.record.clampPosition (catcherIndex s.geo.record r.direction s.pos.count)
  let t := s.changeHead fun c => { c with state := .knitting }
  let t := t.changeCarriers fun _ e => e.engageHeld c
  let t := t.withPos { t.pos with homing := false }
  let t := t.withHeads { t.heads with stroke := some { r with furthest := s.pos.count } }
  (t.reportBroken held).examineCompletion

/-- The own rule of RESUME_STROKE (R166). A FAULTED course always has its fault record, stroke record and grant
(log 20). -/
def ownResumeStroke (s : State) : ResultCode × State :=
  if s.headIs .faulted = false then (.notNow, s)
  else
    match s.stops.faultRecord, s.heads.stroke, s.arm.grant, s.head? with
    | some f, some r, some g, some c =>
      if f.reason.resumable = false then (.notNow, s)
      else if s.stops.latch then (.stopped, s)
      else if s.pos.valid = false then (.notHomed, s)
      else if s.supply ≠ .on then (.notNow, s)
      else if s.pos.racking ≠ c.racking then (.notNow, s)
      else if g.between s.pos.count = false then (.wrongSide, s)
      else if s.allBehind r = false then (.wrongSide, s)
      else (.ok, s.resume r)
    | _, _, _, _ => (.notNow, s)

/-- RESUME_STROKE (R166). -/
def execResumeStroke (frame : FrameEnd) (s : State) : Host.Outcome State Fault Refusal :=
  .next (takeWrite Layout.resumeStroke false ownResumeStroke frame s)

/-! ## ABANDON_STROKE and PULSE_END -/

/-- The own rule of ABANDON_STROKE (R77, R140, R141, R168). -/
def ownAbandonStroke (s : State) : ResultCode × State :=
  match s.head?.map Course.state with
  | none => (.empty, s)
  | some .queued => (.notNow, s)
  | some .knitting => (.notNow, s)
  | some .arming => (.ok, s.returnToQueued)
  | some .armed => (.ok, s.returnToQueued)
  | some .faulted => (.ok, s.discardFaulted)

/-- ABANDON_STROKE (R77). -/
def execAbandonStroke (frame : FrameEnd) (s : State) : Host.Outcome State Fault Refusal :=
  .next (takeWrite Layout.abandonStroke false ownAbandonStroke frame s)

/-- PULSE_END: the lines return to rest and the pulse-running flag clears (R152). Without a pulse running there is no such
event (log 6). -/
def execPulseEnd (h : Head) (s : State) : Host.Outcome State Fault Refusal :=
  .next (if s.heads.pulses[h] then
    s.withHeads { s.heads with pulses := s.heads.pulses.set h.val false, lines := s.heads.lines.set h.val .miss }
  else s)

end Sys2Proof.Machine
end

