-- ==== Sys2Proof/Machine/Arming.lean ====
section
/-! DEFINITION. Asking for a stroke, the nine stages of arming, the grant and the refusal (R124 to R139, R89, R115 to R119). -/

namespace Sys2Proof.Machine

/-! ## Refusal and grant -/

/-- An arming ends in a refusal: the refusal record, the return to QUEUED with the last refusal written, REFUSAL_READY and
HEAD_REFUSED (R136, R137). -/
def State.refuseArming (s : State) (tag : BitVec 16) (reason : ArmingRefusal) (stage : Nat) : State :=
  let t := (s.changeHead fun c => { c with lastRefusal := some ⟨reason, stage⟩ }).returnToQueued
  let t := t.withArm { t.arm with outcome := some (.refusal ⟨tag, reason, stage⟩) }
  t.raiseOutcome false

/-- The pickup and release of a plan entry as the grant carries them (R138). -/
def PlanEntry.engaged (e : PlanEntry) : Carrier × Int × Int := (e.carrier, e.pickup, e.release)

/-- The grant record (R138). The course extent was written at stage 7. -/
def State.grantRecord (s : State) (c : Course) : GrantRecord where
  tag := c.tag
  direction := c.direction
  start := match c.direction with | .l2r => s.arm.turnLeft | .r2l => s.arm.turnRight
  finish := match c.direction with | .l2r => s.arm.turnRight | .r2l => s.arm.turnLeft
  left := (s.image.extent.getD (0, 0)).1
  right := (s.image.extent.getD (0, 0)).2
  speed := s.arm.grantedSpeed
  clampedLeft := s.arm.clampedLeft
  clampedRight := s.arm.clampedRight
  speedCapped := s.arm.speedCapped
  suppressed := s.arm.suppressed
  carrierIdle := s.arm.carrierIdle
  engaged := s.image.plan.map PlanEntry.engaged

/-- An arming ends in a grant: the course is ARMED with its grant summary, its last refusal removed, GRANT_READY set and
HEAD_REFUSED cleared (R135). -/
def State.grantStroke (s : State) (c : Course) : State :=
  let g := s.grantRecord c
  let t := s.changeHead fun c => { c with state := .armed, lastRefusal := none, grant := some ⟨g.left, g.right, g.speed⟩ }
  let t := t.withArm { t.arm with stage := none, outcome := some (.grant g) }
  t.raiseOutcome true

/-! ## REQUEST_STROKE and stage 1 -/

/-- The checks of stage 1, in order (R127). -/
def State.conditions (s : State) (c : Course) : Option ArmingRefusal :=
  if s.pos.valid = false then some .notHomed
  else if s.pos.rackKnown = false then some .rackUnknown
  else if s.pos.racking ≠ c.racking then some (.rackMismatch s.pos.racking c.racking)
  else if s.supply ≠ .on then some (.supplyNotOn s.supply)
  else if s.stops.latch then some (.stopLatched s.pins.stopIn)
  else none

/-- The head course enters ARMING (R125). The drive cap is kept; the engine takes stage 2 next. -/
def State.enterArming (s : State) : State :=
  let t := s.changeHead fun c => { c with state := .arming, grant := none }
  let t := t.withArm { ArmingEngine.initial with stage := some .locks, driveCap := s.arm.driveCap }
  t.withDriveReasons { t.driveReasons with grantReady := false, refusalReady := false }

/-- The own rule of REQUEST_STROKE, with stage 1 (R124, R125, R127). -/
def ownRequestStroke (s : State) : ResultCode × State :=
  if s.geo.mode = .offline then (.notNow, s)
  else
    match s.head? with
    | none => (.empty, s)
    | some c =>
      if c.state ≠ .queued then (.notNow, s)
      else
        match s.enterArming.conditions c with
        | some reason => (.ok, s.enterArming.refuseArming c.tag reason 1)
        | none => (.ok, s.enterArming)

/-- REQUEST_STROKE (R124). -/
def execRequestStroke (frame : FrameEnd) (s : State) : Host.Outcome State Fault Refusal :=
  .next (takeWrite Layout.requestStroke false ownRequestStroke frame s)

/-! ## The stages after stage 1 -/

/-- A stage acts on an ARMING head course for which it is the stage the engine takes next; otherwise there is no such
event (R126; log 6). -/
def State.atStage (s : State) (stage : ArmingStage) (act : Course → State) : State :=
  match s.head? with
  | some c => if c.state = .arming ∧ s.arm.stage = some stage then act c else s
  | none => s

/-- The engine takes `stage` next. -/
def State.nextStage (s : State) (stage : ArmingStage) : State := s.withArm { s.arm with stage := some stage }

/-- The row locks an arming adds: the overlay row and the resolved row of each listed system (R25). -/
def rowLocks (entries : List SystemEntry) (rows : List (System × Nat)) (locks : List Nat) : List Nat :=
  let overlays := entries.filterMap fun e => e.overlay.map Overlay.row
  (overlays ++ rows.map Prod.snd).foldl (fun l r => addLock r l) locks

/-- The table locks an arming adds: the table of each listed system (R49). -/
def tableLocks (entries : List SystemEntry) (locks : List (Fin 8)) : List (Fin 8) :=
  entries.foldl (fun l e => addLock e.table l) locks

/-- Stage 2 on the head course (R128, R57). -/
def State.lockAndResolve (s : State) (c : Course) : State :=
  let pass := resolveEntries c.resolved c.listed s.ptrs
  let t := s.withTech { s.tech with locks := tableLocks c.listed s.tech.locks }
  let t := t.withMem { t.mem with locks := rowLocks c.listed pass.2 t.mem.locks }
  let t := (t.withPtrs pass.1).changeHead fun c => { c with resolved := pass.2 }
  t.nextStage .zone

/-- LOCKS_AND_RESOLUTION: stage 2 (R128). -/
def execLocksAndResolution (s : State) : Host.Outcome State Fault Refusal :=
  .next (s.atStage .locks s.lockAndResolve)

/-- The zone as taken: the record's, or else the global zone as it stands (R89). -/
def State.zoneTaken (s : State) (c : Course) : Int × Int := c.zone.getD (s.queue.zoneLeft, s.queue.zoneRight)

/-- A zone bound clamped to 0..N-1 (R89). -/
def Geometry.clampNeedle (g : Geometry) (x : Int) : Nat := (clamp 0 ((g.bedNeedles : Int) - 1) x).toNat

/-- Stage 3 on the head course (R89). -/
def State.clampZone (s : State) (c : Course) : State :=
  let z := s.zoneTaken c
  let zl := s.geo.record.clampNeedle z.1
  let zr := s.geo.record.clampNeedle z.2
  if zr < zl then s.refuseArming c.tag (.zoneEmpty z.1 z.2) 3
  else (s.withImage { s.image with zone := some (zl, zr) }).nextStage .image

/-- ZONE_STAGE: stage 3 (R89). -/
def execZoneStage (s : State) : Host.Outcome State Fault Refusal := .next (s.atStage .zone s.clampZone)

/-- What stage 4 builds the image from (R88). -/
def State.imageInputs (s : State) (c : Course) : ImageInputs where
  needles := s.geo.record.bedNeedles
  systems := s.geo.record.systems
  racking := c.racking
  cells := s.mem.cells
  tech := s.tech
  zoneLeft := (s.image.zone.getD (0, 0)).1
  zoneRight := (s.image.zone.getD (0, 0)).2
  rows := c.resolved
  kind := c.kind

/-- Stage 4 on the head course: the six lists, the suppression note and the system extents (R94 to R96, R100, R46). A KNIT
course goes on to the carrier plan (R126). -/
def State.buildImage (s : State) (c : Course) : State :=
  let x := s.imageInputs c
  let lists : Vector (Store Action) 6 := Vector.ofFn fun h => x.headList c.listed h
  let extents : Vector (Option (Nat × Nat)) 3 := Vector.ofFn fun sys =>
    systemExtent x.needles x.racking lists[System.head sys .front] lists[System.head sys .back]
  let t := s.withImage { s.image with lists := lists, extents := extents }
  let t := t.withArm { t.arm with suppressed := t.arm.suppressed || x.anySuppressed c.listed }
  t.nextStage (match c.kind with | .knit => .carrierPlan | .transfer => .pairing)

/-- IMAGE_STAGE: stage 4 (R94). -/
def execImageStage (s : State) : Host.Outcome State Fault Refusal := .next (s.atStage .image s.buildImage)

/-- Stage 5 on a TRANSFER head course (R97 to R99). -/
def State.checkPairs (s : State) (c : Course) : State :=
  match pairingRefusal s.geo.record.bedNeedles c.racking s.image.lists c.listed with
  | some reason => s.refuseArming c.tag reason 5
  | none => s.nextStage .carrierPlan

/-- TRANSFER_PAIRING: stage 5 (R99). -/
def execTransferPairing (s : State) : Host.Outcome State Fault Refusal := .next (s.atStage .pairing s.checkPairs)

/-! ## The carrier plan (R115 to R119) -/

/-- The carriers in use on a rail that are UNKNOWN, lowest number first (R116). -/
def State.unknownOnRail (s : State) (r : Rail) : List Carrier :=
  allCarriers.filter fun j => s.inUse j && decide (s.railOf j = r) && s.carriers[j].isUnknown

/-- CARRIER_UNKNOWN, if it applies (R116). -/
def State.unknownRefusal (s : State) (k : Carrier) : Option ArmingRefusal :=
  match s.unknownOnRail (s.railOf k) with
  | j :: _ => some (.carrierUnknown k j)
  | [] => if s.carriers[k].isUnknown then some (.carrierUnknown k k) else none

/-- RAIL_CONFLICT, if an entry already in the plan holds a carrier on the same rail (R116). -/
def State.conflictRefusal (s : State) (plan : List PlanEntry) (k : Carrier) : Option ArmingRefusal :=
  (plan.find? fun e => decide (s.railOf e.carrier = s.railOf k)).map fun e => .railConflict e.carrier k

/-- CARRIER_SIDE, if the pickup position is not on the required side of the extent (R117). -/
def sideRefusal (d : Direction) (k : Carrier) (p left right : Int) : Option ArmingRefusal :=
  match d with
  | .l2r => if p ≤ left then none else some (.carrierSide k p left)
  | .r2l => if right ≤ p then none else some (.carrierSide k p right)

/-- The release point (R117). -/
def releasePoint (d : Direction) (gap : Nat) (left right : Int) : Int :=
  match d with
  | .l2r => right + gap
  | .r2l => left - gap

/-- Whether a carrier PARKED at `pj` stands in the way from `p` to `q` (R118). -/
def blocks (d : Direction) (p q pj : Int) : Bool :=
  match d with
  | .l2r => decide (p < pj) && decide (pj ≤ q)
  | .r2l => decide (q ≤ pj) && decide (pj < p)

/-- The nearer of two blocking carriers to `p`. -/
def nearer (p : Int) (best : Option (Carrier × Int)) (j : Carrier × Int) : Option (Carrier × Int) :=
  match best with
  | none => some j
  | some b => if |j.2 - p| < |b.2 - p| then some j else some b

/-- CARRIER_BLOCKED by the blocking carrier nearest to `p`, if any blocks (R118). -/
def State.blockedRefusal (s : State) (d : Direction) (k : Carrier) (p q : Int) : Option ArmingRefusal :=
  let blocking := allCarriers.filterMap fun j =>
    match s.carriers[j].parkedAt with
    | some pj => if j ≠ k ∧ s.railOf j = s.railOf k ∧ blocks d p q pj = true then some (j, pj) else none
    | none => none
  (blocking.foldl (nearer p) none).map fun b => .carrierBlocked k b.1

/-- One system that names carrier `k` and has the extent `left .. right`: the refusal of the first check that fails, or
its plan entry (R116 to R119). -/
def State.planCarrier (s : State) (d : Direction) (plan : List PlanEntry) (sys : System) (k : Carrier)
    (left right : Int) : ArmingRefusal ⊕ PlanEntry :=
  let p := s.carriers[k].position.getD 0
  let q := releasePoint d s.geo.record.parkGap left right
  match s.unknownRefusal k with
  | some r => .inl r
  | none =>
    match s.conflictRefusal plan k with
    | some r => .inl r
    | none =>
      match sideRefusal d k p left right with
      | some r => .inl r
      | none =>
        match s.blockedRefusal d k p q with
        | some r => .inl r
        | none => .inr ⟨k, sys, p, q, .awaitingCatch⟩

/-- The listed systems in ascending number (R115): the refusal, or the plan and whether a carrier is idle. -/
def State.planEntries (s : State) (d : Direction) :
    List SystemEntry → List PlanEntry → Bool → ArmingRefusal ⊕ (List PlanEntry × Bool)
  | [], plan, idle => .inr (plan, idle)
  | e :: es, plan, idle =>
    match e.carrier with
    | none => s.planEntries d es plan idle
    | some k =>
      match s.image.extents[e.system] with
      | none => s.planEntries d es plan true
      | some (l, r) =>
        match s.planCarrier d plan e.system k l r with
        | .inl refusal => .inl refusal
        | .inr entry => s.planEntries d es (plan ++ [entry]) idle

/-- Stage 6 on the head course (R115). -/
def State.planCarriers (s : State) (c : Course) : State :=
  match s.planEntries c.direction c.listed [] false with
  | .inl reason => s.refuseArming c.tag reason 6
  | .inr (plan, idle) =>
    let t := s.withImage { s.image with plan := plan }
    (t.withArm { t.arm with carrierIdle := idle }).nextStage .extent

/-- CARRIER_PLAN: stage 6 (R115). -/
def execCarrierPlan (s : State) : Host.Outcome State Fault Refusal := .next (s.atStage .carrierPlan s.planCarriers)

/-! ## Extent, turning points, speed -/

/-- The offsets that count in Dmax and Dmin: both heads of every listed system, and CATCH_OFFSET if the plan has an entry
(R130). -/
def countedOffsets (g : Geometry) (entries : List SystemEntry) (plan : List PlanEntry) : List Int :=
  (entries.flatMap fun e => [g.headOffset[System.head e.system .front], g.headOffset[System.head e.system .back]]) ++
    (if plan.isEmpty then [] else [g.catchOffset])

/-- TL before clamping (R130). -/
def turningLeft (g : Geometry) (d : Direction) (left dmax : Int) : Int :=
  (g.bedOrigin : Int) + left * g.cpn - dmax - d.sign * g.lead - g.margin

/-- TR before clamping (R130). -/
def turningRight (g : Geometry) (d : Direction) (right dmin : Int) : Int :=
  (g.bedOrigin : Int) + right * g.cpn - dmin - d.sign * g.lead + g.margin

/-- How far a turning point may lie beyond its travel limit (R131). -/
def clampRoom (g : Geometry) : Int := (g.margin : Int) - 2 * g.cpn

/-- TL after clamping and whether it was clamped; none if it is out of reach (R131). -/
def clampLeft (g : Geometry) (tl : Int) : Option (Int × Bool) :=
  if (g.travelLo : Int) ≤ tl then some (tl, false)
  else if (g.travelLo : Int) - tl ≤ clampRoom g then some ((g.travelLo : Int), true)
  else none

/-- TR after clamping and whether it was clamped; none if it is out of reach (R131). -/
def clampRight (g : Geometry) (tr : Int) : Option (Int × Bool) :=
  if tr ≤ g.travelHi then some (tr, false)
  else if tr - (g.travelHi : Int) ≤ clampRoom g then some ((g.travelHi : Int), true)
  else none

/-- Stage 7 on the head course (R102, R130, R131). -/
def State.findTurningPoints (s : State) (c : Course) : State :=
  let g := s.geo.record
  let offsets := countedOffsets g c.listed s.image.plan
  let extent := s.image.courseExtent
  let tl := turningLeft g c.direction extent.1 (maxOf offsets)
  let tr := turningRight g c.direction extent.2 (minOf offsets)
  match clampLeft g tl with
  | none => s.refuseArming c.tag (.outOfReach false tl g.travelLo) 7
  | some left =>
    match clampRight g tr with
    | none => s.refuseArming c.tag (.outOfReach true tr g.travelHi) 7
    | some right =>
      let t := s.withImage { s.image with extent := some extent }
      (t.withArm { t.arm with
        turnLeft := left.1, turnRight := right.1, clampedLeft := left.2, clampedRight := right.2 }).nextStage .speed

/-- EXTENT_AND_TURNING_POINTS: stage 7 (R130). -/
def execExtentAndTurningPoints (s : State) : Host.Outcome State Fault Refusal :=
  .next (s.atStage .extent s.findTurningPoints)

/-- The granted speed class (R132). -/
def State.grantedClass (s : State) (c : Course) : Nat :=
  let g := s.geo.record
  let caps := (match c.kind with | .transfer => [g.xferCap] | .knit => []) ++
    s.image.plan.map fun e => (g.carrierCap[e.carrier] : Nat)
  caps.foldl min (min c.speed s.arm.driveCap)

/-- Stage 8 on the head course (R132). -/
def State.findSpeed (s : State) (c : Course) : State :=
  (s.withArm { s.arm with
    grantedSpeed := s.grantedClass c, speedCapped := decide (s.grantedClass c < c.speed) }).nextStage .completion

/-- SPEED_CLASS: stage 8 (R132). -/
def execSpeedClass (s : State) : Host.Outcome State Fault Refusal := .next (s.atStage .speed s.findSpeed)

/-! ## Completion and grant -/

/-- Stage 9 on the head course (R134). -/
def State.completeArming (s : State) (c : Course) : State :=
  if s.arm.positionLost || !s.pos.valid then s.refuseArming c.tag .notHomed 9
  else if s.arm.stopSeen || s.stops.latch then s.refuseArming c.tag (.stopLatched s.pins.stopIn) 9
  else s.grantStroke c

/-- COMPLETION_AND_GRANT: stage 9 (R134). -/
def execCompletionAndGrant (s : State) : Host.Outcome State Fault Refusal :=
  .next (s.atStage .completion s.completeArming)

/-! ## READ_GRANT and SET_SPEED_CAP -/

/-- The reply of READ_GRANT (R139). -/
def formGrant (s : State) : Formed :=
  match s.arm.outcome with
  | none => .plain (outcomeBytes none) .empty
  | some (.grant g) => ⟨outcomeBytes (some (.grant g)), .ok, .grant s.reasonCounts.outcome⟩
  | some (.refusal r) => ⟨outcomeBytes (some (.refusal r)), .ok, .refusal s.reasonCounts.outcome⟩

/-- The attention reason of the record that was read is cleared; that of an outcome record written since the reply was
formed stays pending (R139; log 8). -/
def clearOutcomeReason (c : Carried) (s : State) : State :=
  match c with
  | .grant n =>
    s.withDriveReasons { s.driveReasons with
      grantReady := s.driveReasons.grantReady && decide (s.reasonCounts.outcome ≠ n) }
  | .refusal n =>
    s.withDriveReasons { s.driveReasons with
      refusalReady := s.driveReasons.refusalReady && decide (s.reasonCounts.outcome ≠ n) }
  | _ => s

/-- READ_GRANT (R139). -/
def execReadGrant (frame : ReadFrame) (s : State) : Host.Outcome State Fault Refusal :=
  .next (takeRead Layout.readGrant false false formGrant (finishRead formGrant clearOutcomeReason) frame s)

/-- The own rule of SET_SPEED_CAP (R133). -/
def ownSetSpeedCap (speed : Byte) (s : State) : ResultCode × State :=
  (.ok, s.withArm { s.arm with driveCap := clampClass speed })

/-- SET_SPEED_CAP (R133). -/
def execSetSpeedCap (frame : FrameEnd) (speed : Byte) (s : State) : Host.Outcome State Fault Refusal :=
  .next (takeWrite Layout.setSpeedCap false (ownSetSpeedCap speed) frame s)

end Sys2Proof.Machine
end

