-- ==== Sys2Proof/Machine/Carriers.lean ====
section
/-! DEFINITION. The carrier commands of the Pattern Port (R111 to R113), and the carrier table's part of geometry changes
(R6, R110). -/

namespace Sys2Proof.Machine

/-- A write to CARRIER_RAIL that gives a carrier a different rail makes it UNKNOWN; a write to CARRIERS makes every carrier
above the new value UNKNOWN if it lowers it (R110). -/
def State.geometryChanged (s : State) (before : Geometry) : State :=
  s.changeCarriers fun k e =>
    if s.geo.record.carrierRail[k] ≠ before.carrierRail[k] ∨
        (s.geo.record.carriers < before.carriers ∧ s.geo.record.carriers ≤ k.val)
    then e.lost else e

/-- The review at GO_ONLINE: a carrier PARKED outside -32..N+31 becomes UNKNOWN (R6). -/
def State.reviewCarriers (s : State) : State :=
  s.changeCarriers fun _ e =>
    match e.status with
    | .parked p => if p < -32 ∨ (s.geo.record.bedNeedles : Int) + 31 < p then e.lost else e
    | _ => e

/-- Whether another carrier is PARKED at `x` on carrier `k`'s rail (R111). -/
def State.positionTaken (s : State) (k : Carrier) (x : Int) : Bool :=
  allCarriers.any fun j =>
    decide (j ≠ k) && decide (s.railOf j = s.railOf k) && decide (s.carriers[j].parkedAt = some x)

/-- The own rule of SET_CARRIER (R111). -/
def ownSetCarrier (carrier : Byte) (position : BitVec 16) (s : State) : ResultCode × State :=
  match Carrier.ofNumber carrier.toNat with
  | none => (.range, s)
  | some k =>
    let x := s.geo.record.clampPosition position.toInt
    if s.inUse k = false then (.range, s)
    else if s.railLocked (s.railOf k) then (.inUse, s)
    else if s.positionTaken k x then (.range, s)
    else (.ok, s.changeCarrier k fun _ => ⟨.parked x, s.railOf k⟩)

/-- SET_CARRIER (R111). -/
def execSetCarrier (frame : FrameEnd) (carrier : Byte) (position : BitVec 16) (s : State) :
    Host.Outcome State Fault Refusal :=
  .next (takeWrite Layout.setCarrier true (ownSetCarrier carrier position) frame s)

/-- The own rule of SET_CARRIER_LIMIT (R112). -/
def ownSetCarrierLimit (carrier speed : Byte) (s : State) : ResultCode × State :=
  match Carrier.ofNumber carrier.toNat with
  | none => (.range, s)
  | some k =>
    if s.carrierLocked k then (.inUse, s)
    else
      (.ok, s.withGeo { s.geo with
        record := { s.geo.record with carrierCap := s.geo.record.carrierCap.set k.val (clampClass speed) } })

/-- SET_CARRIER_LIMIT (R112). -/
def execSetCarrierLimit (frame : FrameEnd) (carrier speed : Byte) (s : State) : Host.Outcome State Fault Refusal :=
  .next (takeWrite Layout.setCarrierLimit true (ownSetCarrierLimit carrier speed) frame s)

/-- The reply of READ_CARRIER (R113). -/
def formCarrier (carrier : Byte) (s : State) : Formed :=
  match Carrier.ofNumber carrier.toNat with
  | none => .plain (zeros 7) .range
  | some k =>
    let e := s.carriers[k]
    .plain ([e.status.code, flagByte e.position.isSome] ++ be2 (e.position.getD 0) ++
      [byteOf ((s.railOf k).val + 1), byteOf (s.geo.record.carrierCap[k] : Nat),
        flagBits [s.inUse k, s.carrierLocked k]]) .ok

/-- READ_CARRIER (R113). -/
def execReadCarrier (frame : ReadFrame) (carrier : Byte) (s : State) : Host.Outcome State Fault Refusal :=
  .next (takeRead Layout.readCarrier false true (formCarrier carrier) (finishRead (formCarrier carrier) noEffect) frame s)

end Sys2Proof.Machine
end

