-- ==== Sys2Proof/Machine/Courses.lean ====
section
/-! DEFINITION. The course-queue commands of the Pattern Port (R63 to R83). -/

namespace Sys2Proof.Machine

/-- The own rule of COMMIT_COURSE: the checks of R65, then a free slot, then the tail of the queue (R66, R83). -/
def ownCommitCourse (record : CourseFrame) (s : State) : ResultCode × State :=
  match checkCourse record s.geo.record with
  | none => (.range, s)
  | some c =>
    if Config.slotCount ≤ s.slotsInUse then (.full, s)
    else
      (.ok, (s.withQueue { s.queue with courses := s.queue.courses ++ [c] }).withPatternReasons
        { s.patternReasons with headRefused := false })

/-- COMMIT_COURSE (R65, R66). -/
def execCommitCourse (frame : FrameEnd) (record : CourseFrame) (s : State) : Host.Outcome State Fault Refusal :=
  .next (takeWrite (Layout.commitCourse record.entries.length) true (ownCommitCourse record) frame s)

/-- HEAD_REFUSED is cleared (R83). -/
def State.clearHeadRefused (s : State) : State :=
  s.withPatternReasons { s.patternReasons with headRefused := false }

/-- The own rule of DISCARD_HEAD (R75, R83). -/
def ownDiscardHead (s : State) : ResultCode × State :=
  match s.head?.map Course.state with
  | none => (.empty, s)
  | some .queued => (.ok, (s.withQueue { s.queue with courses := s.queue.courses.tail }).clearHeadRefused)
  | some .faulted => (.ok, s.discardFaulted.clearHeadRefused)
  | some _ => (.notNow, s)

/-- DISCARD_HEAD (R75). -/
def execDiscardHead (frame : FrameEnd) (s : State) : Host.Outcome State Fault Refusal :=
  .next (takeWrite Layout.discardHead true ownDiscardHead frame s)

/-- The reply of FETCH_COMPLETION: the oldest record (R78). -/
def formCompletion (s : State) : Formed :=
  match s.queue.completions with
  | r :: _ => ⟨r.bytes, .ok, .completion⟩
  | [] => .plain (zeros 29) .empty

/-- FETCH_COMPLETION at the end of its frame: the record its reply carried is removed; one that has left the list is
answered EMPTY (R78, R79). -/
def finishFetch (formed : Formed) (s : State) : ResultCode × State :=
  match formed.carried with
  | .completion =>
    (.ok, (s.withQueue { s.queue with completions := s.queue.completions.tail }).withPatternReasons
      { s.patternReasons with
        completionWaiting := s.patternReasons.completionWaiting && !s.queue.completions.tail.isEmpty })
  | .gone => (.empty, s)
  | _ => finishRead formCompletion noEffect formed s

/-- FETCH_COMPLETION (R78). -/
def execFetchCompletion (frame : ReadFrame) (s : State) : Host.Outcome State Fault Refusal :=
  .next (takeRead Layout.fetchCompletion false true formCompletion finishFetch frame s)

/-- The reply of READ_HEAD_COURSE (R80). -/
def formHeadCourse (s : State) : Formed :=
  .plain (headCourseBytes s.head?) (match s.head? with | some _ => .ok | none => .empty)

/-- READ_HEAD_COURSE (R80). -/
def execReadHeadCourse (frame : ReadFrame) (s : State) : Host.Outcome State Fault Refusal :=
  .next (takeRead Layout.readHeadCourse false true formHeadCourse (finishRead formHeadCourse noEffect) frame s)

/-- The own rule of SET_ZONE (R67). -/
def ownSetZone (left right : BitVec 16) (s : State) : ResultCode × State :=
  (.ok, s.withQueue { s.queue with zoneLeft := left.toInt, zoneRight := right.toInt })

/-- SET_ZONE (R67). -/
def execSetZone (frame : FrameEnd) (left right : BitVec 16) (s : State) : Host.Outcome State Fault Refusal :=
  .next (takeWrite Layout.setZone true (ownSetZone left right) frame s)

/-- The own rule of SET_WANT_LEVEL: the level is clamped to 0..15 (R81). -/
def ownSetWantLevel (level : Byte) (s : State) : ResultCode × State :=
  (.ok, s.withQueue { s.queue with wantLevel := min level.toNat 15 })

/-- SET_WANT_LEVEL (R81). -/
def execSetWantLevel (frame : FrameEnd) (level : Byte) (s : State) : Host.Outcome State Fault Refusal :=
  .next (takeWrite Layout.setWantLevel true (ownSetWantLevel level) frame s)

end Sys2Proof.Machine
end

