-- ==== Sys2Proof/Machine/GeometryBlock.lean ====
section
/-! DEFINITION. The geometry commands of the Drive Port and the settings store (R2, R5 to R10). -/

namespace Sys2Proof.Machine

/-- The own rule of SET_GEOMETRY_FIELD (R2, R4, R110). -/
def ownSetGeometryField (field index : Byte) (value : BitVec 32) (s : State) : ResultCode × State :=
  if s.geo.mode = .ready then (.notNow, s)
  else
    match (GeometryField.ofCode field).bind fun f => s.geo.record.setField f index.toNat value.toInt with
    | some g => (.ok, (s.withGeo { s.geo with record := g }).geometryChanged s.geo.record)
    | none => (.range, s)

/-- SET_GEOMETRY_FIELD (R2). -/
def execSetGeometryField (frame : FrameEnd) (field index : Byte) (value : BitVec 32) (s : State) :
    Host.Outcome State Fault Refusal :=
  .next (takeWrite Layout.setGeometryField false (ownSetGeometryField field index value) frame s)

/-- The number of the first cross check that fails, or 0 (R5). -/
def Geometry.crossCheck (g : Geometry) : Nat :=
  if 1048575 < (g.bedOrigin : Int) + ((g.bedNeedles : Int) - 1) * (g.cpn : Int) then 1
  else if g.margin < 2 * g.cpn then 2
  else if g.cpn ≤ g.backlash then 3
  else if g.travelHi ≤ g.travelLo then 4
  else if allCarriers.any fun k => decide (g.rails < g.carrierRail[k].val + 1) then 5
  else 0

/-- The own rule of GO_ONLINE (R5, R6). -/
def ownGoOnline (s : State) : ResultCode × State :=
  if s.geo.mode = .ready then (.ok, s)
  else if s.geo.record.crossCheck = 0 then
    (.ok, (s.withGeo { s.geo with check := 0, mode := .ready }).reviewCarriers)
  else (.geometry, s.withGeo { s.geo with check := s.geo.record.crossCheck })

/-- GO_ONLINE (R5). -/
def execGoOnline (frame : FrameEnd) (s : State) : Host.Outcome State Fault Refusal :=
  .next (takeWrite Layout.goOnline false ownGoOnline frame s)

/-- The own rule of GO_OFFLINE (R7). -/
def ownGoOffline (s : State) : ResultCode × State :=
  if s.pastQueued then (.notNow, s) else (.ok, s.withGeo { s.geo with mode := .offline })

/-- GO_OFFLINE (R7). -/
def execGoOffline (frame : FrameEnd) (s : State) : Host.Outcome State Fault Refusal :=
  .next (takeWrite Layout.goOffline false ownGoOffline frame s)

/-- The own rule of STORE_SETTINGS (R8). While the write runs the record cannot change, so its values are those
STORE_WRITE_COMPLETE finds. -/
def ownStoreSettings (s : State) : ResultCode × State :=
  if s.geo.mode = .ready then (.notNow, s) else (.ok, s.withGeo { s.geo with storeBusy := true })

/-- STORE_SETTINGS (R8). -/
def execStoreSettings (frame : FrameEnd) (s : State) : Host.Outcome State Fault Refusal :=
  .next (takeWrite Layout.storeSettings false ownStoreSettings frame s)

/-- STORE_WRITE_COMPLETE: the 30 ms write ends (R10). Without a write in progress there is no such event (log 6). -/
def execStoreWriteComplete (s : State) : Host.Outcome State Fault Refusal :=
  .next (if s.geo.storeBusy then
    s.withGeo { s.geo with store := ⟨s.geo.record, true⟩, storeBusy := false, settingsBlank := false }
  else s)

end Sys2Proof.Machine
end

