-- ==== Sys2Proof/Machine/Resets.lean ====
section
/-! DEFINITION. The three kinds of reset (00_scope.md, "Kinds of reset"): SOFT_RESET (R179), and what RESET, power-on and
the start-up do (R180). -/

namespace Sys2Proof.Machine

/-- A record that the reply of an open FETCH_COMPLETION frame carries has left the list (R78). -/
def PortState.dropCompletion (p : PortState) : PortState :=
  match p.frame with
  | some o => if o.formed.carried = .completion then { p with frame := some { o with formed := { o.formed with carried := .gone } } } else p
  | none => p

/-- The event of SOFT_RESET (R179, R85, R109): a FAULTED head is dropped with the queue, HELD carriers become UNKNOWN, and
every block takes its SOFT_RESET values. -/
def State.softReset (s : State) : State :=
  let t := (s.changeCarriers fun _ e => e.dropHeld).withCatchers catchersRaised
  let t := t.withGeo { t.geo with check := 0, mode := .offline }
  let t := t.withPos { t.pos with valid := false, homing := false, racking := 0, rackKnown := false }
  let t := ((t.releaseCourse).withLoad .initial).withPtrs pointersInitial
  let t := ((t.withQueue .initial).withArm .initial).withHeads .initial
  let t := (t.withSupply .standby).withStops { t.stops with faultRecord := none }
  let t := t.withPatternReasons { PatternReasons.none with resumeValid := t.patternReasons.resumeValid }
  (t.withDriveReasons .none).withPatternPort t.patternPort.dropCompletion

/-- Every block that no store keeps at its power-on value: what RESET and the loss of power leave until the start-up
(R180; log 18). The stop latch is given. -/
def State.clearVolatile (s : State) (latch : Bool) : State :=
  let t := s.withGeo { s.geo with
    check := 0, mode := .offline, storeBusy := false
    store := { s.geo.store with checkGood := s.geo.store.checkGood && !s.geo.storeBusy } }
  let t := t.withPos ⟨0, false, false, 0, false, s.pins.encA, s.pins.encB⟩
  let t := ((t.withMem ⟨[], []⟩).withLoad .initial).withTech .initial
  let t := ((t.withPtrs pointersInitial).withQueue .initial).withArm .initial
  let t := ((t.withImage .cleared).withHeads .initial).withCatchers catchersRaised
  let t := (t.withSupply .standby).withStops ⟨latch, none, none⟩
  let t := (t.withPatternPort .initial).withDrivePort .initial
  (t.withPatternReasons .none).withDriveReasons .none

/-- The load of the working geometry record (R11). -/
def State.loadSettings (s : State) : State :=
  s.withGeo { s.geo with
    record := (if s.geo.store.checkGood then s.geo.store.record else Geometry.defaults)
    check := 0, mode := .offline, storeBusy := false, settingsBlank := !s.geo.store.checkGood }

/-- A carrier-table entry as recovered from retained memory (R108). -/
def recoverEntry (g : Geometry) (good : Bool) (k : Carrier) (e : CarrierEntry) : CarrierEntry :=
  match e.status with
  | .parked _ => if good = true ∧ k.val < g.carriers ∧ e.rail = g.carrierRail[k] then e else e.lost
  | _ => e.lost

/-- The recovery of the carrier table and the resume record by the retained check word, after the geometry is loaded
(R108, R171). Writes still waiting are completed first (log 15). -/
def State.recoverRetained (s : State) : State :=
  let m := s.retained.flush
  let good := m.checkGood && !m.backupFailed
  let carriers : Vector CarrierEntry 16 := Vector.ofFn fun k => recoverEntry s.geo.record good k m.carriers[k]
  let resume := if good then m.resume else none
  let t := (s.withCarriers carriers).withRetained
    { m with backupFailed := false, writes := [.recovered carriers resume], lost := !good }
  let t := t.withStops { t.stops with resume := resume }
  t.withPatternReasons { t.patternReasons with resumeValid := resume.isSome }

/-- The start-up begins: power is applied, or RESET released (R180). -/
def State.beginStartUp (s : State) : State :=
  ((s.clearVolatile s.pins.stopIn).loadSettings.recoverRetained).withPhase .startUp

/-- RESET is asserted: outputs at rest, the stop latch follows STOP_IN (R180). -/
def State.holdReset (s : State) : State := (s.clearVolatile s.pins.stopIn).withPhase .held

end Sys2Proof.Machine
end

