-- ==== Sys2Proof/Machine/Ports.lean ====
section
/-! DEFINITION. The commands of both ports: READ_STATUS, SOFT_RESET, READ_GEOMETRY_FIELD, READ_FAULT, and a frame that
names no command. -/

namespace Sys2Proof.Machine

/-- Whether a both-port command breaks a load: on the Pattern Port only (R27). -/
def Port.breaksLoad (port : Port) : Bool := match port with | .pattern => true | .drive => false

/-- A reason as a status word shows it: its count while it is pending, nothing while it is clear. -/
def shownReason (pending : Bool) (count : Nat) : Option Nat := if pending then some count else none

/-- The status word, and which of the reasons it clears it showed (R177, R178). -/
def formStatus (port : Port) (s : State) : Formed :=
  match port with
  | .pattern => .plain (s.statusWord .pattern) .ok
  | .drive =>
    ⟨s.statusWord .drive, .ok,
      .reasons (shownReason s.driveReasons.grantWithdrawn s.reasonCounts.grantWithdrawn)
        (shownReason s.driveReasons.strokeDone s.reasonCounts.strokeDone)
        (shownReason s.driveReasons.wakeDone s.reasonCounts.wakeDone)⟩

/-- The reasons a Drive Port status word showed are cleared; a reason it showed clear, and one set since the reply was
formed, is left as it stands (R178). -/
def clearShown (c : Carried) (s : State) : State :=
  match c with
  | .reasons gw sd wd =>
    s.withDriveReasons { s.driveReasons with
      grantWithdrawn := s.driveReasons.grantWithdrawn && decide (gw ≠ some s.reasonCounts.grantWithdrawn)
      strokeDone := s.driveReasons.strokeDone && decide (sd ≠ some s.reasonCounts.strokeDone)
      wakeDone := s.driveReasons.wakeDone && decide (wd ≠ some s.reasonCounts.wakeDone) }
  | _ => s

/-- READ_STATUS (R177). -/
def execReadStatus (port : Port) (frame : ReadFrame) (s : State) : Host.Outcome State Fault Refusal :=
  .next (takeRead (Layout.readStatus port) true false (formStatus port) (finishRead (formStatus port) clearShown) frame s)

/-- The own rule of SOFT_RESET (R179). -/
def ownSoftReset (s : State) : ResultCode × State :=
  if s.headIs .arming || s.headIs .armed || s.headIs .knitting then (.notNow, s) else (.ok, s.softReset)

/-- SOFT_RESET (R179). -/
def execSoftReset (port : Port) (frame : FrameEnd) (s : State) : Host.Outcome State Fault Refusal :=
  .next (takeWrite (Layout.softReset port) (Port.breaksLoad port) ownSoftReset frame s)

/-- The value of a geometry field, 4 bytes signed; RANGE returns none, the bytes reading 0 (R3; log 9). -/
def formGeometryField (field index : Byte) (s : State) : Formed :=
  match (GeometryField.ofCode field).bind fun f => s.geo.fieldValue f index.toNat with
  | some v => .plain (be4 v) .ok
  | none => .plain (zeros 4) .range

/-- READ_GEOMETRY_FIELD (R3). -/
def execReadGeometryField (port : Port) (frame : ReadFrame) (field index : Byte) (s : State) :
    Host.Outcome State Fault Refusal :=
  .next (takeRead (Layout.readGeometryField port) false (Port.breaksLoad port) (formGeometryField field index)
    (finishRead (formGeometryField field index) noEffect) frame s)

/-- The fault record (R164). -/
def formFault (s : State) : Formed :=
  match s.stops.faultRecord with
  | some r => ⟨r.bytes, .ok, .fault s.reasonCounts.fault⟩
  | none => .plain (zeros 26) .empty

/-- FAULT of the port that read the record is cleared; a fault taken since the reply was formed, whose record it did not
carry, keeps it pending (R164; log 8). -/
def clearFault (port : Port) (c : Carried) (s : State) : State :=
  match c with
  | .fault n =>
    match port with
    | .pattern =>
      s.withPatternReasons { s.patternReasons with fault := s.patternReasons.fault && decide (s.reasonCounts.fault ≠ n) }
    | .drive =>
      s.withDriveReasons { s.driveReasons with fault := s.driveReasons.fault && decide (s.reasonCounts.fault ≠ n) }
  | _ => s

/-- READ_FAULT (R164). -/
def execReadFault (port : Port) (frame : ReadFrame) (s : State) : Host.Outcome State Fault Refusal :=
  .next (takeRead (Layout.readFault port) false (Port.breaksLoad port) formFault
    (finishRead formFault (clearFault port)) frame s)

/-- A frame whose command byte names no command of its port (R173). -/
def execUnknownCommand (port : Port) (frame : FrameEnd) (_code : Byte) (s : State) : Host.Outcome State Fault Refusal :=
  .next (takeUnknown port frame s)

end Sys2Proof.Machine
end

