-- ==== Sys2Proof/Machine/Position.lean ====
section
/-! DEFINITION. The position counter: encoder transitions, index pulses, homing, racking (R12 to R20). -/

namespace Sys2Proof.Machine

/-- The change of P of a valid transition between two levels, written A, B (R12). -/
def encoderStep (a b a' b' : Bool) : Int :=
  match a, b, a', b' with
  | false, false, true, false => 1
  | true, false, true, true => 1
  | true, true, false, true => 1
  | false, true, false, false => 1
  | _, _, _, _ => -1

/-- A valid count: P moves, or stays at its limit with P_VALID lost (R12, R14). -/
def State.takeCount (s : State) (d : Int) : State :=
  let p := (s.pos.count : Int) + d
  if p < 0 ∨ (Config.maxCount : Int) < p then s.losePosition
  else (s.withPos { s.pos with count := p.toNat }).countChanged s.pos.count

/-- ENCODER_TRANSITION: the channels take new levels (R12 to R14). Equal levels are no transition; without power or while
RESET is asserted nothing counts (log 18). -/
def execEncoderTransition (a b : Bool) (s : State) : Host.Outcome State Fault Refusal :=
  let t := s.withPins { s.pins with encA := a, encB := b }
  let u := t.withPos { t.pos with levelA := a, levelB := b }
  .next (
    if s.live = false then t
    else if s.pos.levelA = a ∧ s.pos.levelB = b then t
    else if s.pos.levelA ≠ a ∧ s.pos.levelB ≠ b then u.losePosition
    else u.takeCount (encoderStep s.pos.levelA s.pos.levelB a b))

/-- INDEX_PULSE: homing, the check against HOME_COUNT, or nothing (R16). -/
def execIndexPulse (s : State) : Host.Outcome State Fault Refusal :=
  .next (
    if s.live = false then s
    else if s.pos.homing then
      (s.withPos { s.pos with count := s.geo.record.homeCount, valid := true, homing := false }).countChanged s.pos.count
    else if s.pos.valid && decide ((s.geo.record.indexTol : Int) < |(s.pos.count : Int) - s.geo.record.homeCount|) then
      s.losePosition
    else s)

/-- The reply of READ_POSITION (R19). -/
def formPosition (s : State) : Formed :=
  .plain (be3 s.pos.count ++ [flagBits [s.pos.valid, s.pos.homing], byteOf s.pos.racking]) .ok

/-- READ_POSITION (R19); R9 exempts it from BUSY while the settings store is busy. -/
def execReadPosition (frame : ReadFrame) (s : State) : Host.Outcome State Fault Refusal :=
  .next (takeRead Layout.readPosition true false formPosition (finishRead formPosition noEffect) frame s)

/-- The own rule of HOME_ARM (R15). -/
def ownHomeArm (s : State) : ResultCode × State :=
  if s.headIs .arming || s.headIs .knitting then (.notNow, s)
  else (.ok, s.withPos { s.pos with homing := true })

/-- HOME_ARM (R15). -/
def execHomeArm (frame : FrameEnd) (s : State) : Host.Outcome State Fault Refusal :=
  .next (takeWrite Layout.homeArm false ownHomeArm frame s)

/-- The own rule of SET_RACKING (R18). -/
def ownSetRacking (racking : Byte) (s : State) : ResultCode × State :=
  if s.pastQueued then (.notNow, s)
  else
    match rackingOf racking with
    | some r => (.ok, s.withPos { s.pos with racking := r, rackKnown := true })
    | none => (.range, s)

/-- SET_RACKING (R18). -/
def execSetRacking (frame : FrameEnd) (racking : Byte) (s : State) : Host.Outcome State Fault Refusal :=
  .next (takeWrite Layout.setRacking false (ownSetRacking racking) frame s)

end Sys2Proof.Machine
end

