-- ==== Sys2Proof/Machine/Stops.lean ====
section
/-! DEFINITION. The stop and fault unit: CLEAR_STOP, STOP_IN, the yarn sensors, the power-fail warning, the resume record
and the writes to retained memory (R107, R122, R159 to R161, R169 to R171). -/

namespace Sys2Proof.Machine

/-! ## The stop latch -/

/-- Whether a HELD carrier's yarn sensor reports a break (R161). -/
def State.heldYarnBroken (s : State) : Bool := allCarriers.any fun k => s.carriers[k].isHeld && s.pins.yarn[k]

/-- The own rule of CLEAR_STOP (R161). -/
def ownClearStop (s : State) : ResultCode × State :=
  if s.pins.stopIn || s.heldYarnBroken then (.stopped, s)
  else (.ok, s.withStops { s.stops with latch := false })

/-- CLEAR_STOP (R161). -/
def execClearStop (frame : FrameEnd) (s : State) : Host.Outcome State Fault Refusal :=
  .next (takeWrite Layout.clearStop false ownClearStop frame s)

/-- An assertion of STOP_IN is taken: the latch is set, and a KNITTING course faults (R160). -/
def State.takeStopIn (s : State) : State := s.setLatch.strokeFault .stopRequest none none

/-- STOP_IN_ASSERTION (R160). While RESET is asserted the latch follows the input (R180); an assertion within start-up is
looked at when start-up ends (R159). An input that is asserted already makes no change. -/
def execStopInAssertion (s : State) : Host.Outcome State Fault Refusal :=
  let t := s.withPins { s.pins with stopIn := true }
  .next (
    if s.pins.stopIn then s
    else
      match s.phase with
      | .running => t.takeStopIn
      | .held => t.withStops { t.stops with latch := true }
      | .startUp => t
      | .off => t)

/-- STOP_IN_RELEASE changes nothing but the input itself (R160); while RESET is asserted the latch follows it (R180). -/
def execStopInRelease (s : State) : Host.Outcome State Fault Refusal :=
  let t := s.withPins { s.pins with stopIn := false }
  .next (
    match s.phase with
    | .held => t.withStops { t.stops with latch := false }
    | .running => t
    | .startUp => t
    | .off => t)

/-! ## Yarn sensors -/

/-- YARN_SENSOR_BREAK: a sensor begins to report a break; it is reported if its carrier is ENGAGED (R122). -/
def execYarnSensorBreak (k : Carrier) (s : State) : Host.Outcome State Fault Refusal :=
  let t := s.withPins { s.pins with yarn := s.pins.yarn.set k.val true }
  .next (
    if s.pins.yarn[k] then s
    else if s.carriers[k].isEngaged then t.strokeFault .yarnBreak (some k) none
    else t)

/-- YARN_SENSOR_BREAK_END: a sensor stops reporting a break (R161). -/
def execYarnSensorBreakEnd (k : Carrier) (s : State) : Host.Outcome State Fault Refusal :=
  .next (s.withPins { s.pins with yarn := s.pins.yarn.set k.val false })

/-! ## The power-fail warning -/

/-- The warning's effect on the head course (R169). -/
def State.warnCourse (s : State) : State :=
  match s.head?.map Course.state with
  | none => s
  | some .queued => s
  | some .arming => s.returnToQueued
  | some .armed => s.returnToQueued
  | some .knitting => s.strokeFault .powerWarning none none
  | some .faulted => s

/-- The resume record taken after the warning's effects, with the head course's state before them (R170). -/
def State.resumeRecordAfter (s : State) (before : Option CourseState) : ResumeRecord where
  head := match s.head?, before with
    | some c, some st => some (c.tag, st)
    | _, _ => none
  rows := match s.head? with | some c => c.resolved | none => []
  fault := if s.headIs .faulted then s.stops.faultRecord else none
  pointers := s.ptrs

/-- An assertion of PFW is taken: the course, the latch, the supply and the resume record, all in one event (R169, R170).
An ARMING course returns to QUEUED before the latch is set, so that the stop-seen note of the arming that ends stays
clear: the spec does not say which comes first, and no port shows it (DESIGN CHOICE, log 27). -/
def State.takePfw (s : State) : State :=
  let t := (s.warnCourse.setLatch).withSupply .standby
  let r := t.resumeRecordAfter (s.head?.map Course.state)
  (t.withStops { t.stops with resume := some r }).queueRetained (.resume r)

/-- PFW_ASSERTION (R169). An assertion while RESET is held or within start-up is looked at when start-up ends. -/
def execPfwAssertion (s : State) : Host.Outcome State Fault Refusal :=
  let t := s.withPins { s.pins with pfw := true }
  .next (
    if s.pins.pfw then s
    else
      match s.phase with
      | .running => t.takePfw
      | .held => t
      | .startUp => t
      | .off => t)

/-- PFW_RELEASE changes nothing but the input itself (R169). -/
def execPfwRelease (s : State) : Host.Outcome State Fault Refusal := .next (s.withPins { s.pins with pfw := false })

/-! ## The resume record -/

/-- The reply of READ_RESUME_RECORD (R171). -/
def formResume (s : State) : Formed :=
  match s.stops.resume with
  | some r => .plain r.bytes .ok
  | none => .plain (zeros 106) .empty

/-- READ_RESUME_RECORD (R171). -/
def execReadResumeRecord (frame : ReadFrame) (s : State) : Host.Outcome State Fault Refusal :=
  .next (takeRead Layout.readResumeRecord false true formResume (finishRead formResume noEffect) frame s)

/-- Whether a change writes a resume record. -/
def RetainedChange.isResume : RetainedChange → Bool
  | .resume _ => true
  | .carrier _ _ => false
  | .clearResume => false
  | .recovered _ _ => false

/-- Whether the write of a resume record is in progress or waiting. -/
def RetainedMemory.writingResume (m : RetainedMemory) : Bool := m.writes.any RetainedChange.isResume

/-- The own rule of CLEAR_RESUME_RECORD (R171). While the record is being written it becomes absent once that write has
completed (R170; log 17). -/
def ownClearResumeRecord (s : State) : ResultCode × State :=
  match s.stops.resume with
  | none => (.ok, s)
  | some _ =>
    let t := (s.queueRetained .clearResume).withPatternReasons { s.patternReasons with resumeValid := false }
    if s.retained.writingResume then (.ok, t) else (.ok, t.withStops { t.stops with resume := none })

/-- CLEAR_RESUME_RECORD (R171). -/
def execClearResumeRecord (frame : FrameEnd) (s : State) : Host.Outcome State Fault Refusal :=
  .next (takeWrite Layout.clearResumeRecord true ownClearResumeRecord frame s)

/-! ## The writes to retained memory -/

/-- The front change has been written (R107). -/
def RetainedMemory.complete (m : RetainedMemory) (c : RetainedChange) (rest : List RetainedChange) : RetainedMemory :=
  { m.apply c with writes := rest }

/-- RESUME_RECORD_WRITE_COMPLETE: the resume record is in retained memory. A clear waiting behind it then makes the record
absent (R170; log 17). Without such a write in progress there is no such event (log 6). -/
def execResumeRecordWriteComplete (s : State) : Host.Outcome State Fault Refusal :=
  .next (
    match s.retained.writes with
    | .resume r :: rest =>
      let t := s.withRetained (s.retained.complete (.resume r) rest)
      if t.retained.writingResume = false ∧ .clearResume ∈ rest then t.withStops { t.stops with resume := none } else t
    | _ => s)

/-- RETAINED_WRITE_COMPLETE: one other change is in retained memory (R107). Without such a write in progress there is no
such event (log 6). -/
def execRetainedWriteComplete (s : State) : Host.Outcome State Fault Refusal :=
  .next (
    match s.retained.writes with
    | c :: rest => if c.isResume then s else s.withRetained (s.retained.complete c rest)
    | [] => s)

end Sys2Proof.Machine
end

