-- ==== Sys2Proof/Machine/Power.lean ====
section
/-! DEFINITION. Power, RESET and start-up (R180), and the loss of main power and of the backup supply (R107). -/

namespace Sys2Proof.Machine

/-- POWER_ON: start-up begins, unless RESET is asserted (R180). With power already on there is no such event (log 6). -/
def execPowerOn (s : State) : Host.Outcome State Fault Refusal :=
  .next (
    match s.phase with
    | .off => if s.pins.reset then s.holdReset else s.beginStartUp
    | .held => s
    | .startUp => s
    | .running => s)

/-- What the loss of main power leaves of retained memory: the changes that had been written; a change being written or
waiting leaves the check word not matching (R107, R170). -/
def RetainedMemory.powerLost (m : RetainedMemory) : RetainedMemory :=
  { m with checkGood := m.checkGood && m.writes.isEmpty, writes := [] }

/-- POWER_LOSS: only retained memory and the settings store are kept (R107). -/
def execPowerLoss (s : State) : Host.Outcome State Fault Refusal :=
  .next (
    match s.phase with
    | .off => s
    | .held | .startUp | .running =>
      let t := (s.clearVolatile false).withRetained s.retained.powerLost
      (t.withCarriers t.retained.carriers).withPhase .off)

/-- RESET_ASSERTION (R180). -/
def execResetAssertion (s : State) : Host.Outcome State Fault Refusal :=
  let t := s.withPins { s.pins with reset := true }
  .next (
    match s.phase with
    | .off => t
    | .held => t
    | .startUp => t.holdReset
    | .running => t.holdReset)

/-- RESET_RELEASE: start-up begins, handled as at power-on (R180). -/
def execResetRelease (s : State) : Host.Outcome State Fault Refusal :=
  let t := s.withPins { s.pins with reset := false }
  .next (
    match s.phase with
    | .held => t.beginStartUp
    | .off => t
    | .startUp => t
    | .running => t)

/-- START_UP_END: the recovered contents are written, the part takes frames, and an asserted PFW and an asserted STOP_IN
are taken (R180, R159, R169). Without a start-up in progress there is no such event (log 6). -/
def execStartUpEnd (s : State) : Host.Outcome State Fault Refusal :=
  .next (
    match s.phase with
    | .startUp =>
      let t := (s.withRetained s.retained.flush).withPhase .running
      let t := if t.pins.pfw then t.takePfw else t
      if t.pins.stopIn then t.takeStopIn else t
    | .off => s
    | .held => s
    | .running => s)

/-- BACKUP_SUPPLY_FAILURE: the retained check word no longer matches when it is next examined (R107; log 16). -/
def execBackupSupplyFailure (s : State) : Host.Outcome State Fault Refusal :=
  .next (s.withRetained { s.retained with backupFailed := true })

end Sys2Proof.Machine
end

