-- ==== Sys2Proof/Machine/Rows.lean ====
section
/-! DEFINITION. The pattern-memory commands of the Pattern Port (R24 to R38). -/

namespace Sys2Proof.Machine

/-! ## Loading rows -/

/-- The forward write (R29): cells are written from the cursor on, and the write ends OK, with RANGE at the end of the
memory (R31), or with IN_USE at a locked row (R32). Answers the memory, the cursor and the result. -/
def forwardWrite (locks : List Nat) : List Colour → Memory → Nat → Nat → Memory × Nat × Nat × ResultCode
  | [], m, row, cell => (m, row, cell, .ok)
  | c :: cs, m, row, cell =>
    if Config.rowCount ≤ row then (m, row, cell, .range)
    else if row ∈ locks then (m, row, cell, .inUse)
    else if cell + 1 < Config.cellCount then forwardWrite locks cs (Memory.write m row cell c) row (cell + 1)
    else forwardWrite locks cs (Memory.write m row cell c) (row + 1) 0

/-- The forward write of a frame's cells from the load cursor, and what it leaves of cursor, continuation and
LOAD_OVERRUN (R29, R31, R32). -/
def State.loadCells (s : State) (cells : List Colour) : ResultCode × State :=
  let w := forwardWrite s.mem.locks cells s.mem.cells s.load.row s.load.cell
  (w.2.2.2,
    (s.withMem { s.mem with cells := w.1 }).withLoad
      ⟨w.2.1, w.2.2.1, decide (w.2.2.2 = .ok), s.load.overrun || decide (w.2.2.2 = .range)⟩)

/-- A load frame whose number of data bytes is not `lo .. 640` has a length that does not fit (R28, R30). -/
def loadEnd (lo : Nat) (data : List Byte) (extra : Nat) (e : FrameEnd) : FrameEnd :=
  match e with
  | .fits => if lo ≤ data.length ∧ data.length ≤ Config.maxLoadBytes then .fits else .misfit (extra + data.length) 0
  | other => other

/-- The own rule of WRITE_ROW: row, start cell and lock are checked, the cursor is set, and the cells are written
(R28). -/
def ownWriteRow (row start : BitVec 16) (data : List Byte) (s : State) : ResultCode × State :=
  match rowOf row, cellOf start with
  | some r, some j =>
    if r ∈ s.mem.locks then (.inUse, s)
    else (s.withLoad ⟨r, j, true, false⟩).loadCells (unpackCells data)
  | _, _ => (.range, s)

/-- WRITE_ROW (R28). -/
def execWriteRow (frame : FrameEnd) (row start : BitVec 16) (data : List Byte) (s : State) :
    Host.Outcome State Fault Refusal :=
  .next (takeWrite (Layout.writeRow data.length) true (ownWriteRow row start data) (loadEnd 0 data 4 frame) s)

/-- The own rule of ROW_CONTINUE (R30). -/
def ownRowContinue (data : List Byte) (s : State) : ResultCode × State :=
  if s.load.continuation then s.loadCells (unpackCells data) else (.notNow, s)

/-- ROW_CONTINUE (R30). -/
def execRowContinue (frame : FrameEnd) (data : List Byte) (s : State) : Host.Outcome State Fault Refusal :=
  .next (takeWrite (Layout.rowContinue data.length) false (ownRowContinue data) (loadEnd 1 data 0 frame) s)

/-! ## Reading rows and single cells -/

/-- The reply of READ_ROW: the returned count, and the cells packed two to a byte (R33). -/
def formRow (row start count : BitVec 16) (s : State) : Formed :=
  let bytes := (Layout.readRow count).reply
  match rowOf row, cellOf start, natIn 1 Config.cellCount count.toNat with
  | some r, some j, some n =>
    let returned := min n (Config.cellCount - j)
    .plain (padTo bytes (be2 returned ++
      packCells ((List.range returned).map fun i => Memory.read s.mem.cells r (j + i)))) .ok
  | _, _, _ => .plain (zeros bytes) .range

/-- READ_ROW (R33). -/
def execReadRow (frame : ReadFrame) (row start count : BitVec 16) (s : State) : Host.Outcome State Fault Refusal :=
  .next (takeRead (Layout.readRow count) false true (formRow row start count)
    (finishRead (formRow row start count) noEffect) frame s)

/-- The reply of TEST_CELL (R34). -/
def formCell (row cell : BitVec 16) (s : State) : Formed :=
  match rowOf row, cellOf cell with
  | some r, some j => .plain [byteOf (Memory.read s.mem.cells r j).toNat] .ok
  | _, _ => .plain [0] .range

/-- TEST_CELL (R34). -/
def execTestCell (frame : ReadFrame) (row cell : BitVec 16) (s : State) : Host.Outcome State Fault Refusal :=
  .next (takeRead Layout.testCell false true (formCell row cell) (finishRead (formCell row cell) noEffect) frame s)

/-- EXCHANGE_CELL as its checks find the state: the result, the reply byte and the cells after it (R35). -/
def exchangeCell (row cell : BitVec 16) (colour : Byte) (s : State) : ResultCode × Byte × Memory :=
  match rowOf row, cellOf cell, colourOf colour with
  | some r, some j, some c =>
    if r ∈ s.mem.locks then (.inUse, 0, s.mem.cells)
    else (.ok, byteOf (Memory.read s.mem.cells r j).toNat, Memory.write s.mem.cells r j c)
  | _, _, _ => (.range, 0, s.mem.cells)

/-- The reply of EXCHANGE_CELL (R35). -/
def formExchange (row cell : BitVec 16) (colour : Byte) (s : State) : Formed :=
  .plain [(exchangeCell row cell colour s).2.1] (exchangeCell row cell colour s).1

/-- EXCHANGE_CELL at the end of its frame: the lock set is consulted as it then stands (R26, R35). -/
def finishExchange (row cell : BitVec 16) (colour : Byte) (_ : Formed) (s : State) : ResultCode × State :=
  ((exchangeCell row cell colour s).1, s.withMem { s.mem with cells := (exchangeCell row cell colour s).2.2 })

/-- EXCHANGE_CELL (R35). -/
def execExchangeCell (frame : ReadFrame) (row cell : BitVec 16) (colour : Byte) (s : State) :
    Host.Outcome State Fault Refusal :=
  .next (takeRead Layout.exchangeCell false true (formExchange row cell colour) (finishExchange row cell colour) frame s)

/-- CONDITIONAL_EXCHANGE_CELL as its checks find the state: the result, the two reply bytes, the cells after it (R36). -/
def conditionalExchange (row cell : BitVec 16) (expected new : Byte) (s : State) : ResultCode × List Byte × Memory :=
  match rowOf row, cellOf cell, colourOf expected, colourOf new with
  | some r, some j, some x, some c =>
    if r ∈ s.mem.locks then (.inUse, [0, 0], s.mem.cells)
    else
      let old := Memory.read s.mem.cells r j
      if old = x then (.ok, [byteOf old.toNat, 1], Memory.write s.mem.cells r j c)
      else (.ok, [byteOf old.toNat, 0], s.mem.cells)
  | _, _, _, _ => (.range, [0, 0], s.mem.cells)

/-- The reply of CONDITIONAL_EXCHANGE_CELL (R36). -/
def formConditional (row cell : BitVec 16) (expected new : Byte) (s : State) : Formed :=
  .plain (conditionalExchange row cell expected new s).2.1 (conditionalExchange row cell expected new s).1

/-- CONDITIONAL_EXCHANGE_CELL at the end of its frame (R26, R36). -/
def finishConditional (row cell : BitVec 16) (expected new : Byte) (_ : Formed) (s : State) : ResultCode × State :=
  ((conditionalExchange row cell expected new s).1,
    s.withMem { s.mem with cells := (conditionalExchange row cell expected new s).2.2 })

/-- CONDITIONAL_EXCHANGE_CELL (R36). -/
def execConditionalExchangeCell (frame : ReadFrame) (row cell : BitVec 16) (expected new : Byte) (s : State) :
    Host.Outcome State Fault Refusal :=
  .next (takeRead Layout.conditionalExchangeCell false true (formConditional row cell expected new)
    (finishConditional row cell expected new) frame s)

/-! ## Searching a row -/

/-- A bound of SCAN_ROW, clamped to 0..1,279 (R37). -/
def scanBound (b : BitVec 16) : Nat := (clamp 0 1279 b.toInt).toNat

/-- The reply of SCAN_ROW: a found flag and a cell number (R37, R38). -/
def formScan (row a b set : BitVec 16) (direction : Byte) (s : State) : Formed :=
  match rowOf row with
  | none => .plain (zeros 3) .range
  | some r =>
    if scanBound b < scanBound a then .plain (zeros 3) .empty
    else
      match searchRange (fun j => inColourSet set (Memory.read s.mem.cells r j)) (scanBound a) (scanBound b)
          (decide (direction ≠ 0)) with
      | some j => .plain (1 :: be2 j) .ok
      | none => .plain (zeros 3) .ok

/-- SCAN_ROW (R37). -/
def execScanRow (frame : ReadFrame) (row a b set : BitVec 16) (direction : Byte) (s : State) :
    Host.Outcome State Fault Refusal :=
  .next (takeRead Layout.scanRow false true (formScan row a b set direction)
    (finishRead (formScan row a b set direction) noEffect) frame s)

end Sys2Proof.Machine
end

