-- ==== Sys2Proof/Machine/Supply.lean ====
section
/-! DEFINITION. The actuator supply (R144 to R146). -/

namespace Sys2Proof.Machine

/-- The own rule of ACTUATORS_ON (R145). -/
def ownActuatorsOn (s : State) : ResultCode × State :=
  if s.pins.pfw then (.notNow, s)
  else
    match s.supply with
    | .standby => (.ok, s.withSupply .waking)
    | .waking => (.ok, s)
    | .on => (.ok, s)

/-- ACTUATORS_ON (R145). -/
def execActuatorsOn (frame : FrameEnd) (s : State) : Host.Outcome State Fault Refusal :=
  .next (takeWrite Layout.actuatorsOn false ownActuatorsOn frame s)

/-- WAKE_COMPLETE: the 40 ms wake ends (R145). Without a wake in progress there is no such event (log 6). -/
def execWakeComplete (s : State) : Host.Outcome State Fault Refusal :=
  .next (match s.supply with
    | .waking => (s.withSupply .on).raiseWakeDone
    | .standby => s
    | .on => s)

/-- The own rule of ACTUATORS_OFF (R146). -/
def ownActuatorsOff (s : State) : ResultCode × State :=
  if s.headIs .arming || s.headIs .armed || s.headIs .knitting then (.notNow, s) else (.ok, s.withSupply .standby)

/-- ACTUATORS_OFF (R146). -/
def execActuatorsOff (frame : FrameEnd) (s : State) : Host.Outcome State Fault Refusal :=
  .next (takeWrite Layout.actuatorsOff false ownActuatorsOff frame s)

end Sys2Proof.Machine
end

