-- ==== Sys2Proof/Machine/Dispatch.lean ====
section
/-! DEFINITION. One arm per command, each one direct call of its meaning. -/

namespace Sys2Proof.Machine

def exec (i : Instr) (s : State) : Host.Outcome State Fault Refusal :=
  match i with
  | .readStatus port frame => Sys2Proof.Machine.execReadStatus port frame s
  | .softReset port frame => Sys2Proof.Machine.execSoftReset port frame s
  | .readGeometryField port frame field index => Sys2Proof.Machine.execReadGeometryField port frame field index s
  | .readFault port frame => Sys2Proof.Machine.execReadFault port frame s
  | .unknownCommand port frame code => Sys2Proof.Machine.execUnknownCommand port frame code s
  | .writeRow frame row start data => Sys2Proof.Machine.execWriteRow frame row start data s
  | .rowContinue frame data => Sys2Proof.Machine.execRowContinue frame data s
  | .readRow frame row start count => Sys2Proof.Machine.execReadRow frame row start count s
  | .testCell frame row cell => Sys2Proof.Machine.execTestCell frame row cell s
  | .exchangeCell frame row cell colour => Sys2Proof.Machine.execExchangeCell frame row cell colour s
  | .conditionalExchangeCell frame row cell expected new => Sys2Proof.Machine.execConditionalExchangeCell frame row cell expected new s
  | .scanRow frame row a b set direction => Sys2Proof.Machine.execScanRow frame row a b set direction s
  | .writeTechnique frame table colour front back parity => Sys2Proof.Machine.execWriteTechnique frame table colour front back parity s
  | .readTechnique frame table colour => Sys2Proof.Machine.execReadTechnique frame table colour s
  | .setPointer frame pointer current low high mode step => Sys2Proof.Machine.execSetPointer frame pointer current low high mode step s
  | .readPointer frame pointer => Sys2Proof.Machine.execReadPointer frame pointer s
  | .commitCourse frame record => Sys2Proof.Machine.execCommitCourse frame record s
  | .discardHead frame => Sys2Proof.Machine.execDiscardHead frame s
  | .fetchCompletion frame => Sys2Proof.Machine.execFetchCompletion frame s
  | .readHeadCourse frame => Sys2Proof.Machine.execReadHeadCourse frame s
  | .setZone frame left right => Sys2Proof.Machine.execSetZone frame left right s
  | .setWantLevel frame level => Sys2Proof.Machine.execSetWantLevel frame level s
  | .setCarrier frame carrier position => Sys2Proof.Machine.execSetCarrier frame carrier position s
  | .setCarrierLimit frame carrier speed => Sys2Proof.Machine.execSetCarrierLimit frame carrier speed s
  | .readCarrier frame carrier => Sys2Proof.Machine.execReadCarrier frame carrier s
  | .readResumeRecord frame => Sys2Proof.Machine.execReadResumeRecord frame s
  | .clearResumeRecord frame => Sys2Proof.Machine.execClearResumeRecord frame s
  | .setGeometryField frame field index value => Sys2Proof.Machine.execSetGeometryField frame field index value s
  | .goOnline frame => Sys2Proof.Machine.execGoOnline frame s
  | .goOffline frame => Sys2Proof.Machine.execGoOffline frame s
  | .storeSettings frame => Sys2Proof.Machine.execStoreSettings frame s
  | .storeWriteComplete => Sys2Proof.Machine.execStoreWriteComplete s
  | .readPosition frame => Sys2Proof.Machine.execReadPosition frame s
  | .homeArm frame => Sys2Proof.Machine.execHomeArm frame s
  | .setRacking frame racking => Sys2Proof.Machine.execSetRacking frame racking s
  | .actuatorsOn frame => Sys2Proof.Machine.execActuatorsOn frame s
  | .wakeComplete => Sys2Proof.Machine.execWakeComplete s
  | .actuatorsOff frame => Sys2Proof.Machine.execActuatorsOff frame s
  | .requestStroke frame => Sys2Proof.Machine.execRequestStroke frame s
  | .locksAndResolution => Sys2Proof.Machine.execLocksAndResolution s
  | .zoneStage => Sys2Proof.Machine.execZoneStage s
  | .imageStage => Sys2Proof.Machine.execImageStage s
  | .transferPairing => Sys2Proof.Machine.execTransferPairing s
  | .carrierPlan => Sys2Proof.Machine.execCarrierPlan s
  | .extentAndTurningPoints => Sys2Proof.Machine.execExtentAndTurningPoints s
  | .speedClass => Sys2Proof.Machine.execSpeedClass s
  | .completionAndGrant => Sys2Proof.Machine.execCompletionAndGrant s
  | .readGrant frame => Sys2Proof.Machine.execReadGrant frame s
  | .beginStroke frame => Sys2Proof.Machine.execBeginStroke frame s
  | .abandonStroke frame => Sys2Proof.Machine.execAbandonStroke frame s
  | .resumeStroke frame => Sys2Proof.Machine.execResumeStroke frame s
  | .setSpeedCap frame speed => Sys2Proof.Machine.execSetSpeedCap frame speed s
  | .clearStop frame => Sys2Proof.Machine.execClearStop frame s
  | .encoderTransition a b => Sys2Proof.Machine.execEncoderTransition a b s
  | .pulseEnd head => Sys2Proof.Machine.execPulseEnd head s
  | .indexPulse => Sys2Proof.Machine.execIndexPulse s
  | .stopInAssertion => Sys2Proof.Machine.execStopInAssertion s
  | .stopInRelease => Sys2Proof.Machine.execStopInRelease s
  | .yarnSensorBreak carrier => Sys2Proof.Machine.execYarnSensorBreak carrier s
  | .pfwAssertion => Sys2Proof.Machine.execPfwAssertion s
  | .pfwRelease => Sys2Proof.Machine.execPfwRelease s
  | .resumeRecordWriteComplete => Sys2Proof.Machine.execResumeRecordWriteComplete s
  | .retainedWriteComplete => Sys2Proof.Machine.execRetainedWriteComplete s
  | .powerOn => Sys2Proof.Machine.execPowerOn s
  | .powerLoss => Sys2Proof.Machine.execPowerLoss s
  | .resetAssertion => Sys2Proof.Machine.execResetAssertion s
  | .resetRelease => Sys2Proof.Machine.execResetRelease s
  | .startUpEnd => Sys2Proof.Machine.execStartUpEnd s
  | .yarnSensorBreakEnd carrier => Sys2Proof.Machine.execYarnSensorBreakEnd carrier s
  | .backupSupplyFailure => Sys2Proof.Machine.execBackupSupplyFailure s

end Sys2Proof.Machine
end

