-- ==== Sys2Proof/WellFormed.lean ====
section
/-! DEFINITION. Which commands are well formed: the frame's end is one its command can have. -/

namespace Sys2Proof

/-- A frame that does not fit ended with another number of whole bytes, or with 1 to 7 bits of a byte (R173). -/
def FrameEnd.wellFormed (length : Nat) : FrameEnd → Bool
  | .fits => true
  | .misfit bytes bits => decide (bits < 8) && !(decide (bytes = length) && decide (bits = 0))
  | .tooSoon _ => true

/-- A frame that was not taken (R174) forms no reply, so it has no end of its own after one. -/
def ReadFrame.wellFormed (length : Nat) : ReadFrame → Bool
  | .whole e => e.wellFormed length
  | .opened => true
  | .closed (.tooSoon _) => false
  | .closed e => e.wellFormed length

/-- The frame's end of a write command or of UNKNOWN_COMMAND, the frame of a read command; none for the events. -/
def Instr.frame : Instr → Option (FrameEnd ⊕ ReadFrame)
  | .readStatus _ f => some (.inr f)
  | .softReset _ e => some (.inl e)
  | .readGeometryField _ f _ _ => some (.inr f)
  | .readFault _ f => some (.inr f)
  | .unknownCommand _ e _ => some (.inl e)
  | .writeRow e _ _ _ => some (.inl e)
  | .rowContinue e _ => some (.inl e)
  | .readRow f _ _ _ => some (.inr f)
  | .testCell f _ _ => some (.inr f)
  | .exchangeCell f _ _ _ => some (.inr f)
  | .conditionalExchangeCell f _ _ _ _ => some (.inr f)
  | .scanRow f _ _ _ _ _ => some (.inr f)
  | .writeTechnique e _ _ _ _ _ => some (.inl e)
  | .readTechnique f _ _ => some (.inr f)
  | .setPointer e _ _ _ _ _ _ => some (.inl e)
  | .readPointer f _ => some (.inr f)
  | .commitCourse e _ => some (.inl e)
  | .discardHead e => some (.inl e)
  | .fetchCompletion f => some (.inr f)
  | .readHeadCourse f => some (.inr f)
  | .setZone e _ _ => some (.inl e)
  | .setWantLevel e _ => some (.inl e)
  | .setCarrier e _ _ => some (.inl e)
  | .setCarrierLimit e _ _ => some (.inl e)
  | .readCarrier f _ => some (.inr f)
  | .readResumeRecord f => some (.inr f)
  | .clearResumeRecord e => some (.inl e)
  | .setGeometryField e _ _ _ => some (.inl e)
  | .goOnline e => some (.inl e)
  | .goOffline e => some (.inl e)
  | .storeSettings e => some (.inl e)
  | .storeWriteComplete => none
  | .readPosition f => some (.inr f)
  | .homeArm e => some (.inl e)
  | .setRacking e _ => some (.inl e)
  | .actuatorsOn e => some (.inl e)
  | .wakeComplete => none
  | .actuatorsOff e => some (.inl e)
  | .requestStroke e => some (.inl e)
  | .locksAndResolution => none
  | .zoneStage => none
  | .imageStage => none
  | .transferPairing => none
  | .carrierPlan => none
  | .extentAndTurningPoints => none
  | .speedClass => none
  | .completionAndGrant => none
  | .readGrant f => some (.inr f)
  | .beginStroke e => some (.inl e)
  | .abandonStroke e => some (.inl e)
  | .resumeStroke e => some (.inl e)
  | .setSpeedCap e _ => some (.inl e)
  | .clearStop e => some (.inl e)
  | .encoderTransition _ _ => none
  | .pulseEnd _ => none
  | .indexPulse => none
  | .stopInAssertion => none
  | .stopInRelease => none
  | .yarnSensorBreak _ => none
  | .pfwAssertion => none
  | .pfwRelease => none
  | .resumeRecordWriteComplete => none
  | .retainedWriteComplete => none
  | .powerOn => none
  | .powerLoss => none
  | .resetAssertion => none
  | .resetRelease => none
  | .startUpEnd => none
  | .yarnSensorBreakEnd _ => none
  | .backupSupplyFailure => none

/-- Whether the command's frame is the whole frame of the command's own length. An event has none. -/
def Instr.fitsWhole (i : Instr) : Bool :=
  match i.frame with
  | some (.inl e) => decide (e = .fits)
  | some (.inr f) => decide (f = .whole .fits)
  | none => false

/-- The checks of each command: its frame's end is one it can have; the code of an UNKNOWN_COMMAND names no command of
its port (R173), and such a frame has no length of its own to fit; the entry count of a COMMIT_COURSE frame is one
byte (R182), and a frame of another length may have announced any count. -/
def Instr.wellFormed (i : Instr) : Bool :=
  match i with
  | .unknownCommand port frame code =>
    !knownCode port code && (match frame with | .fits => false | .misfit _ bits => decide (bits < 8) | .tooSoon _ => true)
  | .commitCourse frame record =>
    decide (record.entries.length < 256) && (match frame with | .misfit _ bits => decide (bits < 8) | _ => true)
  | _ =>
    match i.frame, i.shape with
    | some (.inl e), some f => e.wellFormed f.length
    | some (.inr r), some f => r.wellFormed f.length
    | _, _ => true

end Sys2Proof
end

