-- ==== Sys2Proof/Safety.lean ====
section
/-! DEFINITION. What the statements speak of: when the part carries out frames, which frame a command is, the ranges and
the invariants a safe part keeps (R1, R17, R25, R39, R52, R68 to R70, R79, R105, R107, R123, R147, R152, R159). -/

namespace Sys2Proof

/-- The port a command's frame comes in at; none for an event. -/
def Instr.port? (c : Instr) : Option Port :=
  match c with
  | .unknownCommand port _ _ => some port
  | _ => c.shape.map FrameShape.port

/-- How a command's frame ends, if the step is a whole frame; none for an event and for one part of a read frame. -/
def Instr.end? (c : Instr) : Option FrameEnd :=
  match c.frame with
  | some (.inl e) => some e
  | some (.inr (.whole e)) => some e
  | _ => none

/-- A read command with its frame run another way (R176); every other command as it is. -/
def Instr.reframe (r : ReadFrame) : Instr → Instr
  | .readStatus port _ => .readStatus port r
  | .readGeometryField port _ field index => .readGeometryField port r field index
  | .readFault port _ => .readFault port r
  | .readRow _ row start count => .readRow r row start count
  | .testCell _ row cell => .testCell r row cell
  | .exchangeCell _ row cell colour => .exchangeCell r row cell colour
  | .conditionalExchangeCell _ row cell expected new => .conditionalExchangeCell r row cell expected new
  | .scanRow _ row a b set direction => .scanRow r row a b set direction
  | .readTechnique _ table colour => .readTechnique r table colour
  | .readPointer _ pointer => .readPointer r pointer
  | .fetchCompletion _ => .fetchCompletion r
  | .readHeadCourse _ => .readHeadCourse r
  | .readCarrier _ carrier => .readCarrier r carrier
  | .readResumeRecord _ => .readResumeRecord r
  | .readPosition _ => .readPosition r
  | .readGrant _ => .readGrant r
  | c => c

/-- The two commands that are taken while the settings store is written (R9). -/
def Instr.exempt : Instr → Bool
  | .readStatus _ _ => true
  | .readPosition _ => true
  | _ => false

/-- The steps that end or begin the part's work as a whole (R180, R107). -/
def Instr.isPower : Instr → Bool
  | .powerOn => true
  | .powerLoss => true
  | .resetAssertion => true
  | .resetRelease => true
  | _ => false

namespace Machine

/-! ## Frames: what a step leaves as it was -/

/-- The blocks of the state. -/
inductive Block where
  | phase | pins | geo | pos | mem | load | tech | ptrs | queue | arm | image | heads
  | catchers | carriers | retained | supply | stops | patternPort | drivePort | patternReasons | driveReasons | reasonCounts
  | freeIndex | pending
deriving DecidableEq, Repr

/-- Whether a block is the same in two states. -/
def Block.same (t s : State) : Block → Prop
  | .phase => t.phase = s.phase
  | .pins => t.pins = s.pins
  | .geo => t.geo = s.geo
  | .pos => t.pos = s.pos
  | .mem => t.mem = s.mem
  | .load => t.load = s.load
  | .tech => t.tech = s.tech
  | .ptrs => t.ptrs = s.ptrs
  | .queue => t.queue = s.queue
  | .arm => t.arm = s.arm
  | .image => t.image = s.image
  | .heads => t.heads = s.heads
  | .catchers => t.catchers = s.catchers
  | .carriers => t.carriers = s.carriers
  | .retained => t.retained = s.retained
  | .supply => t.supply = s.supply
  | .stops => t.stops = s.stops
  | .patternPort => t.patternPort = s.patternPort
  | .drivePort => t.drivePort = s.drivePort
  | .patternReasons => t.patternReasons = s.patternReasons
  | .driveReasons => t.driveReasons = s.driveReasons
  | .reasonCounts => t.reasonCounts = s.reasonCounts
  | .freeIndex => t.freeIndex = s.freeIndex
  | .pending => t.pending = s.pending

/-- `t` is `s` but for the listed blocks. -/
def State.sameBut (t s : State) (touched : List Block) : Prop := ∀ b : Block, b ∉ touched → b.same t s

/-! ## Taking frames -/

/-- The part carries out the frames it takes: start-up is over and the settings store is not being written (R175). -/
def State.open (s : State) : Prop := s.phase = .running ∧ s.geo.storeBusy = false

/-- A command that clears the continuation flag leaves the rest of the load cursor (R27). -/
def State.loadBroken (s : State) : State := s.withLoad { s.load with continuation := false }

/-- The address the load cursor stands at (R24, R27). -/
def LoadCursor.address (l : LoadCursor) : Nat := cellAddress l.row l.cell

/-- Cell `i` of the data bytes of a load frame (R24). -/
def loadCell (data : List Byte) (i : Nat) : Colour := (unpackCells data).getD i 0

/-! ## Ranges (R1, R12, R18, R24, R52, R133) -/

/-- The indices a field takes (R1, R181). -/
def GeometryField.hasIndex (f : GeometryField) (index : Nat) : Prop :=
  match f with
  | .headOffset => 1 ≤ index ∧ index ≤ 6
  | .carrierRail => 1 ≤ index ∧ index ≤ 16
  | .carrierCap => 1 ≤ index ∧ index ≤ 16
  | _ => index = 0

/-- The values a field takes; GEOMETRY_CHECK, which is read only, takes none (R1). -/
def GeometryField.hasValue (f : GeometryField) (v : Int) : Prop :=
  match f with
  | .bedNeedles => 64 ≤ v ∧ v ≤ 1280
  | .cpn => 4 ≤ v ∧ v ≤ 64
  | .bedOrigin => 0 ≤ v ∧ v ≤ 1048575
  | .homeCount => 0 ≤ v ∧ v ≤ 1048575
  | .systems => 1 ≤ v ∧ v ≤ 3
  | .headOffset => -32768 ≤ v ∧ v ≤ 32767
  | .catchOffset => -32768 ≤ v ∧ v ≤ 32767
  | .lead => 0 ≤ v ∧ v ≤ 255
  | .margin => 0 ≤ v ∧ v ≤ 4095
  | .parkGap => 0 ≤ v ∧ v ≤ 16
  | .travelLo => 0 ≤ v ∧ v ≤ 1048575
  | .travelHi => 0 ≤ v ∧ v ≤ 1048575
  | .backlash => 0 ≤ v ∧ v ≤ 63
  | .indexTol => 0 ≤ v ∧ v ≤ 15
  | .pulseUs => 20 ≤ v ∧ v ≤ 400
  | .rails => 1 ≤ v ∧ v ≤ 8
  | .carriers => 1 ≤ v ∧ v ≤ 16
  | .carrierRail => 1 ≤ v ∧ v ≤ 8
  | .carrierCap => 1 ≤ v ∧ v ≤ 8
  | .xferCap => 1 ≤ v ∧ v ≤ 8
  | .geometryCheck => False

/-- Every field of a geometry record is in its range (R1). -/
def Geometry.inRange (g : Geometry) : Prop :=
  (64 ≤ g.bedNeedles ∧ g.bedNeedles ≤ 1280) ∧ (4 ≤ g.cpn ∧ g.cpn ≤ 64) ∧ g.bedOrigin ≤ 1048575 ∧
  g.homeCount ≤ 1048575 ∧ (1 ≤ g.systems ∧ g.systems ≤ 3) ∧
  (∀ h : Head, -32768 ≤ g.headOffset[h] ∧ g.headOffset[h] ≤ 32767) ∧
  (-32768 ≤ g.catchOffset ∧ g.catchOffset ≤ 32767) ∧ g.lead ≤ 255 ∧ g.margin ≤ 4095 ∧ g.parkGap ≤ 16 ∧
  g.travelLo ≤ 1048575 ∧ g.travelHi ≤ 1048575 ∧ g.backlash ≤ 63 ∧ g.indexTol ≤ 15 ∧
  (20 ≤ g.pulseUs ∧ g.pulseUs ≤ 400) ∧ (1 ≤ g.rails ∧ g.rails ≤ 8) ∧ (1 ≤ g.carriers ∧ g.carriers ≤ 16) ∧
  (∀ k : Carrier, 1 ≤ g.carrierCap[k] ∧ g.carrierCap[k] ≤ 8) ∧ (1 ≤ g.xferCap ∧ g.xferCap ≤ 8)

/-- P, the racking, the drive cap and both geometry records are in their ranges. -/
def State.rangesOk (s : State) : Prop :=
  s.pos.count ≤ Config.maxCount ∧ (-8 ≤ s.pos.racking ∧ s.pos.racking ≤ 8) ∧
  (1 ≤ s.arm.driveCap ∧ s.arm.driveCap ≤ 8) ∧ s.geo.record.inRange ∧ s.geo.store.record.inRange

/-- The pattern memory has its one form and the load cursor stands at a cell or at the end (R24, R27). -/
def State.memoryOk (s : State) : Prop :=
  Memory.wf s.mem.cells = true ∧
  ((s.load.row < Config.rowCount ∧ s.load.cell < Config.cellCount) ∨ (s.load.row = Config.rowCount ∧ s.load.cell = 0))

/-- A pointer's current row is in its band, the band in the memory, the step in 1..15 (R52). -/
def Pointer.inBand (p : Pointer) : Prop :=
  p.low ≤ p.current ∧ p.current ≤ p.high ∧ p.high < Config.rowCount ∧ 1 ≤ p.step ∧ p.step ≤ 15

/-- Every pointer is in its band. -/
def State.pointersOk (s : State) : Prop := ∀ p : Fin 8, s.ptrs[p].inBand

/-! ## The queue and the head course (R68 to R70) -/

/-- Only the head course is ever past QUEUED (R69). -/
def State.tailQueued (s : State) : Prop := ∀ c ∈ s.queue.courses.tail, c.state = .queued

/-- The slots suffice, only the head is past QUEUED, and COMPLETION_WAITING is pending exactly while the completion list
holds a record (R68, R69, R79). -/
def State.queueOk (s : State) : Prop :=
  s.slotsInUse ≤ Config.slotCount ∧ s.tailQueued ∧
  s.patternReasons.completionWaiting = !s.queue.completions.isEmpty ∧ s.queue.wantLevel ≤ 15

/-- Without power and while RESET is asserted the queue is empty (R84, R180). -/
def State.emptyUnlessLive (s : State) : Prop := s.live = false → s.queue.courses = []

/-- What a course past QUEUED may rely on: READY, the racking known and as required; while ARMING, ARMED or KNITTING the
supply is ON; while ARMED or KNITTING P_VALID is set; while KNITTING the stop latch is clear (R7, R17, R18, R146, R163). -/
def State.strokeOk (s : State) : Prop :=
  s.tailQueued ∧ s.emptyUnlessLive ∧
  (s.pastQueued = true → s.geo.mode = .ready ∧ s.pos.rackKnown = true ∧
    ∀ c, s.head? = some c → s.pos.racking = c.racking) ∧
  ((s.headIs .arming || s.headIs .armed || s.headIs .knitting) = true → s.supply = .on) ∧
  ((s.headIs .armed || s.headIs .knitting) = true → s.pos.valid = true) ∧
  (s.headIs .knitting = true → s.stops.latch = false)

/-- The locks and the image belong to a head course past QUEUED, the arming engine works exactly while it is ARMING, and
there is a stroke record exactly while it is KNITTING or FAULTED (R25, R49, R87, R125, R147). -/
def State.locksOk (s : State) : Prop :=
  s.tailQueued ∧
  (s.pastQueued = false → s.mem.locks = [] ∧ s.tech.locks = [] ∧ s.image = .cleared) ∧
  s.arm.stage.isSome = s.headIs .arming ∧
  s.heads.stroke.isSome = (s.headIs .knitting || s.headIs .faulted)

/-! ## Outputs and retained memory -/

/-- The stop latch is set whenever STOP_IN is asserted, and follows it while RESET is asserted (R159, R160, R180). -/
def State.latchOk (s : State) : Prop :=
  s.emptyUnlessLive ∧
  (s.phase = .running → s.pins.stopIn = true → s.stops.latch = true) ∧
  (s.phase = .held → s.stops.latch = s.pins.stopIn)

/-- A head's lines carry a code exactly while its pulse runs (R152). -/
def State.linesOk (s : State) : Prop :=
  ∀ h : Head, s.heads.pulses[h] = decide (s.heads.lines[h] ≠ .miss)

/-- The carrier table is what retained memory will hold once the waiting changes are written (R107). -/
def State.retainedOk (s : State) : Prop := s.retained.flush.carriers = s.carriers

/-! ## Carriers (R105, R114, R119, R123) -/

/-- Whether a carrier is attached to its rail's catcher. -/
def State.attached (s : State) (k : Carrier) : Bool := s.carriers[k].isEngaged || s.carriers[k].isHeld

/-- The carrier table and the catchers while the part works: carriers out of use are UNKNOWN; carriers are ENGAGED only
while KNITTING and HELD only while FAULTED; the attached carriers are those the plan is CARRYING, one a rail at most, each
named by the head course; a catcher is lowered exactly while a carrier of its rail is attached. -/
def State.carriersOk (s : State) : Prop :=
  s.strokeOk ∧ s.locksOk ∧
  (s.live = true →
    (∀ k : Carrier, s.inUse k = false → s.carriers[k].status = .unknown) ∧
    (∀ k : Carrier, s.carriers[k].isEngaged = true → s.headIs .knitting = true) ∧
    (∀ k : Carrier, s.carriers[k].isHeld = true → s.headIs .faulted = true) ∧
    (∀ k : Carrier, s.attached k = true ↔ ∃ e ∈ s.image.plan, e.carrier = k ∧ e.progress = .carrying) ∧
    (s.image.plan.map fun e => s.railOf e.carrier).Nodup ∧
    (∀ e ∈ s.image.plan, ∃ c, s.head? = some c ∧ e.carrier ∈ c.carriers) ∧
    (∀ r : Rail, s.catchers[r] = true ↔ ∃ k : Carrier, s.attached k = true ∧ s.railOf k = r))

/-- No two PARKED carriers on one rail share a position (R105). -/
def State.parkedApart (s : State) : Prop :=
  ∀ (j k : Carrier) (x : Int), j ≠ k → s.railOf j = s.railOf k → s.carriers[j].status = .parked x →
    s.carriers[k].status ≠ .parked x

/-- No two entries of a carrier table are PARKED at one position of one recorded rail. -/
def entriesApart (table : Vector CarrierEntry 16) : Prop :=
  ∀ (j k : Carrier) (x : Int), j ≠ k → table[j].rail = table[k].rail → table[j].status = .parked x →
    table[k].status ≠ .parked x

/-- What keeps PARKED carriers apart: every content that retained memory passes through as its waiting changes are written
holds them apart; and while the part works, they are apart, each stands on the rail recorded for it, system extents
have their bounds in order, and the release point of a plan entry not yet LEFT is free on its rail (R105, R107, R108,
R111, R117, R118, R121). -/
def State.parkedOk (s : State) : Prop :=
  s.carriersOk ∧ s.retainedOk ∧
  (∀ n : Nat, entriesApart ((s.retained.writes.take n).foldl RetainedMemory.apply s.retained).carriers) ∧
  (s.live = true →
    s.parkedApart ∧
    (∀ (k : Carrier) (x : Int), s.carriers[k].status = .parked x → s.carriers[k].rail = s.railOf k) ∧
    (∀ (sys : System) (l r : Nat), s.image.extents[sys] = some (l, r) → l ≤ r) ∧
    ∀ e ∈ s.image.plan, e.progress ≠ .left → ∀ j : Carrier, j ≠ e.carrier → s.railOf j = s.railOf e.carrier →
      s.carriers[j].status ≠ .parked e.release)

/-! ## Courses (R63, R65, R73) -/

/-- A system entry of a frame whose fields are each in range (R63). -/
def EntryFrame.inRange (f : EntryFrame) (g : Geometry) (kind : Byte) : Prop :=
  (1 ≤ f.system.toNat ∧ f.system.toNat ≤ g.systems) ∧
  ((f.sourceKind = 0 ∧ f.source.toNat < 512) ∨ (f.sourceKind = 1 ∧ f.source.toNat < 8)) ∧
  f.table.toNat < 8 ∧
  (f.carrier = 0 ∨ (f.carrier.toNat ≤ g.carriers ∧ kind = 0)) ∧
  (1 ≤ f.width.toNat ∧ f.width.toNat ≤ 1280) ∧ f.origin.toNat < 1280 ∧
  (-1279 ≤ f.shift.toInt ∧ f.shift.toInt ≤ 1279) ∧
  (f.exchange = 0 ∨ (f.exchangeA.toNat < 16 ∧ f.exchangeB.toNat < 16)) ∧
  (f.overlay = 0 ∨ (f.overlayRow.toNat < 512 ∧ f.overlayOrigin.toNat < 1280 ∧
    (1 ≤ f.overlayWidth.toNat ∧ f.overlayWidth.toNat ≤ 1280) ∧ f.overlayKey.toNat < 16))

/-- A course record that passes every check of R65. -/
def CourseFrame.inRange (f : CourseFrame) (g : Geometry) : Prop :=
  (1 ≤ f.entries.length ∧ f.entries.length ≤ 3 ∧ f.entries.length ≤ g.systems) ∧
  f.kind.toNat < 2 ∧ f.direction.toNat < 2 ∧ (-8 ≤ f.racking.toInt ∧ f.racking.toInt ≤ 8) ∧
  (∀ e ∈ f.entries, EntryFrame.inRange e g f.kind) ∧
  (f.entries.map EntryFrame.system).Nodup ∧ ((f.entries.map EntryFrame.carrier).filter (· ≠ 0)).Nodup

/-- A system entry of a course record holds the fields of its frame (R63). -/
def SystemEntry.takenFrom (e : SystemEntry) (f : EntryFrame) : Prop :=
  e.system.val + 1 = f.system.toNat ∧
  (match e.source with
    | .direct row => f.sourceKind = 0 ∧ row = f.source.toNat
    | .pointer p => f.sourceKind = 1 ∧ p.val = f.source.toNat) ∧
  e.table.val = f.table.toNat ∧
  (match e.carrier with | none => f.carrier = 0 | some k => k.val + 1 = f.carrier.toNat) ∧
  e.width = f.width.toNat ∧ e.origin = f.origin.toNat ∧ e.shift = f.shift.toInt ∧ (e.mirror = true ↔ f.mirror ≠ 0) ∧
  (match e.exchange with
    | none => f.exchange = 0
    | some (a, b) => f.exchange ≠ 0 ∧ a.toNat = f.exchangeA.toNat ∧ b.toNat = f.exchangeB.toNat) ∧
  (match e.overlay with
    | none => f.overlay = 0
    | some o => f.overlay ≠ 0 ∧ o.row = f.overlayRow.toNat ∧ o.origin = f.overlayOrigin.toNat ∧
      o.width = f.overlayWidth.toNat ∧ o.key.toNat = f.overlayKey.toNat)

/-- A course as committed: the fields of its frame, the speed class clamped to 1..8, the fields the part fills in absent
(R63, R64). -/
def Course.takenFrom (c : Course) (f : CourseFrame) : Prop :=
  c.tag = f.tag ∧ (c.kind = .transfer ↔ f.kind = 1) ∧ (c.direction = .r2l ↔ f.direction = 1) ∧
  c.racking = f.racking.toInt ∧ c.speed = max 1 (min 8 f.speed.toNat) ∧
  c.zone = (if f.zone = 0 then none else some (f.zoneLeft.toInt, f.zoneRight.toInt)) ∧
  List.Forall₂ SystemEntry.takenFrom c.entries f.entries ∧
  c.state = .queued ∧ c.resolved = [] ∧ c.lastRefusal = none ∧ c.grant = none ∧ c.lastFault = none ∧ c.parked = []

/-! ## The byte layouts of the records (R181, R182), written apart from the encoders of Machine/Operands.lean -/

/-- The `width` bytes from byte `i` on hold `x`: most significant byte first, in two's complement (R181). -/
def holdsAt (bytes : List Byte) (i width : Nat) (x : Int) : Prop :=
  i + width ≤ bytes.length ∧
  ((((bytes.drop i).take width).foldl (fun n b => 256 * n + b.toNat) 0 : Nat) : Int) = x % 256 ^ width

/-- A flag's weight in a byte or bit of a layout: 1 for set, 0 otherwise (R181). -/
def flagValue (b : Bool) : Int := if b then 1 else 0

/-- The codes of the courses' states (R181). -/
def CourseState.number : CourseState → Int
  | .queued => 1 | .arming => 2 | .armed => 3 | .knitting => 4 | .faulted => 5

/-- The codes of the fault reasons, 0 for an absent one (R181). -/
def faultNumber : Option FaultReason → Int
  | none => 0
  | some .stopRequest => 1 | some .yarnBreak => 2 | some .overspeed => 3 | some .reversal => 4 | some .encoder => 5
  | some .powerWarning => 6

/-- The row count at byte `i`, then three places of system 1, row 2; a place without a pair reads 0 (R182). -/
def rowsAt (bytes : List Byte) (i : Nat) (rows : List (System × Nat)) : Prop :=
  holdsAt bytes i 1 rows.length ∧
  ∀ n < 3, match rows[n]? with
    | some x => holdsAt bytes (i + 1 + 3 * n) 1 ((x.1.val : Int) + 1) ∧ holdsAt bytes (i + 2 + 3 * n) 2 x.2
    | none => holdsAt bytes (i + 1 + 3 * n) 3 0

/-- The eight bytes of a refusal's details from byte `i` on (R182). -/
def ArmingRefusal.detailsAt (bytes : List Byte) (i : Nat) : ArmingRefusal → Prop
  | .notHomed => holdsAt bytes i 8 0
  | .rackUnknown => holdsAt bytes i 8 0
  | .rackMismatch current required =>
    holdsAt bytes i 1 current ∧ holdsAt bytes (i + 1) 1 required ∧ holdsAt bytes (i + 2) 6 0
  | .supplyNotOn supply =>
    holdsAt bytes i 1 (match supply with | .standby => 0 | .waking => 1 | .on => 2) ∧ holdsAt bytes (i + 1) 7 0
  | .stopLatched stopIn => holdsAt bytes i 1 (flagValue stopIn) ∧ holdsAt bytes (i + 1) 7 0
  | .zoneEmpty left right => holdsAt bytes i 2 left ∧ holdsAt bytes (i + 2) 2 right ∧ holdsAt bytes (i + 4) 4 0
  | .transferPair system bed index =>
    holdsAt bytes i 1 ((system.val : Int) + 1) ∧ holdsAt bytes (i + 1) 1 (match bed with | .front => 0 | .back => 1) ∧
      holdsAt bytes (i + 2) 2 index ∧ holdsAt bytes (i + 4) 4 0
  | .carrierUnknown j k | .railConflict j k | .carrierBlocked j k =>
    holdsAt bytes i 1 ((j.val : Int) + 1) ∧ holdsAt bytes (i + 1) 1 ((k.val : Int) + 1) ∧ holdsAt bytes (i + 2) 6 0
  | .carrierSide carrier pickup bound =>
    holdsAt bytes i 1 ((carrier.val : Int) + 1) ∧ holdsAt bytes (i + 1) 2 pickup ∧ holdsAt bytes (i + 3) 2 bound ∧
      holdsAt bytes (i + 5) 3 0
  | .outOfReach right turningPoint limit =>
    holdsAt bytes i 1 (flagValue right) ∧ holdsAt bytes (i + 1) 4 turningPoint ∧ holdsAt bytes (i + 5) 3 limit

/-- The number of a refusal reason, in the order of R137 (R181). -/
def ArmingRefusal.number : ArmingRefusal → Int
  | .notHomed => 1 | .rackUnknown => 2 | .rackMismatch _ _ => 3 | .supplyNotOn _ => 4 | .stopLatched _ => 5
  | .zoneEmpty _ _ => 6 | .transferPair _ _ _ => 7 | .carrierUnknown _ _ => 8 | .railConflict _ _ => 9
  | .carrierSide _ _ _ => 10 | .carrierBlocked _ _ => 11 | .outOfReach _ _ _ => 12

/-- Reason 1, stage 1 and the eight bytes of details from byte `i` on (R182). -/
def ArmingRefusal.laidOut (r : ArmingRefusal) (stage : Nat) (bytes : List Byte) (i : Nat) : Prop :=
  holdsAt bytes i 1 r.number ∧ holdsAt bytes (i + 1) 1 stage ∧ r.detailsAt bytes (i + 2)

/-- The grant record, 31 bytes (R182). -/
def GrantRecord.laidOut (g : GrantRecord) (bytes : List Byte) : Prop :=
  bytes.length = 31 ∧ holdsAt bytes 0 2 g.tag.toNat ∧
  holdsAt bytes 2 1 (match g.direction with | .l2r => 0 | .r2l => 1) ∧
  holdsAt bytes 3 3 g.start ∧ holdsAt bytes 6 3 g.finish ∧ holdsAt bytes 9 2 g.left ∧ holdsAt bytes 11 2 g.right ∧
  holdsAt bytes 13 1 g.speed ∧
  holdsAt bytes 14 1 (flagValue g.clampedLeft + 2 * flagValue g.clampedRight + 4 * flagValue g.speedCapped +
    8 * flagValue g.suppressed + 16 * flagValue g.carrierIdle) ∧
  holdsAt bytes 15 1 g.engaged.length ∧
  ∀ n < 3, match g.engaged[n]? with
    | some x => holdsAt bytes (16 + 5 * n) 1 ((x.1.val : Int) + 1) ∧ holdsAt bytes (17 + 5 * n) 2 x.2.1 ∧
        holdsAt bytes (19 + 5 * n) 2 x.2.2
    | none => holdsAt bytes (16 + 5 * n) 5 0

/-- The refusal record as READ_GRANT carries it: 12 bytes, then 19 bytes of 0 (R182). -/
def RefusalRecord.laidOut (r : RefusalRecord) (bytes : List Byte) : Prop :=
  bytes.length = 31 ∧ holdsAt bytes 0 2 r.tag.toNat ∧ r.reason.laidOut r.stage bytes 2 ∧ holdsAt bytes 12 19 0

/-- The completion record, 29 bytes (R182). -/
def CompletionRecord.laidOut (r : CompletionRecord) (bytes : List Byte) : Prop :=
  bytes.length = 29 ∧ holdsAt bytes 0 2 r.tag.toNat ∧
  holdsAt bytes 2 1 (match r.outcome with | .done => 1 | .discarded => 2) ∧ holdsAt bytes 3 1 (faultNumber r.fault) ∧
  rowsAt bytes 4 r.rows ∧ holdsAt bytes 14 2 r.left ∧ holdsAt bytes 16 2 r.right ∧ holdsAt bytes 18 1 r.speed ∧
  holdsAt bytes 19 1 r.parked.length ∧
  ∀ n < 3, match r.parked[n]? with
    | some x => holdsAt bytes (20 + 3 * n) 1 ((x.1.val : Int) + 1) ∧ holdsAt bytes (21 + 3 * n) 2 x.2
    | none => holdsAt bytes (20 + 3 * n) 3 0

/-- The fault record, 26 bytes: byte 3 is the carrier, or the head, or 0 (R164, R182). -/
def FaultRecord.laidOut (r : FaultRecord) (bytes : List Byte) : Prop :=
  bytes.length = 26 ∧ holdsAt bytes 0 2 r.tag.toNat ∧ holdsAt bytes 2 1 (faultNumber (some r.reason)) ∧
  (∀ k, r.carrier = some k → holdsAt bytes 3 1 ((k.val : Int) + 1)) ∧
  (∀ h, r.carrier = none → r.head = some h → holdsAt bytes 3 1 ((h.val : Int) + 1)) ∧
  (r.carrier = none → r.head = none → holdsAt bytes 3 1 0) ∧
  holdsAt bytes 4 3 r.count ∧ (∀ h : Head, holdsAt bytes (7 + 3 * h.val) 3 r.next[h]) ∧
  holdsAt bytes 25 1 (flagValue r.resumable)

/-- The five fields of a pointer from byte `i` on, in SET_POINTER order (R181, R182). -/
def Pointer.laidOut (p : Pointer) (bytes : List Byte) (i : Nat) : Prop :=
  holdsAt bytes i 2 p.current ∧ holdsAt bytes (i + 2) 2 p.low ∧ holdsAt bytes (i + 4) 2 p.high ∧
  holdsAt bytes (i + 6) 1 (match p.mode with | .fixed => 0 | .up => 1 | .down => 2) ∧ holdsAt bytes (i + 7) 1 p.step

/-- The reply of READ_HEAD_COURSE for a head course, 25 bytes (R182). -/
def Course.laidOut (c : Course) (bytes : List Byte) : Prop :=
  bytes.length = 25 ∧ holdsAt bytes 0 1 1 ∧ holdsAt bytes 1 2 c.tag.toNat ∧ holdsAt bytes 3 1 c.state.number ∧
  rowsAt bytes 4 c.resolved ∧
  match c.lastRefusal with
  | some r => holdsAt bytes 14 1 1 ∧ r.reason.laidOut r.stage bytes 15
  | none => holdsAt bytes 14 11 0

/-- The resume record, 106 bytes (R182). -/
def ResumeRecord.laidOut (r : ResumeRecord) (bytes : List Byte) : Prop :=
  bytes.length = 106 ∧ holdsAt bytes 0 1 1 ∧
  (match r.head with
    | some x => holdsAt bytes 1 1 1 ∧ holdsAt bytes 2 2 x.1.toNat ∧ holdsAt bytes 4 1 x.2.number
    | none => holdsAt bytes 1 4 0) ∧
  rowsAt bytes 5 r.rows ∧
  (match r.fault with
    | some f => holdsAt bytes 15 1 1 ∧ f.laidOut ((bytes.drop 16).take 26)
    | none => holdsAt bytes 15 27 0) ∧
  ∀ p : Fin 8, r.pointers[p].laidOut bytes (42 + 8 * p.val)

/-- The reply of READ_CARRIER for carrier `k`, 7 bytes (R113, R181). -/
def State.carrierLaidOut (s : State) (k : Carrier) (bytes : List Byte) : Prop :=
  bytes.length = 7 ∧
  (match s.carriers[k].status with
    | .parked x => holdsAt bytes 0 1 0 ∧ holdsAt bytes 1 1 1 ∧ holdsAt bytes 2 2 x
    | .engaged x => holdsAt bytes 0 1 1 ∧ holdsAt bytes 1 1 1 ∧ holdsAt bytes 2 2 x
    | .held x => holdsAt bytes 0 1 2 ∧ holdsAt bytes 1 1 1 ∧ holdsAt bytes 2 2 x
    | .unknown => holdsAt bytes 0 1 3 ∧ holdsAt bytes 1 1 0 ∧ holdsAt bytes 2 2 0) ∧
  holdsAt bytes 4 1 ((s.railOf k).val + 1 : Nat) ∧ holdsAt bytes 5 1 (s.geo.record.carrierCap[k] : Nat) ∧
  holdsAt bytes 6 1 (flagValue (s.inUse k) + 2 * flagValue (s.carrierLocked k))

/-- Lines 0, 1 and 2 of a head for an action: bits 0, 1 and 2 of its code (R181; "Pins and electrical notes"). -/
def Action.pins : Action → Bool × Bool × Bool
  | .miss => (false, false, false)
  | .tuck => (true, false, false)
  | .knit => (false, true, false)
  | .xfer => (true, true, false)
  | .recv => (false, false, true)

/-! ## One count of a stroke (R150 to R155) -/

/-- The transition to the levels `a`, `b` is a valid one, which takes P to `p` (R12, R14). -/
def State.countsTo (s : State) (a b : Bool) (p : Nat) : Prop :=
  s.live = true ∧ ((a ≠ s.pos.levelA ∧ b = s.pos.levelB) ∨ (a = s.pos.levelA ∧ b ≠ s.pos.levelB)) ∧
  (p : Int) = (s.pos.count : Int) + (if (a ≠ s.pos.levelA ↔ a ≠ b) then 1 else -1) ∧ p ≤ Config.maxCount

/-- The encoder's new levels and a new P, and nothing else. -/
def State.moved (s : State) (a b : Bool) (p : Nat) : State :=
  (s.withPins { s.pins with encA := a, encB := b }).withPos { s.pos with count := p, levelA := a, levelB := b }

/-- The head course is KNITTING, with its stroke record. -/
def State.knits (s : State) (c : Course) (r : StrokeRecord) : Prop :=
  s.head? = some c ∧ c.state = .knitting ∧ s.heads.stroke = some r

/-- Head `h` makes no selection event as P goes from its value to `p` (R150). -/
def State.headQuiet (s : State) (r : StrokeRecord) (p : Nat) (h : Head) : Prop :=
  headIndex s.geo.record h r.direction s.pos.count = headIndex s.geo.record h r.direction p ∨
    headIndex s.geo.record h r.direction p ≠ r.next[h]

/-- A plan entry brings no catch and no release as P goes from its value to `p` (R120, R121). -/
def State.entryQuiet (s : State) (r : StrokeRecord) (p : Nat) (e : PlanEntry) : Prop :=
  catcherIndex s.geo.record r.direction s.pos.count = catcherIndex s.geo.record r.direction p ∨
    (catcherIndex s.geo.record r.direction p ≠ e.pickup - r.direction.sign ∧
      catcherIndex s.geo.record r.direction p ≠ e.release)

/-- P = `p` is short of the end point and not back beyond the backlash (R154, R155). -/
def StrokeRecord.within (r : StrokeRecord) (backlash : Nat) (p : Nat) : Prop :=
  match r.direction with
  | .l2r => (p : Int) < r.finish ∧ r.furthest - backlash ≤ p
  | .r2l => r.finish < (p : Int) ∧ (p : Int) ≤ r.furthest + backlash

/-- The furthest position after P reaches `p` (R154). -/
def StrokeRecord.reach (r : StrokeRecord) (p : Nat) : Int :=
  match r.direction with
  | .l2r => max r.furthest p
  | .r2l => min r.furthest p

/-- The carrier table after the catchers have followed P from its value to `p` (R106). -/
def State.followed (s : State) (d : Direction) (p : Nat) (k : Carrier) : CarrierEntry :=
  if catcherIndex s.geo.record d s.pos.count = catcherIndex s.geo.record d p then s.carriers[k]
  else s.carriers[k].follow (s.geo.record.clampPosition (catcherIndex s.geo.record d p))

/-! ## The passages of a course (R70) -/

/-- The states the head of the queue can pass between in one step, for the head's state before and after; a step that
retires, discards or drops the head leaves the next course, QUEUED, or none. -/
def passage : Option CourseState → Option CourseState → Prop
  | none, b => b = none ∨ b = some .queued
  | some .queued, b => b = none ∨ b = some .queued ∨ b = some .arming
  | some .arming, b => b = none ∨ b = some .queued ∨ b = some .arming ∨ b = some .armed
  | some .armed, b => b = none ∨ b = some .queued ∨ b = some .armed ∨ b = some .knitting
  | some .knitting, b => b = none ∨ b = some .queued ∨ b = some .knitting ∨ b = some .faulted
  | some .faulted, b => b = none ∨ b = some .queued ∨ b = some .knitting ∨ b = some .faulted

end Machine

end Sys2Proof
end

