-- ==== Sys2Proof/Certificates/Slice0/Obligations.lean ====
section
/-! DEFINITION. The statements about the part, each with the rules of spec/ it rests on. -/

open Sys2Proof
open Sys2Proof.Machine


/-! ## Steps, frames and answers -/

/-- A step carries out the command at the front of the queue on the state with the queue's rest; with an empty queue
the part idles. The queue and the idling are the model's (DESIGN CHOICE, log 1). -/
def Obligations.StepTakesFront : Prop :=
  (∀ (c : Instr) (rest : List Instr) (s : State), step (s.withPending (c :: rest)) = exec c (s.withPending rest)) ∧
  ∀ s : State, s.pending = [] → step s = .next s

/-- A well-formed command whose frame fits is encoded as a frame, and the frame's bytes decode to the command (R173,
R181, R182). -/
def Obligations.DecodeOfEncode : Prop :=
  ∀ c : Instr, c.wellFormed = true → c.fitsWhole = true →
    ∃ port bytes, encodeFrame c = some (port, bytes) ∧ decodeFrame port bytes 0 = some c

/-- A frame answered BUSY, during start-up or while the settings store is written, has no effect but on the port's
last result and output, which is the last result and then zeros; that the bytes after the last result are 0 is the
model's reading of R174 (DEDUCED, log 9) (R175, R9, R174). A frame of a known command whose length does not fit is
refused with FRAME and has no effect but on the port's last result and output; a load frame with no data byte where
one is needed, or with more than 640, is such a frame (R173, R175, R28, R30). A frame whose select came too soon is
not taken: the part clocks out FFh and nothing else changes; without power and while RESET is asserted no frame is
taken and nothing is clocked out (R174, R180; that it is so without power is the model's, DESIGN CHOICE, log 18). A
frame whose command byte names no command of its port is answered UNKNOWN, whatever its length; on the Pattern Port it
clears the continuation flag; nothing else changes; its bytes after the last result are 0 (DEDUCED, log 9) (R173,
R175, R27). -/
def Obligations.FramesNotCarriedOut : Prop :=
  (∀ (c : Instr) (s : State) (p : Port) (e : FrameEnd),
    c.port? = some p → c.end? = some e → (∀ n, e ≠ .tooSoon n) →
    (s.phase = .startUp ∨ (s.phase = .running ∧ s.geo.storeBusy = true ∧ c.exempt = false)) →
    ∃ n, exec c s = .next (s.withPort p ⟨.busy, none, (s.port p).lastResult.code :: zeros n⟩)) ∧
  ((∀ (c : Instr) (s : State) (p : Port) (bytes bits : Nat),
    c.port? = some p → c.shape.isSome = true → c.end? = some (.misfit bytes bits) → s.phase = .running →
    (s.geo.storeBusy = false ∨ c.exempt = true) →
    ∃ out, exec c s = .next (s.withPort p ⟨.frame, none, (s.port p).lastResult.code :: out⟩)) ∧
  (∀ (s : State) (row start : BitVec 16) (data : List Byte), s.open → 640 < data.length →
    exec (.writeRow .fits row start data) s =
      .next (s.withPatternPort ⟨.frame, none, s.patternPort.lastResult.code :: zeros (4 + data.length)⟩)) ∧
  (∀ (s : State) (data : List Byte), s.open → (data = [] ∨ 640 < data.length) →
    exec (.rowContinue .fits data) s =
      .next (s.withPatternPort ⟨.frame, none, s.patternPort.lastResult.code :: zeros data.length⟩))) ∧
  ((∀ (c : Instr) (s : State) (p : Port) (n : Nat), c.port? = some p → c.end? = some (.tooSoon n) →
    s.phase = .running ∨ s.phase = .startUp →
    exec c s = .next (s.withPort p ⟨(s.port p).lastResult, (s.port p).frame, List.replicate (n + 1) 0xFF⟩)) ∧
  (∀ (c : Instr) (s : State) (p : Port), c.port? = some p → s.phase = .held ∨ s.phase = .off →
    exec c s = .next (s.withPort p ⟨(s.port p).lastResult, none, []⟩))) ∧
  (∀ (s : State) (code : Byte) (bytes bits : Nat), s.open →
    exec (.unknownCommand .pattern (.misfit bytes bits) code) s =
      .next ((s.withLoad ⟨s.load.row, s.load.cell, false, s.load.overrun⟩).withPatternPort
        ⟨.unknown, none, s.patternPort.lastResult.code :: zeros bytes⟩) ∧
    exec (.unknownCommand .drive (.misfit bytes bits) code) s =
      .next (s.withDrivePort ⟨.unknown, none, s.drivePort.lastResult.code :: zeros bytes⟩))

/-- Every command answers a next state in every state, and none touches the queue of waiting commands (the queue is
the model's, log 1). A frame on one port leaves the other port's last result and output as they are, and an event that
is not a reset or the loss of power leaves both ports as they are (R173, R174). -/
def Obligations.AnswersAndPorts : Prop :=
  (∀ (c : Instr) (s : State), ∃ t, exec c s = .next t ∧ t.pending = s.pending) ∧
  (∀ (c : Instr) (s t : State), exec c s = .next t →
    (c.port? = some .pattern → t.drivePort = s.drivePort) ∧
    (c.port? = some .drive →
      t.patternPort.lastResult = s.patternPort.lastResult ∧ t.patternPort.out = s.patternPort.out) ∧
    (c.port? = none → c.isPower = false → t.patternPort = s.patternPort ∧ t.drivePort = s.drivePort))

/-- A command with a reply, taken in two steps, the forming of its reply and the end of its frame, with nothing
between them, does what its whole frame does; the forming changes only that the frame is open (R173, R176). Whatever
falls between the two, a frame that fits clocks out the reply as it was formed (R176). An end without an open frame
makes no event (log 10). A reason of the Drive Port that is set after a READ_STATUS reply was formed is left pending
when the frame ends, also where the reply showed it pending; one that the reply showed clear is left as it stands; one
that it showed and that was not set since is cleared (R178). The model counts how often each reason is set;
WAKE_COMPLETE is one event that sets one. Likewise READ_FAULT and READ_GRANT leave the reason of a record written
since their reply was formed (the model's reading of R164 and R139, DEDUCED, log 8). -/
def Obligations.ReplyThenEnd : Prop :=
  (∀ (c : Instr) (s : State) (p : Port) (e : FrameEnd), c.frame = some (.inr (.whole e)) → c.port? = some p →
    s.live = true → (∀ n, e ≠ .tooSoon n) →
    (∃ t, exec (c.reframe .opened) s = .next t ∧ t = s.withPort p { s.port p with frame := (t.port p).frame } ∧
      exec (c.reframe (.closed e)) t = exec c s ∧
      ∀ u : State, u.live = true → u.port p = t.port p → ∃ v w, exec (c.reframe (.closed .fits)) u = .next v ∧
        exec (c.reframe (.whole .fits)) s = .next w ∧ (v.port p).out = (w.port p).out) ∧
    ((s.port p).frame = none → exec (c.reframe (.closed e)) s = .next s)) ∧
  ((∀ s : State, s.open → s.supply = .waking → ∃ t u v, exec (.readStatus .drive .opened) s = .next t ∧
    exec .wakeComplete t = .next u ∧ exec (.readStatus .drive (.closed .fits)) u = .next v ∧
    v.driveReasons = { s.driveReasons with grantWithdrawn := false, strokeDone := false, wakeDone := true }) ∧
  (∀ s u : State, s.open → u.open → ∃ t v, exec (.readStatus .drive .opened) s = .next t ∧
    exec (.readStatus .drive (.closed .fits)) (u.withDrivePort t.drivePort) = .next v ∧
    v.sameBut u [.driveReasons, .drivePort] ∧
    v.driveReasons = { u.driveReasons with
      grantWithdrawn := u.driveReasons.grantWithdrawn &&
        !(s.driveReasons.grantWithdrawn && decide (u.reasonCounts.grantWithdrawn = s.reasonCounts.grantWithdrawn))
      strokeDone := u.driveReasons.strokeDone &&
        !(s.driveReasons.strokeDone && decide (u.reasonCounts.strokeDone = s.reasonCounts.strokeDone))
      wakeDone := u.driveReasons.wakeDone &&
        !(s.driveReasons.wakeDone && decide (u.reasonCounts.wakeDone = s.reasonCounts.wakeDone)) }) ∧
  (∀ (s : State) (c : Course) (cs : List Course), s.open → s.stops.faultRecord.isSome = true →
    s.queue.courses = c :: cs → c.state = .knitting → s.pins.stopIn = false →
    ∃ t u v t' u' v', exec (.readFault .pattern .opened) s = .next t ∧ exec .stopInAssertion t = .next u ∧
      exec (.readFault .pattern (.closed .fits)) u = .next v ∧ v.patternReasons = { s.patternReasons with fault := true } ∧
      exec (.readFault .drive .opened) s = .next t' ∧ exec .stopInAssertion t' = .next u' ∧
      exec (.readFault .drive (.closed .fits)) u' = .next v' ∧ v'.driveReasons = { s.driveReasons with fault := true }) ∧
  (∀ s u : State, s.open → u.open → s.arm.outcome.isSome = true → u.reasonCounts.outcome ≠ s.reasonCounts.outcome →
    ∃ t v, exec (.readGrant .opened) s = .next t ∧
      exec (.readGrant (.closed .fits)) (u.withDrivePort t.drivePort) = .next v ∧ v.driveReasons = u.driveReasons))

/-- READ_STATUS answers OK with the status word of its port, whose bits stand as the status word table says, and on
the Drive Port clears the three reasons it showed (R177, R178, R182). It is taken while the settings store is written.
-/
def Obligations.ReadStatusReports : Prop :=
  (∀ s : State, s.phase = .running →
    exec (.readStatus .pattern (.whole .fits)) s =
      .next (s.withPatternPort ⟨.ok, none, s.patternPort.lastResult.code :: s.statusWord .pattern⟩) ∧
    exec (.readStatus .drive (.whole .fits)) s =
      .next ((s.withDriveReasons { s.driveReasons with
        grantWithdrawn := false, strokeDone := false, wakeDone := false }).withDrivePort
          ⟨.ok, none, s.drivePort.lastResult.code :: s.statusWord .drive⟩)) ∧
  (∀ (s : State) (port : Port), (s.statusWord port).length = 7 ∧
    (∀ b0 b1, (s.statusWord port)[0]? = some b0 → (s.statusWord port)[1]? = some b1 →
      (b0.getLsbD 0 = decide (s.geo.mode = .ready) ∧ b0.getLsbD 1 = s.geo.storeBusy ∧
        b0.getLsbD 2 = decide (s.supply = .waking) ∧ b0.getLsbD 3 = decide (s.supply = .on) ∧
        b0.getLsbD 4 = s.stops.latch ∧ b0.getLsbD 5 = s.pos.valid ∧ b0.getLsbD 6 = s.pos.rackKnown ∧
        b0.getLsbD 7 = false) ∧
      b1.extractLsb' 0 4 = (match s.head?.map Course.state with
        | none => 0#4 | some .queued => 1#4 | some .arming => 2#4 | some .armed => 3#4 | some .knitting => 4#4
        | some .faulted => 5#4) ∧
      b1.getLsbD 4 = s.geo.settingsBlank ∧ b1.getLsbD 5 = s.retained.lost ∧ b1.getLsbD 6 = s.load.overrun ∧
      b1.getLsbD 7 = false) ∧
    (s.statusWord port)[2]? = some ((s.head?.map Course.tag).getD 0 |>.extractLsb' 8 8) ∧
    (s.statusWord port)[3]? = some ((s.head?.map Course.tag).getD 0 |>.extractLsb' 0 8) ∧
    (s.statusWord port)[4]? = some (BitVec.ofNat 8 s.queuedCount) ∧
    (s.statusWord port)[5]? = some (BitVec.ofNat 8 s.queue.completions.length)) ∧
  (∀ s : State, ∃ b, (s.statusWord .pattern)[6]? = some b ∧
    b.getLsbD 0 = s.patternReasons.completionWaiting ∧ b.getLsbD 1 = decide (s.queuedCount < s.queue.wantLevel) ∧
    b.getLsbD 2 = s.patternReasons.headRefused ∧ b.getLsbD 3 = s.patternReasons.fault ∧
    b.getLsbD 4 = s.patternReasons.resumeValid ∧ b.getLsbD 5 = false ∧ b.getLsbD 6 = false ∧ b.getLsbD 7 = false) ∧
  (∀ s : State, ∃ b, (s.statusWord .drive)[6]? = some b ∧
    b.getLsbD 0 = s.driveReasons.grantReady ∧ b.getLsbD 1 = s.driveReasons.refusalReady ∧
    b.getLsbD 2 = s.driveReasons.grantWithdrawn ∧ b.getLsbD 3 = s.driveReasons.strokeDone ∧
    b.getLsbD 4 = s.driveReasons.fault ∧ b.getLsbD 5 = s.driveReasons.wakeDone ∧ b.getLsbD 6 = false ∧
    b.getLsbD 7 = false)

/-- A SOFT_RESET, on either port, is refused with NOT_NOW while the head course is ARMING, ARMED or KNITTING;
otherwise every block takes its SOFT_RESET value and the blocks that are kept stay (R179, R109, R119). -/
def Obligations.SoftResetValues : Prop :=
  (∀ (s : State) (p : Port), s.open → (s.headIs .arming || s.headIs .armed || s.headIs .knitting) = true →
    ∃ t, exec (.softReset p .fits) s = .next t ∧ t.sameBut s [.load, .patternPort, .drivePort] ∧
      t.port p = ⟨.notNow, none, [(s.port p).lastResult.code]⟩ ∧
      t.load = if p = .pattern then ⟨s.load.row, s.load.cell, false, s.load.overrun⟩ else s.load) ∧
  (∀ (s : State) (p : Port), s.open → (s.headIs .arming || s.headIs .armed || s.headIs .knitting) = false →
    ∃ t, exec (.softReset p .fits) s = .next t ∧
      t.port p = ⟨.ok, none, [(s.port p).lastResult.code]⟩ ∧
      t.phase = s.phase ∧ t.pins = s.pins ∧
      t.geo = { s.geo with check := 0, mode := .offline } ∧
      t.pos = { s.pos with valid := false, homing := false, racking := 0, rackKnown := false } ∧
      t.mem = ⟨s.mem.cells, []⟩ ∧ t.tech = ⟨s.tech.tables, []⟩ ∧ t.load = ⟨0, 0, false, false⟩ ∧
      (∀ i : Fin 8, t.ptrs[i] = ⟨0, 0, 511, .fixed, 1⟩) ∧
      t.queue = ⟨[], [], 0, 1279, 2⟩ ∧ t.arm = .initial ∧ t.image = .cleared ∧ t.heads = .initial ∧
      (∀ r : Rail, t.catchers[r] = false) ∧
      (∀ k : Carrier, t.carriers[k] = match s.carriers[k].status with
        | .held _ => ⟨.unknown, s.carriers[k].rail⟩
        | _ => s.carriers[k]) ∧
      t.supply = .standby ∧ t.stops = ⟨s.stops.latch, none, s.stops.resume⟩ ∧ t.retained.lost = s.retained.lost ∧
      t.patternReasons = ⟨false, false, false, s.patternReasons.resumeValid⟩ ∧
      t.driveReasons = ⟨false, false, false, false, false, false⟩ ∧ t.pending = s.pending)

/-! ## Pattern memory -/

/-- A load frame that meets no locked row and ends within the memory writes its cells, in order, from the cursor on
and into the next row, and leaves every other cell; the cursor stands after the last cell, continuation is set, the
answer is OK (R28, R29, R30, R27). WRITE_ROW sets the cursor to its row and start cell first and clears LOAD_OVERRUN.
-/
def Obligations.LoadWritesForward : Prop :=
  (∀ (s : State) (row start : BitVec 16) (data : List Byte), s.open → s.memoryOk →
    row.toNat < 512 → start.toNat < 1280 → data.length ≤ 640 →
    cellAddress row.toNat start.toNat + 2 * data.length ≤ 512 * 1280 →
    row.toNat ∉ s.mem.locks →
    (∀ r ∈ s.mem.locks, ∀ i < 2 * data.length, (cellAddress row.toNat start.toNat + i) / 1280 ≠ r) →
    ∃ m l, exec (.writeRow .fits row start data) s =
        .next (((s.withMem ⟨m, s.mem.locks⟩).withLoad l).withPatternPort
          ⟨.ok, none, s.patternPort.lastResult.code :: zeros (4 + data.length)⟩) ∧
      l.address = cellAddress row.toNat start.toNat + 2 * data.length ∧ l.cell < 1280 ∧
      l.continuation = true ∧ l.overrun = false ∧
      ∀ r < 512, ∀ j < 1280, Memory.read m r j =
        if cellAddress row.toNat start.toNat ≤ cellAddress r j ∧
            cellAddress r j < cellAddress row.toNat start.toNat + 2 * data.length
        then loadCell data (cellAddress r j - cellAddress row.toNat start.toNat)
        else Memory.read s.mem.cells r j) ∧
  (∀ (s : State) (data : List Byte), s.open → s.memoryOk → s.load.continuation = true →
    1 ≤ data.length → data.length ≤ 640 → s.load.address + 2 * data.length ≤ 512 * 1280 →
    (∀ r ∈ s.mem.locks, ∀ i < 2 * data.length, (s.load.address + i) / 1280 ≠ r) →
    ∃ m l, exec (.rowContinue .fits data) s =
        .next (((s.withMem ⟨m, s.mem.locks⟩).withLoad l).withPatternPort
          ⟨.ok, none, s.patternPort.lastResult.code :: zeros data.length⟩) ∧
      l.address = s.load.address + 2 * data.length ∧ l.cell < 1280 ∧
      l.continuation = true ∧ l.overrun = s.load.overrun ∧
      ∀ r < 512, ∀ j < 1280, Memory.read m r j =
        if s.load.address ≤ cellAddress r j ∧ cellAddress r j < s.load.address + 2 * data.length
        then loadCell data (cellAddress r j - s.load.address)
        else Memory.read s.mem.cells r j)

/-- A ROW_CONTINUE, and a WRITE_ROW that passes its checks, that reaches a locked row, or the end of the memory, after
its first `n` cells writes those `n` cells, discards the rest, leaves the cursor where it stopped and clears
continuation; the answer is IN_USE, or RANGE with LOAD_OVERRUN set; a WRITE_ROW has cleared LOAD_OVERRUN before. A
ROW_CONTINUE without continuation is answered NOT_NOW and writes nothing (R28, R30, R31, R32). A WRITE_ROW whose row
or start cell does not exist is refused with RANGE, one whose row is locked with IN_USE; no cell is written, the
cursor is kept and continuation is cleared (R28). -/
def Obligations.LoadStops : Prop :=
  ((∀ (s : State) (data : List Byte), s.open → 1 ≤ data.length → data.length ≤ 640 → s.load.continuation = false →
    exec (.rowContinue .fits data) s =
      .next (s.withPatternPort ⟨.notNow, none, s.patternPort.lastResult.code :: zeros data.length⟩)) ∧
  (∀ (s : State) (data : List Byte) (n : Nat), s.open → s.memoryOk → s.load.continuation = true →
    1 ≤ data.length → data.length ≤ 640 → n < 2 * data.length → s.load.address + n ≤ 512 * 1280 →
    ((s.load.address + n) / 1280 ∈ s.mem.locks ∨ s.load.address + n = 512 * 1280) →
    (∀ i < n, (s.load.address + i) / 1280 ∉ s.mem.locks) →
    ∃ m l r, exec (.rowContinue .fits data) s =
        .next (((s.withMem ⟨m, s.mem.locks⟩).withLoad l).withPatternPort
          ⟨r, none, s.patternPort.lastResult.code :: zeros data.length⟩) ∧
      r = (if s.load.address + n = 512 * 1280 then .range else .inUse) ∧
      l.address = s.load.address + n ∧ l.cell < 1280 ∧ l.continuation = false ∧
      l.overrun = (s.load.overrun || decide (s.load.address + n = 512 * 1280)) ∧
      ∀ r < 512, ∀ j < 1280, Memory.read m r j =
        if s.load.address ≤ cellAddress r j ∧ cellAddress r j < s.load.address + n
        then loadCell data (cellAddress r j - s.load.address)
        else Memory.read s.mem.cells r j) ∧
  (∀ (s : State) (row start : BitVec 16) (data : List Byte) (n : Nat), s.open → s.memoryOk →
    row.toNat < 512 → start.toNat < 1280 → row.toNat ∉ s.mem.locks → data.length ≤ 640 → n < 2 * data.length →
    let first := cellAddress row.toNat start.toNat
    first + n ≤ 512 * 1280 → ((first + n) / 1280 ∈ s.mem.locks ∨ first + n = 512 * 1280) →
    (∀ i < n, (first + i) / 1280 ∉ s.mem.locks) →
    ∃ m l r, exec (.writeRow .fits row start data) s =
        .next (((s.withMem ⟨m, s.mem.locks⟩).withLoad l).withPatternPort
          ⟨r, none, s.patternPort.lastResult.code :: zeros (4 + data.length)⟩) ∧
      r = (if first + n = 512 * 1280 then .range else .inUse) ∧
      l.address = first + n ∧ l.cell < 1280 ∧ l.continuation = false ∧ l.overrun = decide (first + n = 512 * 1280) ∧
      ∀ r < 512, ∀ j < 1280, Memory.read m r j =
        if first ≤ cellAddress r j ∧ cellAddress r j < first + n
        then loadCell data (cellAddress r j - first)
        else Memory.read s.mem.cells r j)) ∧
  (∀ (s : State) (row start : BitVec 16) (data : List Byte), s.open → data.length ≤ 640 →
    (512 ≤ row.toNat ∨ 1280 ≤ start.toNat →
      exec (.writeRow .fits row start data) s =
        .next (s.loadBroken.withPatternPort
          ⟨.range, none, s.patternPort.lastResult.code :: zeros (4 + data.length)⟩)) ∧
    (row.toNat < 512 → start.toNat < 1280 → row.toNat ∈ s.mem.locks →
      exec (.writeRow .fits row start data) s =
        .next (s.loadBroken.withPatternPort
          ⟨.inUse, none, s.patternPort.lastResult.code :: zeros (4 + data.length)⟩)))

/-- READ_ROW returns the smaller of the count asked for and the cells left in the row, then the cells, two to a byte,
with 0 beyond them; a row, start cell or count out of range is refused with RANGE and every reply byte is 0 (R33,
R24). -/
def Obligations.ReadRowReturnsCells : Prop :=
  (∀ (s : State) (row start count : BitVec 16), s.open → row.toNat < 512 → start.toNat < 1280 →
    1 ≤ count.toNat → count.toNat ≤ 1280 →
    ∃ body : List Byte, exec (.readRow (.whole .fits) row start count) s =
        .next (s.loadBroken.withPatternPort ⟨.ok, none, s.patternPort.lastResult.code :: (zeros 6 ++ body)⟩) ∧
      body.length = 2 + (count.toNat + 1) / 2 ∧
      body.take 2 = [BitVec.ofNat 8 (min count.toNat (1280 - start.toNat) / 256),
        BitVec.ofNat 8 (min count.toNat (1280 - start.toNat))] ∧
      ∀ i < 2 * ((count.toNat + 1) / 2), (unpackCells (body.drop 2))[i]? =
        some (if i < min count.toNat (1280 - start.toNat) then Memory.read s.mem.cells row.toNat (start.toNat + i)
          else 0)) ∧
  (∀ (s : State) (row start count : BitVec 16), s.open →
    512 ≤ row.toNat ∨ 1280 ≤ start.toNat ∨ count.toNat = 0 ∨ 1280 < count.toNat →
    exec (.readRow (.whole .fits) row start count) s =
      .next (s.loadBroken.withPatternPort ⟨.range, none, s.patternPort.lastResult.code ::
        zeros (6 + 2 + if 1 ≤ count.toNat ∧ count.toNat ≤ 1280 then (count.toNat + 1) / 2 else 0)⟩))

/-- TEST_CELL replies with the colour of the cell; a row or a cell that does not exist is refused with RANGE and the
reply byte reads 0. Locked or not, and no cell changes (R34). -/
def Obligations.TestCellReads : Prop :=
  ∀ (s : State) (row cell : BitVec 16), s.open →
    (row.toNat < 512 → cell.toNat < 1280 → exec (.testCell (.whole .fits) row cell) s =
      .next (s.loadBroken.withPatternPort ⟨.ok, none, s.patternPort.lastResult.code ::
        (zeros 4 ++ [(Memory.read s.mem.cells row.toNat cell.toNat).setWidth 8])⟩)) ∧
    (512 ≤ row.toNat ∨ 1280 ≤ cell.toNat → exec (.testCell (.whole .fits) row cell) s =
      .next (s.loadBroken.withPatternPort ⟨.range, none, s.patternPort.lastResult.code :: (zeros 4 ++ [0])⟩))

/-- EXCHANGE_CELL and CONDITIONAL_EXCHANGE_CELL reply with the former colour and write the new one, the second only
where the former colour is the expected one; every other cell keeps its colour. A value out of range is refused with
RANGE and then a locked row with IN_USE, with replies of 0 and no cell changed (R35, R36). -/
def Obligations.ExchangeCells : Prop :=
  ∀ (s : State) (row cell : BitVec 16), s.open → s.memoryOk →
    (∀ colour : Byte, row.toNat < 512 → cell.toNat < 1280 → colour.toNat < 16 → row.toNat ∉ s.mem.locks →
      ∃ m, exec (.exchangeCell (.whole .fits) row cell colour) s =
          .next ((s.loadBroken.withMem ⟨m, s.mem.locks⟩).withPatternPort ⟨.ok, none, s.patternPort.lastResult.code ::
            (zeros 5 ++ [(Memory.read s.mem.cells row.toNat cell.toNat).setWidth 8])⟩) ∧
        ∀ r < 512, ∀ j < 1280, Memory.read m r j =
          if r = row.toNat ∧ j = cell.toNat then colour.setWidth 4 else Memory.read s.mem.cells r j) ∧
    (∀ expected new : Byte, row.toNat < 512 → cell.toNat < 1280 → expected.toNat < 16 → new.toNat < 16 →
      row.toNat ∉ s.mem.locks →
      ∃ m, exec (.conditionalExchangeCell (.whole .fits) row cell expected new) s =
          .next ((s.loadBroken.withMem ⟨m, s.mem.locks⟩).withPatternPort ⟨.ok, none, s.patternPort.lastResult.code ::
            (zeros 6 ++ [(Memory.read s.mem.cells row.toNat cell.toNat).setWidth 8,
              if Memory.read s.mem.cells row.toNat cell.toNat = expected.setWidth 4 then 1 else 0])⟩) ∧
        ∀ r < 512, ∀ j < 1280, Memory.read m r j =
          if r = row.toNat ∧ j = cell.toNat ∧ Memory.read s.mem.cells r j = expected.setWidth 4 then new.setWidth 4
          else Memory.read s.mem.cells r j) ∧
    (∀ colour : Byte, 512 ≤ row.toNat ∨ 1280 ≤ cell.toNat ∨ 16 ≤ colour.toNat →
      exec (.exchangeCell (.whole .fits) row cell colour) s =
        .next (s.loadBroken.withPatternPort ⟨.range, none, s.patternPort.lastResult.code :: (zeros 5 ++ [0])⟩)) ∧
    (∀ colour : Byte, row.toNat < 512 → cell.toNat < 1280 → colour.toNat < 16 → row.toNat ∈ s.mem.locks →
      exec (.exchangeCell (.whole .fits) row cell colour) s =
        .next (s.loadBroken.withPatternPort ⟨.inUse, none, s.patternPort.lastResult.code :: (zeros 5 ++ [0])⟩)) ∧
    (∀ expected new : Byte, 512 ≤ row.toNat ∨ 1280 ≤ cell.toNat ∨ 16 ≤ expected.toNat ∨ 16 ≤ new.toNat →
      exec (.conditionalExchangeCell (.whole .fits) row cell expected new) s =
        .next (s.loadBroken.withPatternPort ⟨.range, none, s.patternPort.lastResult.code :: (zeros 6 ++ [0, 0])⟩)) ∧
    (∀ expected new : Byte, row.toNat < 512 → cell.toNat < 1280 → expected.toNat < 16 → new.toNat < 16 →
      row.toNat ∈ s.mem.locks →
      exec (.conditionalExchangeCell (.whole .fits) row cell expected new) s =
        .next (s.loadBroken.withPatternPort ⟨.inUse, none, s.patternPort.lastResult.code :: (zeros 6 ++ [0, 0])⟩))

/-- SCAN_ROW over a range that is not empty after clamping finds the least matching cell forward and the greatest in
reverse, and answers OK also where it finds none; an empty range is answered EMPTY, a row out of range RANGE (R37,
R38). -/
def Obligations.ScanRowFinds : Prop :=
  (∀ (s : State) (row a b set : BitVec 16) (direction : Byte), s.open → row.toNat < 512 →
    (clamp 0 1279 a.toInt).toNat ≤ (clamp 0 1279 b.toInt).toNat →
    ∃ found : Option Nat, exec (.scanRow (.whole .fits) row a b set direction) s =
        .next (s.loadBroken.withPatternPort ⟨.ok, none, s.patternPort.lastResult.code :: (zeros 9 ++
          match found with
          | some j => [1, BitVec.ofNat 8 (j / 256), BitVec.ofNat 8 j]
          | none => [0, 0, 0])⟩) ∧
      (∀ j, found = some j →
        set.getLsbD (Memory.read s.mem.cells row.toNat j).toNat = true ∧
        (clamp 0 1279 a.toInt).toNat ≤ j ∧ j ≤ (clamp 0 1279 b.toInt).toNat ∧
        ∀ i, (clamp 0 1279 a.toInt).toNat ≤ i → i ≤ (clamp 0 1279 b.toInt).toNat →
          (if direction = 0 then i < j else j < i) →
          set.getLsbD (Memory.read s.mem.cells row.toNat i).toNat = false) ∧
      (found = none → ∀ i, (clamp 0 1279 a.toInt).toNat ≤ i → i ≤ (clamp 0 1279 b.toInt).toNat →
        set.getLsbD (Memory.read s.mem.cells row.toNat i).toNat = false)) ∧
  (∀ (s : State) (row a b set : BitVec 16) (direction : Byte), s.open → row.toNat < 512 →
    (clamp 0 1279 b.toInt).toNat < (clamp 0 1279 a.toInt).toNat →
    exec (.scanRow (.whole .fits) row a b set direction) s =
      .next (s.loadBroken.withPatternPort ⟨.empty, none, s.patternPort.lastResult.code :: zeros 12⟩)) ∧
  (∀ (s : State) (row a b set : BitVec 16) (direction : Byte), s.open → 512 ≤ row.toNat →
    exec (.scanRow (.whole .fits) row a b set direction) s =
      .next (s.loadBroken.withPatternPort ⟨.range, none, s.patternPort.lastResult.code :: zeros 12⟩))

/-- No command but a power-on, a loss of power or a RESET changes a cell of a locked row, or an entry of a locked
table (R26, R50, R103). -/
def Obligations.LockedRowsAndTablesKeep : Prop :=
  ∀ (c : Instr) (s t : State), s.memoryOk → c.isPower = false → exec c s = .next t →
    (∀ r ∈ s.mem.locks, ∀ j < 1280, Memory.read t.mem.cells r j = Memory.read s.mem.cells r j) ∧
    ∀ b ∈ s.tech.locks, ∀ k : Colour, t.tech.entry b k = s.tech.entry b k

/-! ## Technique tables and row pointers -/

/-- WRITE_TECHNIQUE writes the one whole entry, and no other; a code out of range is refused with RANGE, a locked
table with IN_USE. READ_TECHNIQUE replies with the entry's three codes, and with zeros and RANGE out of range (R47,
R48). -/
def Obligations.TechniquesReadBack : Prop :=
  (∀ (s : State) (table colour : Byte) (f b : Action) (p : Parity) (i : Fin 8), s.open → table.toNat = i.val →
    colour.toNat < 16 → i ∉ s.tech.locks →
    ∃ m, exec (.writeTechnique .fits table colour f.code b.code p.code) s =
        .next ((s.loadBroken.withTech m).withPatternPort ⟨.ok, none, s.patternPort.lastResult.code :: zeros 5⟩) ∧
      m.locks = s.tech.locks ∧
      ∀ (j : Fin 8) (c : Colour), m.entry j c =
        if j = i ∧ c = colour.setWidth 4 then ⟨f, b, p⟩ else s.tech.entry j c) ∧
  (∀ (s : State) (table colour front back parity : Byte), s.open →
    8 ≤ table.toNat ∨ 16 ≤ colour.toNat ∨ 5 ≤ front.toNat ∨ 5 ≤ back.toNat ∨ 3 ≤ parity.toNat →
    exec (.writeTechnique .fits table colour front back parity) s =
      .next (s.loadBroken.withPatternPort ⟨.range, none, s.patternPort.lastResult.code :: zeros 5⟩)) ∧
  (∀ (s : State) (table colour front back parity : Byte) (i : Fin 8), s.open → table.toNat = i.val →
    colour.toNat < 16 → front.toNat < 5 → back.toNat < 5 → parity.toNat < 3 → i ∈ s.tech.locks →
    exec (.writeTechnique .fits table colour front back parity) s =
      .next (s.loadBroken.withPatternPort ⟨.inUse, none, s.patternPort.lastResult.code :: zeros 5⟩)) ∧
  (∀ (s : State) (table colour : Byte) (i : Fin 8), s.open → table.toNat = i.val → colour.toNat < 16 →
    exec (.readTechnique (.whole .fits) table colour) s =
      .next (s.loadBroken.withPatternPort ⟨.ok, none, s.patternPort.lastResult.code :: (zeros 2 ++
        [(s.tech.entry i (colour.setWidth 4)).front.code, (s.tech.entry i (colour.setWidth 4)).back.code,
          (s.tech.entry i (colour.setWidth 4)).parity.code])⟩)) ∧
  (∀ (s : State) (table colour : Byte), s.open → 8 ≤ table.toNat ∨ 16 ≤ colour.toNat →
    exec (.readTechnique (.whole .fits) table colour) s =
      .next (s.loadBroken.withPatternPort ⟨.range, none, s.patternPort.lastResult.code :: zeros 5⟩))

/-- SET_POINTER writes the five fields of one pointer together if they satisfy every bound, and otherwise answers
RANGE and changes none; READ_POINTER replies with the five fields (R53, R55). An advance by UP or DOWN moves the
current row by the step, wrapping in the band; FIXED keeps it; the band, the mode and the step stay; and a pointer in
its band stays in it (R56, R52). -/
def Obligations.PointersSetReadAndAdvance : Prop :=
  ((∀ (s : State) (pointer step : Byte) (current low high : BitVec 16) (m : PointerMode) (i : Fin 8), s.open →
    pointer.toNat = i.val → low.toNat ≤ current.toNat → current.toNat ≤ high.toNat → high.toNat < 512 →
    1 ≤ step.toNat → step.toNat ≤ 15 →
    ∃ v : Vector Pointer 8, exec (.setPointer .fits pointer current low high m.code step) s =
        .next ((s.loadBroken.withPtrs v).withPatternPort ⟨.ok, none, s.patternPort.lastResult.code :: zeros 9⟩) ∧
      ∀ j : Fin 8, v[j] = if j = i then ⟨current.toNat, low.toNat, high.toNat, m, step.toNat⟩ else s.ptrs[j]) ∧
  (∀ (s : State) (pointer mode step : Byte) (current low high : BitVec 16), s.open →
    8 ≤ pointer.toNat ∨ 512 ≤ low.toNat ∨ 512 ≤ high.toNat ∨ current.toNat < low.toNat ∨ high.toNat < current.toNat ∨
      3 ≤ mode.toNat ∨ step.toNat = 0 ∨ 15 < step.toNat →
    exec (.setPointer .fits pointer current low high mode step) s =
      .next (s.loadBroken.withPatternPort ⟨.range, none, s.patternPort.lastResult.code :: zeros 9⟩)) ∧
  (∀ (s : State) (pointer : Byte) (i : Fin 8), s.open → pointer.toNat = i.val →
    ∃ body, body.length = 8 ∧ s.ptrs[i].laidOut body 0 ∧ exec (.readPointer (.whole .fits) pointer) s =
      .next (s.loadBroken.withPatternPort ⟨.ok, none, s.patternPort.lastResult.code :: (zeros 1 ++ body)⟩)) ∧
  (∀ (s : State) (pointer : Byte), s.open → 8 ≤ pointer.toNat →
    exec (.readPointer (.whole .fits) pointer) s =
      .next (s.loadBroken.withPatternPort ⟨.range, none, s.patternPort.lastResult.code :: zeros 9⟩))) ∧
  (∀ p : Pointer, p.inBand →
    p.advance.low = p.low ∧ p.advance.high = p.high ∧ p.advance.mode = p.mode ∧ p.advance.step = p.step ∧
    (p.mode = .up → (p.advance.current : Int) =
      p.low + ((p.current : Int) - p.low + p.step) % ((p.high : Int) - p.low + 1)) ∧
    (p.mode = .down → (p.advance.current : Int) =
      p.low + ((p.current : Int) - p.low - p.step) % ((p.high : Int) - p.low + 1)) ∧
    (p.mode = .fixed → p.advance.current = p.current) ∧
    p.advance.inBand)

/-! ## Geometry, settings and the reads of records -/

/-- In OFFLINE a SET_GEOMETRY_FIELD with an index and a value in their ranges gives that field the value and leaves
every other field, and READ_GEOMETRY_FIELD's value of it is the value written; a carrier that gets another rail, or
that falls above a lowered CARRIERS, becomes UNKNOWN, every other carrier stays. An unknown field, an index or a value
out of range is refused with RANGE, and in READY the command is refused with NOT_NOW (R2, R4, R110).
READ_GEOMETRY_FIELD, on either port, replies with the field's present value in four signed bytes; an unknown field and
an index out of range are refused with RANGE and the reply bytes read 0 (log 9) (R3, R181). -/
def Obligations.GeometryFields : Prop :=
  ((∀ (s : State) (field index : Byte) (value : BitVec 32) (f : GeometryField), s.open → s.geo.mode = .offline →
    GeometryField.ofCode field = some f → f.hasIndex index.toNat → f.hasValue value.toInt →
    ∃ (t : State) (g : Geometry), exec (.setGeometryField .fits field index value) s = .next t ∧
      t.geo = { s.geo with record := g } ∧
      (∀ (f' : GeometryField) (i : Nat), t.geo.fieldValue f' i =
        if f' = f ∧ i = index.toNat then some value.toInt else s.geo.fieldValue f' i) ∧
      (∀ k : Carrier, t.carriers[k] =
        if (f = .carrierRail ∧ index.toNat = k.val + 1 ∧ value.toInt ≠ (s.geo.record.carrierRail[k].val : Int) + 1) ∨
            (f = .carriers ∧ value.toInt < s.geo.record.carriers ∧ value.toInt ≤ k.val)
        then ⟨.unknown, s.carriers[k].rail⟩ else s.carriers[k]) ∧
      t.drivePort = ⟨.ok, none, s.drivePort.lastResult.code :: zeros 6⟩ ∧
      t.sameBut s [.geo, .carriers, .retained, .drivePort] ∧
      ∃ l, t.retained = { s.retained with writes := s.retained.writes ++ l }) ∧
  (∀ (s : State) (field index : Byte) (value : BitVec 32), s.open → s.geo.mode = .offline →
    (∀ f, GeometryField.ofCode field = some f → f.hasIndex index.toNat → ¬ f.hasValue value.toInt) →
    exec (.setGeometryField .fits field index value) s =
      .next (s.withDrivePort ⟨.range, none, s.drivePort.lastResult.code :: zeros 6⟩)) ∧
  (∀ (s : State) (field index : Byte) (value : BitVec 32), s.open → s.geo.mode = .ready →
    exec (.setGeometryField .fits field index value) s =
      .next (s.withDrivePort ⟨.notNow, none, s.drivePort.lastResult.code :: zeros 6⟩))) ∧
  (∀ (s : State) (port : Port) (field index : Byte), s.open → s.rangesOk → s.geo.check ≤ 5 →
    (∀ f, GeometryField.ofCode field = some f → f.hasIndex index.toNat →
      ∃ (v : Int) (b0 b1 b2 b3 : Byte), s.geo.fieldValue f index.toNat = some v ∧ (b0 ++ b1 ++ b2 ++ b3).toInt = v ∧
        exec (.readGeometryField port (.whole .fits) field index) s =
          .next ((s.breakLoad (decide (port = .pattern))).withPort port
            ⟨.ok, none, (s.port port).lastResult.code :: [0, 0, b0, b1, b2, b3]⟩)) ∧
    ((∀ f, GeometryField.ofCode field = some f → ¬ f.hasIndex index.toNat) →
      exec (.readGeometryField port (.whole .fits) field index) s =
        .next ((s.breakLoad (decide (port = .pattern))).withPort port
          ⟨.range, none, (s.port port).lastResult.code :: zeros 6⟩)))

/-- GO_ONLINE in OFFLINE runs the five cross checks in order: where all hold the part is READY, GEOMETRY_CHECK is 0
and a carrier PARKED outside -32..N+31 becomes UNKNOWN; otherwise GEOMETRY_CHECK is the number of the first that fails
and the answer is GEOMETRY. In READY nothing changes. GO_OFFLINE makes the part OFFLINE unless the head course is past
QUEUED (R5, R6, R7). STORE_SETTINGS is refused with NOT_NOW in READY; in OFFLINE it sets STORE_BUSY. At
STORE_WRITE_COMPLETE the store holds the working record with a good check word, STORE_BUSY and SETTINGS_BLANK clear;
without a write in progress that event changes nothing (log 6) (R8, R10). -/
def Obligations.OnlineAndSettings : Prop :=
  ((∀ (s : State) (n : Nat), s.open → s.geo.mode = .offline →
    (let g := s.geo.record
     n = (if ¬ ((g.bedOrigin : Int) + (g.bedNeedles - 1) * g.cpn ≤ 1048575) then 1
       else if ¬ 2 * g.cpn ≤ g.margin then 2 else if ¬ g.backlash < g.cpn then 3
       else if ¬ g.travelLo < g.travelHi then 4 else if ∃ k : Carrier, g.rails < g.carrierRail[k].val + 1 then 5 else 0)) →
    (n ≠ 0 → exec (.goOnline .fits) s = .next ((s.withGeo { s.geo with check := n }).withDrivePort
      ⟨.geometry, none, [s.drivePort.lastResult.code]⟩)) ∧
    (n = 0 → ∃ t, exec (.goOnline .fits) s = .next t ∧ t.geo = { s.geo with check := 0, mode := .ready } ∧
      (∀ k : Carrier, t.carriers[k] = match s.carriers[k].status with
        | .parked p => if p < -32 ∨ (s.geo.record.bedNeedles : Int) + 31 < p then ⟨.unknown, s.carriers[k].rail⟩
          else s.carriers[k]
        | _ => s.carriers[k]) ∧
      t.drivePort = ⟨.ok, none, [s.drivePort.lastResult.code]⟩ ∧
      t.sameBut s [.geo, .carriers, .retained, .drivePort] ∧
      ∃ l, t.retained = { s.retained with writes := s.retained.writes ++ l })) ∧
  (∀ s : State, s.open → s.geo.mode = .ready →
    exec (.goOnline .fits) s = .next (s.withDrivePort ⟨.ok, none, [s.drivePort.lastResult.code]⟩)) ∧
  (∀ s : State, s.open → exec (.goOffline .fits) s =
    if s.pastQueued = true then .next (s.withDrivePort ⟨.notNow, none, [s.drivePort.lastResult.code]⟩)
    else .next ((s.withGeo { s.geo with mode := .offline }).withDrivePort
      ⟨.ok, none, [s.drivePort.lastResult.code]⟩))) ∧
  ((∀ s : State, s.open → exec (.storeSettings .fits) s =
    match s.geo.mode with
    | .ready => .next (s.withDrivePort ⟨.notNow, none, [s.drivePort.lastResult.code]⟩)
    | .offline => .next ((s.withGeo { s.geo with storeBusy := true }).withDrivePort
        ⟨.ok, none, [s.drivePort.lastResult.code]⟩)) ∧
  (∀ s : State, s.geo.storeBusy = true → exec .storeWriteComplete s =
    .next (s.withGeo ⟨s.geo.record, s.geo.check, s.geo.mode, false, false, ⟨s.geo.record, true⟩⟩)) ∧
  (∀ s : State, s.geo.storeBusy = false → exec .storeWriteComplete s = .next s))

/-- READ_HEAD_COURSE, READ_CARRIER and READ_RESUME_RECORD reply with the bytes that R182 lays out, written apart from
the model's encoders, with OK, or with zeros and EMPTY or RANGE, and change nothing but the load cursor's continuation
flag (R80, R113, R171, R181, R182). READ_FAULT on a port replies with the 26 bytes of the fault record and clears
FAULT of that port alone; with the record absent it is answered EMPTY and the reply reads all zero (R164, R182).
READ_GRANT replies with the outcome record of the last arming and clears the attention reason of the record it
returned; with none it is answered EMPTY and the reply reads all zero (R139, R182). -/
def Obligations.RecordReads : Prop :=
  (∀ s : State, s.open →
    (∀ c cs, s.queue.courses = c :: cs → ∃ body, c.laidOut body ∧ exec (.readHeadCourse (.whole .fits)) s =
      .next (s.loadBroken.withPatternPort ⟨.ok, none, s.patternPort.lastResult.code :: body⟩)) ∧
    (s.queue.courses = [] → exec (.readHeadCourse (.whole .fits)) s =
      .next (s.loadBroken.withPatternPort ⟨.empty, none, s.patternPort.lastResult.code :: zeros 25⟩)) ∧
    (∀ (carrier : Byte) (k : Carrier), carrier.toNat = k.val + 1 → ∃ body, s.carrierLaidOut k body ∧
      exec (.readCarrier (.whole .fits) carrier) s =
        .next (s.loadBroken.withPatternPort ⟨.ok, none, s.patternPort.lastResult.code :: 0 :: body⟩)) ∧
    (∀ carrier : Byte, carrier.toNat = 0 ∨ 16 < carrier.toNat → exec (.readCarrier (.whole .fits) carrier) s =
      .next (s.loadBroken.withPatternPort ⟨.range, none, s.patternPort.lastResult.code :: zeros 8⟩)) ∧
    (∀ r, s.stops.resume = some r → ∃ body, r.laidOut body ∧ exec (.readResumeRecord (.whole .fits)) s =
      .next (s.loadBroken.withPatternPort ⟨.ok, none, s.patternPort.lastResult.code :: body⟩)) ∧
    (s.stops.resume = none → exec (.readResumeRecord (.whole .fits)) s =
      .next (s.loadBroken.withPatternPort ⟨.empty, none, s.patternPort.lastResult.code :: zeros 106⟩))) ∧
  (∀ s : State, s.open →
    (∀ r, s.stops.faultRecord = some r → ∃ body, r.laidOut body ∧
      exec (.readFault .pattern (.whole .fits)) s =
        .next ((s.loadBroken.withPatternReasons { s.patternReasons with fault := false }).withPatternPort
          ⟨.ok, none, s.patternPort.lastResult.code :: body⟩) ∧
      exec (.readFault .drive (.whole .fits)) s =
        .next ((s.withDriveReasons { s.driveReasons with fault := false }).withDrivePort
          ⟨.ok, none, s.drivePort.lastResult.code :: body⟩)) ∧
    (s.stops.faultRecord = none →
      exec (.readFault .pattern (.whole .fits)) s =
        .next (s.loadBroken.withPatternPort ⟨.empty, none, s.patternPort.lastResult.code :: zeros 26⟩) ∧
      exec (.readFault .drive (.whole .fits)) s =
        .next (s.withDrivePort ⟨.empty, none, s.drivePort.lastResult.code :: zeros 26⟩))) ∧
  (∀ s : State, s.open →
    (s.arm.outcome = none → exec (.readGrant (.whole .fits)) s =
      .next (s.withDrivePort ⟨.empty, none, s.drivePort.lastResult.code :: zeros 32⟩)) ∧
    (∀ g, s.arm.outcome = some (.grant g) → ∃ body, g.laidOut body ∧ exec (.readGrant (.whole .fits)) s =
      .next ((s.withDriveReasons { s.driveReasons with grantReady := false }).withDrivePort
        ⟨.ok, none, s.drivePort.lastResult.code :: 1 :: body⟩)) ∧
    (∀ r, s.arm.outcome = some (.refusal r) → ∃ body, r.laidOut body ∧ exec (.readGrant (.whole .fits)) s =
      .next ((s.withDriveReasons { s.driveReasons with refusalReady := false }).withDrivePort
        ⟨.ok, none, s.drivePort.lastResult.code :: 2 :: body⟩)))

/-- READ_POSITION returns P, P_VALID, the homing-armed flag and the racking, and answers OK, in every state of the
part that takes frames and also while the settings store is written; it changes nothing (R19, R9). -/
def Obligations.PositionReads : Prop :=
  ∀ s : State, s.phase = .running → exec (.readPosition (.whole .fits)) s =
    .next (s.withDrivePort ⟨.ok, none, s.drivePort.lastResult.code ::
      [BitVec.ofNat 8 (s.pos.count / 65536), BitVec.ofNat 8 (s.pos.count / 256), BitVec.ofNat 8 s.pos.count,
        (if s.pos.valid then 1 else 0) + (if s.pos.homing then 2 else 0), BitVec.ofInt 8 s.pos.racking]⟩)

/-! ## The course queue -/

/-- A COMMIT_COURSE whose record passes every check takes a free slot: the course joins the tail, QUEUED, with the
fields of the frame, and HEAD_REFUSED clears; with all sixteen slots in use it is refused with FULL, and a record that
fails a check with RANGE, with no other effect (R63, R64, R65, R66). -/
def Obligations.CommitCourse : Prop :=
  ∀ (s : State) (f : CourseFrame), s.open → s.rangesOk →
    (CourseFrame.inRange f s.geo.record → s.slotsInUse < 16 → ∃ c : Course, c.takenFrom f ∧ exec (.commitCourse .fits f) s =
      .next (((s.loadBroken.withQueue { s.queue with courses := s.queue.courses ++ [c] }).withPatternReasons
        { s.patternReasons with headRefused := false }).withPatternPort
          ⟨.ok, none, s.patternPort.lastResult.code :: zeros (12 + 24 * f.entries.length)⟩)) ∧
    (CourseFrame.inRange f s.geo.record → 16 ≤ s.slotsInUse → exec (.commitCourse .fits f) s =
      .next (s.loadBroken.withPatternPort
        ⟨.full, none, s.patternPort.lastResult.code :: zeros (12 + 24 * f.entries.length)⟩)) ∧
    (¬ CourseFrame.inRange f s.geo.record → exec (.commitCourse .fits f) s =
      .next (s.loadBroken.withPatternPort
        ⟨.range, none, s.patternPort.lastResult.code :: zeros (12 + 24 * f.entries.length)⟩))

/-- DISCARD_HEAD and ABANDON_STROKE by the state of the head course, where it is not FAULTED: a QUEUED head is
removed, an ARMING or ARMED head returns to QUEUED with its resolved rows, its locks released and its image cleared;
otherwise nothing changes (R70, R71, R75, R77, R83, R140, R141). -/
def Obligations.HeadDiscardedOrAbandoned : Prop :=
  ∀ s : State, s.open →
    (s.queue.courses = [] →
      exec (.discardHead .fits) s = .next (s.loadBroken.withPatternPort
        ⟨.empty, none, [s.patternPort.lastResult.code]⟩) ∧
      exec (.abandonStroke .fits) s = .next (s.withDrivePort ⟨.empty, none, [s.drivePort.lastResult.code]⟩)) ∧
    (∀ c cs, s.queue.courses = c :: cs →
      (c.state = .queued →
        exec (.discardHead .fits) s = .next (((s.loadBroken.withQueue { s.queue with courses := cs }).withPatternReasons
          { s.patternReasons with headRefused := false }).withPatternPort ⟨.ok, none, [s.patternPort.lastResult.code]⟩)) ∧
      (c.state = .arming ∨ c.state = .armed ∨ c.state = .knitting →
        exec (.discardHead .fits) s = .next (s.loadBroken.withPatternPort
          ⟨.notNow, none, [s.patternPort.lastResult.code]⟩)) ∧
      (c.state = .queued ∨ c.state = .knitting →
        exec (.abandonStroke .fits) s = .next (s.withDrivePort ⟨.notNow, none, [s.drivePort.lastResult.code]⟩)) ∧
      (c.state = .arming ∨ c.state = .armed → ∃ t, exec (.abandonStroke .fits) s = .next t ∧
        t.queue = { s.queue with courses := { c with state := .queued } :: cs } ∧
        t.mem = ⟨s.mem.cells, []⟩ ∧ t.tech = ⟨s.tech.tables, []⟩ ∧ t.image = .cleared ∧
        t.arm = { s.arm with stage := none } ∧
        t.driveReasons = { s.driveReasons with
          grantReady := s.driveReasons.grantReady && decide (c.state = .arming) } ∧
        t.drivePort = ⟨.ok, none, [s.drivePort.lastResult.code]⟩ ∧
        t.sameBut s [.queue, .mem, .tech, .image, .arm, .driveReasons, .drivePort]))

/-- A FAULTED head course is discarded by DISCARD_HEAD and by ABANDON_STROKE alike: it leaves the queue, its
completion record with the outcome DISCARDED, its last fault reason, and its rows, grant summary and carriers parked,
joins the completion list; its HELD carriers become UNKNOWN, their catchers rise, its locks, image and stroke record
go; COMPLETION_WAITING is set. DISCARD_HEAD clears HEAD_REFUSED (R72, R73, R75, R77, R83, R87, R123, R147, R168). -/
def Obligations.FaultedHeadIsDiscarded : Prop :=
  ∀ (s : State) (c : Course) (cs : List Course) (g : GrantSummary), s.open → s.queue.courses = c :: cs →
    c.state = .faulted → c.grant = some g →
    ∃ t u, exec (.discardHead .fits) s = .next t ∧ exec (.abandonStroke .fits) s = .next u ∧
      t.patternPort = ⟨.ok, none, [s.patternPort.lastResult.code]⟩ ∧ t.drivePort = s.drivePort ∧
      u.drivePort = ⟨.ok, none, [s.drivePort.lastResult.code]⟩ ∧ u.patternPort = s.patternPort ∧
      t.load = { s.load with continuation := false } ∧ u.load = s.load ∧
      t.patternReasons = { s.patternReasons with completionWaiting := true, headRefused := false } ∧
      u.patternReasons = { s.patternReasons with completionWaiting := true } ∧
      t.sameBut u [.patternPort, .drivePort, .load, .patternReasons] ∧
      u.queue = { s.queue with
        courses := cs
        completions := s.queue.completions ++
          [⟨c.tag, .discarded, c.lastFault, c.resolved, g.left, g.right, g.speed, c.parked⟩] } ∧
      (∀ k : Carrier, u.carriers[k] = match s.carriers[k].status with
        | .held _ => ⟨.unknown, s.carriers[k].rail⟩
        | _ => s.carriers[k]) ∧
      (∀ r : Rail, u.catchers[r] = true ↔
        s.catchers[r] = true ∧ ∀ k : Carrier, s.railOf k = r → s.carriers[k].isHeld = false) ∧
      u.mem = ⟨s.mem.cells, []⟩ ∧ u.tech = ⟨s.tech.tables, []⟩ ∧ u.image = .cleared ∧
      u.heads = { s.heads with stroke := none } ∧
      (∃ l, u.retained = { s.retained with writes := s.retained.writes ++ l }) ∧
      u.sameBut s [.queue, .carriers, .catchers, .mem, .tech, .image, .heads, .retained, .patternReasons, .patternPort,
        .drivePort, .load]

/-- FETCH_COMPLETION replies with the 29 bytes of the oldest record and removes it; COMPLETION_WAITING clears with the
last one. A frame that does not fit removes nothing, and with the list empty the answer is EMPTY and the reply all
zero (R78, R79, R182). -/
def Obligations.FetchCompletion : Prop :=
  ∀ s : State, s.open →
    (∀ r rs, s.queue.completions = r :: rs → ∃ body, r.laidOut body ∧ exec (.fetchCompletion (.whole .fits)) s =
      .next (((s.loadBroken.withQueue { s.queue with completions := rs }).withPatternReasons
        { s.patternReasons with completionWaiting := s.patternReasons.completionWaiting && !rs.isEmpty }).withPatternPort
          ⟨.ok, none, s.patternPort.lastResult.code :: body⟩)) ∧
    (s.queue.completions = [] → exec (.fetchCompletion (.whole .fits)) s =
      .next (s.loadBroken.withPatternPort ⟨.empty, none, s.patternPort.lastResult.code :: zeros 29⟩)) ∧
    (∀ n bits, ∃ out, exec (.fetchCompletion (.whole (.misfit n bits))) s =
      .next (s.withPatternPort ⟨.frame, none, s.patternPort.lastResult.code :: out⟩)) ∧
    (∀ r rs, s.queue.completions = r :: rs → ∃ t u body, exec (.fetchCompletion .opened) s = .next t ∧
      t.queue = s.queue ∧ exec (.fetchCompletion (.closed .fits)) t = .next u ∧ r.laidOut body ∧
      u.queue = { s.queue with completions := rs } ∧ u.patternPort.out = s.patternPort.lastResult.code :: body)

/-- SET_ZONE stores any pair of bounds, SET_WANT_LEVEL the level clamped to 0..15, SET_SPEED_CAP the class clamped to
1..8; each answers OK and changes nothing else (R67, R81, R133). The attention line PATN is asserted for COURSES_LOW
exactly while fewer courses are QUEUED than the want level, and for each other reason while it is pending; DATN
likewise; both are released outside normal running. STOP_OUT is asserted exactly when the stop latch is set, AEN while
the supply is ON. A head's lines 0, 1 and 2 carry bits 0, 1 and 2 of the code of its action, all 0 at rest; CATCH of a
rail is high exactly while its catcher is lowered (R82, R119, R144, R152, R159, R178, R180, R181, "Pins and electrical
notes"). -/
def Obligations.ClampedSettingsAndOutputLines : Prop :=
  (∀ s : State, s.open →
    (∀ left right : BitVec 16, exec (.setZone .fits left right) s =
      .next ((s.loadBroken.withQueue { s.queue with zoneLeft := left.toInt, zoneRight := right.toInt }).withPatternPort
        ⟨.ok, none, s.patternPort.lastResult.code :: zeros 4⟩)) ∧
    (∀ level : Byte, exec (.setWantLevel .fits level) s =
      .next ((s.loadBroken.withQueue { s.queue with wantLevel := if 15 < level.toNat then 15 else level.toNat }).withPatternPort
        ⟨.ok, none, s.patternPort.lastResult.code :: zeros 1⟩)) ∧
    (∀ speed : Byte, exec (.setSpeedCap .fits speed) s =
      .next ((s.withArm { s.arm with driveCap := max 1 (min 8 speed.toNat) }).withDrivePort
        ⟨.ok, none, s.drivePort.lastResult.code :: zeros 1⟩))) ∧
  (∀ s : State,
    (s.patn = true ↔ s.phase = .running ∧ (s.patternReasons.completionWaiting = true ∨
      s.queuedCount < s.queue.wantLevel ∨ s.patternReasons.headRefused = true ∨ s.patternReasons.fault = true ∨
      s.patternReasons.resumeValid = true)) ∧
    (s.datn = true ↔ s.phase = .running ∧ (s.driveReasons.grantReady = true ∨ s.driveReasons.refusalReady = true ∨
      s.driveReasons.grantWithdrawn = true ∨ s.driveReasons.strokeDone = true ∨ s.driveReasons.fault = true ∨
      s.driveReasons.wakeDone = true)) ∧
    s.stopOut = s.stops.latch ∧ (s.aen = true ↔ s.supply = .on) ∧
    (∀ h : Head, s.headLines h = s.heads.lines[h].pins) ∧ (∀ r : Rail, s.catchLine r = true ↔ s.catchers[r] = true))

/-! ## Carriers and retained memory -/

/-- SET_CARRIER parks a carrier in use at the clamped position, recording its rail, where its rail is not locked and
no other carrier PARKED on it has the position; it is refused with RANGE, IN_USE and RANGE in that order otherwise. A
SET_CARRIER_LIMIT stores the class clamped to 1..8, and is refused with RANGE for a number outside 1..16 and with
IN_USE for a locked carrier. That an entry left as it was queues no retained write is the model's reading of R107
(DEDUCED, log 14) (R107, R111, R112, R114). The locks on carriers and rails follow from the head course: a carrier is
locked while the head course names it and is past QUEUED, a rail while it is the rail of a locked carrier (R114). -/
def Obligations.CarrierCommands : Prop :=
  ((∀ (s : State) (carrier : Byte) (position : BitVec 16) (k : Carrier) (x : Int), s.open → carrier.toNat = k.val + 1 →
    k.val < s.geo.record.carriers → x = max (-32) (min ((s.geo.record.bedNeedles : Int) + 31) position.toInt) →
    (s.railLocked (s.railOf k) = true → exec (.setCarrier .fits carrier position) s =
      .next (s.loadBroken.withPatternPort ⟨.inUse, none, s.patternPort.lastResult.code :: zeros 3⟩)) ∧
    (s.railLocked (s.railOf k) = false →
      (∃ j : Carrier, j ≠ k ∧ s.railOf j = s.railOf k ∧ s.carriers[j].status = .parked x) →
      exec (.setCarrier .fits carrier position) s =
        .next (s.loadBroken.withPatternPort ⟨.range, none, s.patternPort.lastResult.code :: zeros 3⟩)) ∧
    (s.railLocked (s.railOf k) = false →
      (∀ j : Carrier, j ≠ k → s.railOf j = s.railOf k → s.carriers[j].status ≠ .parked x) →
      ∃ t, exec (.setCarrier .fits carrier position) s = .next t ∧
        (∀ j : Carrier, t.carriers[j] = if j = k then ⟨.parked x, s.railOf k⟩ else s.carriers[j]) ∧
        t.retained = { s.retained with writes := s.retained.writes ++
          if s.carriers[k] = ⟨.parked x, s.railOf k⟩ then [] else [.carrier k ⟨.parked x, s.railOf k⟩] } ∧
        t.load = { s.load with continuation := false } ∧
        t.patternPort = ⟨.ok, none, s.patternPort.lastResult.code :: zeros 3⟩ ∧
        t.sameBut s [.carriers, .retained, .load, .patternPort])) ∧
  (∀ (s : State) (carrier : Byte) (position : BitVec 16), s.open →
    carrier.toNat = 0 ∨ 16 < carrier.toNat ∨ s.geo.record.carriers < carrier.toNat →
    exec (.setCarrier .fits carrier position) s =
      .next (s.loadBroken.withPatternPort ⟨.range, none, s.patternPort.lastResult.code :: zeros 3⟩)) ∧
  (∀ (s : State) (carrier speed : Byte) (k : Carrier), s.open → carrier.toNat = k.val + 1 →
    (s.carrierLocked k = true → exec (.setCarrierLimit .fits carrier speed) s =
      .next (s.loadBroken.withPatternPort ⟨.inUse, none, s.patternPort.lastResult.code :: zeros 2⟩)) ∧
    (s.carrierLocked k = false → ∃ v : Vector Nat 16,
      (∀ j : Carrier, v[j] = if j = k then max 1 (min 8 speed.toNat) else (s.geo.record.carrierCap[j] : Nat)) ∧
      exec (.setCarrierLimit .fits carrier speed) s =
        .next ((s.loadBroken.withGeo { s.geo with record := { s.geo.record with carrierCap := v } }).withPatternPort
          ⟨.ok, none, s.patternPort.lastResult.code :: zeros 2⟩))) ∧
  (∀ (s : State) (carrier speed : Byte), s.open → carrier.toNat = 0 ∨ 16 < carrier.toNat →
    exec (.setCarrierLimit .fits carrier speed) s =
      .next (s.loadBroken.withPatternPort ⟨.range, none, s.patternPort.lastResult.code :: zeros 2⟩))) ∧
  (∀ s : State,
    (∀ k : Carrier, s.carrierLocked k = true ↔ ∃ c cs, s.queue.courses = c :: cs ∧ c.state ≠ .queued ∧
      ∃ e ∈ c.entries, e.carrier = some k) ∧
    ∀ r : Rail, s.railLocked r = true ↔ ∃ k : Carrier, s.carrierLocked k = true ∧ s.railOf k = r)

/-- CLEAR_RESUME_RECORD makes the resume record absent, at once or, while it is still being written, once that write
is complete (log 17), clears RESUME_VALID and answers OK, also with none present. The two write events put the front
change into retained memory; without one of their kind in progress they change nothing (log 6) (R107, R170, R171). -/
def Obligations.RetainedWrites : Prop :=
  (∀ s : State, s.open →
    (s.stops.resume = none → exec (.clearResumeRecord .fits) s =
      .next (s.loadBroken.withPatternPort ⟨.ok, none, [s.patternPort.lastResult.code]⟩)) ∧
    (∀ r, s.stops.resume = some r → exec (.clearResumeRecord .fits) s =
      .next ((((s.loadBroken.withRetained { s.retained with writes := s.retained.writes ++ [.clearResume] }).withPatternReasons
        { s.patternReasons with resumeValid := false }).withStops { s.stops with
          resume := if s.retained.writes.any RetainedChange.isResume then some r else none }).withPatternPort
            ⟨.ok, none, [s.patternPort.lastResult.code]⟩))) ∧
  (∀ (s : State) (r : ResumeRecord) (rest : List RetainedChange), s.retained.writes = .resume r :: rest →
    exec .retainedWriteComplete s = .next s ∧
    exec .resumeRecordWriteComplete s =
      .next ((s.withRetained { s.retained with resume := some r, writes := rest }).withStops { s.stops with
        resume := if rest.any RetainedChange.isResume = false ∧ .clearResume ∈ rest then none else s.stops.resume })) ∧
  (∀ (s : State) (rest : List RetainedChange),
    (∀ (k : Carrier) (e : CarrierEntry), s.retained.writes = .carrier k e :: rest →
      exec .resumeRecordWriteComplete s = .next s ∧
      exec .retainedWriteComplete s =
        .next (s.withRetained { s.retained with carriers := s.retained.carriers.set k.val e, writes := rest })) ∧
    (s.retained.writes = .clearResume :: rest →
      exec .resumeRecordWriteComplete s = .next s ∧
      exec .retainedWriteComplete s = .next (s.withRetained { s.retained with resume := none, writes := rest })) ∧
    (∀ (cs : Vector CarrierEntry 16) (r : Option ResumeRecord), s.retained.writes = .recovered cs r :: rest →
      exec .resumeRecordWriteComplete s = .next s ∧
      exec .retainedWriteComplete s =
        .next (s.withRetained { s.retained with carriers := cs, resume := r, checkGood := true, writes := rest }))) ∧
  (∀ s : State, s.retained.writes = [] →
    exec .resumeRecordWriteComplete s = .next s ∧ exec .retainedWriteComplete s = .next s)

/-! ## Position, racking and supply -/

/-- HOME_ARM is refused with NOT_NOW while the head course is ARMING or KNITTING and otherwise arms homing.
SET_RACKING is refused with NOT_NOW while the head course is past QUEUED, then with RANGE outside -8..+8, and
otherwise sets the racking and RACK_KNOWN (R15, R18). An index pulse with homing armed gives P the value HOME_COUNT,
sets P_VALID and ends homing; with no course KNITTING or FAULTED nothing else changes. With homing not armed, a pulse
within INDEX_TOL of HOME_COUNT, or one with P_VALID clear, changes nothing (R16). ACTUATORS_ON wakes a supply in
STANDBY, is refused with NOT_NOW while PFW is asserted and otherwise answers OK; WAKE_COMPLETE turns a WAKING supply
ON and sets WAKE_DONE, and without a wake in progress changes nothing (log 6); ACTUATORS_OFF is refused with NOT_NOW
while the head course is ARMING, ARMED or KNITTING and otherwise puts the supply in STANDBY (R145, R146). -/
def Obligations.HomingRackingAndSupply : Prop :=
  (∀ s : State, s.open →
    (exec (.homeArm .fits) s =
      if (s.headIs .arming || s.headIs .knitting) = true then
        .next (s.withDrivePort ⟨.notNow, none, [s.drivePort.lastResult.code]⟩)
      else .next ((s.withPos { s.pos with homing := true }).withDrivePort
        ⟨.ok, none, [s.drivePort.lastResult.code]⟩)) ∧
    ∀ racking : Byte, exec (.setRacking .fits racking) s =
      if s.pastQueued = true then .next (s.withDrivePort ⟨.notNow, none, s.drivePort.lastResult.code :: zeros 1⟩)
      else if -8 ≤ racking.toInt ∧ racking.toInt ≤ 8 then
        .next ((s.withPos { s.pos with racking := racking.toInt, rackKnown := true }).withDrivePort
          ⟨.ok, none, s.drivePort.lastResult.code :: zeros 1⟩)
      else .next (s.withDrivePort ⟨.range, none, s.drivePort.lastResult.code :: zeros 1⟩)) ∧
  (∀ s : State, s.live = true →
    (s.pos.homing = true →
      (∃ t, exec .indexPulse s = .next t ∧
        t.pos = { s.pos with count := s.geo.record.homeCount, valid := true, homing := false }) ∧
      (s.headIs .knitting = false → s.headIs .faulted = false → exec .indexPulse s =
        .next (s.withPos { s.pos with count := s.geo.record.homeCount, valid := true, homing := false }))) ∧
    (s.pos.homing = false → (s.pos.valid = false ∨
        (s.geo.record.homeCount ≤ s.pos.count + s.geo.record.indexTol ∧
          s.pos.count ≤ s.geo.record.homeCount + s.geo.record.indexTol)) →
      exec .indexPulse s = .next s)) ∧
  (∀ s : State,
    (s.open → exec (.actuatorsOn .fits) s =
      if s.pins.pfw = true then .next (s.withDrivePort ⟨.notNow, none, [s.drivePort.lastResult.code]⟩)
      else .next ((s.withSupply (if s.supply = .standby then .waking else s.supply)).withDrivePort
        ⟨.ok, none, [s.drivePort.lastResult.code]⟩)) ∧
    (s.open → exec (.actuatorsOff .fits) s =
      if (s.headIs .arming || s.headIs .armed || s.headIs .knitting) = true then
        .next (s.withDrivePort ⟨.notNow, none, [s.drivePort.lastResult.code]⟩)
      else .next ((s.withSupply .standby).withDrivePort ⟨.ok, none, [s.drivePort.lastResult.code]⟩)) ∧
    (s.supply = .waking → exec .wakeComplete s =
      .next (((s.withSupply .on).withDriveReasons { s.driveReasons with wakeDone := true }).withReasonCounts
        { s.reasonCounts with wakeDone := s.reasonCounts.wakeDone + 1 })) ∧
    (s.supply ≠ .waking → exec .wakeComplete s = .next s))

/-- A valid transition moves P by one count in the direction of the table of R12 and leaves P_VALID; with no course
KNITTING or FAULTED nothing else changes, and with a FAULTED course the ENGAGED and HELD carriers follow the catcher
index and nothing else changes. Without a change of level, without power and while RESET is asserted nothing is
counted (log 18) (R12, R20, R106, R157, R165). -/
def Obligations.EncoderCounts : Prop :=
  (∀ (s : State) (a b : Bool) (p : Nat), s.countsTo a b p →
    (∃ t, exec (.encoderTransition a b) s = .next t ∧
      t.pos = { s.pos with count := p, levelA := a, levelB := b } ∧
      t.pins = { s.pins with encA := a, encB := b }) ∧
    (s.headIs .knitting = false → s.headIs .faulted = false →
      exec (.encoderTransition a b) s = .next (s.moved a b p)) ∧
    ∀ c, s.head? = some c → c.state = .faulted → ∃ t, exec (.encoderTransition a b) s = .next t ∧
      (∀ k : Carrier, t.carriers[k] = s.followed c.direction p k) ∧
      t.sameBut (s.moved a b p) [.carriers, .retained] ∧
      ∃ l, t.retained = { s.retained with writes := s.retained.writes ++ l }) ∧
  (∀ (s : State) (a b : Bool), s.live = false ∨ (s.pos.levelA = a ∧ s.pos.levelB = b) →
    exec (.encoderTransition a b) s = .next (s.withPins { s.pins with encA := a, encB := b }))

/-- P_VALID is lost, and P keeps its value, at an illegal transition, at a count that would take P out of
0..1,048,575, and at an index pulse that differs from HOME_COUNT by more than INDEX_TOL; the first two take the new
levels (R13, R14, R16). The loss of P_VALID by the state of the head course: ARMING notes it; ARMED loses its grant
and returns to QUEUED with GRANT_WITHDRAWN; KNITTING takes an ENCODER fault; otherwise only P_VALID clears (R17, R71,
R139). -/
def Obligations.PositionLost : Prop :=
  ((∀ (s : State) (a b : Bool), s.live = true → a ≠ s.pos.levelA → b ≠ s.pos.levelB →
    exec (.encoderTransition a b) s = .next (s.moved a b s.pos.count).losePosition) ∧
  (∀ (s : State) (a b : Bool), s.live = true →
    ((a ≠ s.pos.levelA ∧ b = s.pos.levelB) ∨ (a = s.pos.levelA ∧ b ≠ s.pos.levelB)) →
    (s.pos.count = 0 ∧ ¬ (a ≠ s.pos.levelA ↔ a ≠ b)) ∨ (s.pos.count = 1048575 ∧ (a ≠ s.pos.levelA ↔ a ≠ b)) →
    exec (.encoderTransition a b) s = .next (s.moved a b s.pos.count).losePosition) ∧
  (∀ s : State, s.live = true → s.pos.homing = false → s.pos.valid = true →
    s.pos.count + s.geo.record.indexTol < s.geo.record.homeCount ∨
      s.geo.record.homeCount + s.geo.record.indexTol < s.pos.count →
    exec .indexPulse s = .next s.losePosition)) ∧
  (∀ s : State,
    (s.headIs .arming = false → s.headIs .armed = false → s.headIs .knitting = false →
      s.losePosition = s.withPos { s.pos with valid := false }) ∧
    (∀ c cs, s.queue.courses = c :: cs →
      (c.state = .arming → s.losePosition =
        (s.withPos { s.pos with valid := false }).withArm { s.arm with positionLost := true }) ∧
      (c.state = .knitting → s.losePosition = (s.withPos { s.pos with valid := false }).strokeFault .encoder none none) ∧
      (c.state = .armed →
        s.losePosition.pos = { s.pos with valid := false } ∧
        s.losePosition.queue = { s.queue with courses := { c with state := .queued } :: cs } ∧
        s.losePosition.mem = ⟨s.mem.cells, []⟩ ∧ s.losePosition.tech = ⟨s.tech.tables, []⟩ ∧
        s.losePosition.image = .cleared ∧ s.losePosition.arm = { s.arm with stage := none } ∧
        s.losePosition.driveReasons = { s.driveReasons with grantReady := false, grantWithdrawn := true } ∧
        s.losePosition.reasonCounts = { s.reasonCounts with grantWithdrawn := s.reasonCounts.grantWithdrawn + 1 } ∧
        s.losePosition.sameBut s [.pos, .queue, .mem, .tech, .image, .arm, .driveReasons, .reasonCounts])))

/-! ## Arming -/

/-- REQUEST_STROKE in READY on a QUEUED head answers OK and the course enters ARMING: its grant summary, the outcome
record and both attention reasons of it go, the notes are clear, the drive cap stays, stage 2 is next. In OFFLINE, and
on a head past QUEUED, it is refused with NOT_NOW; with the queue empty it is answered EMPTY (R124, R125, R127). A
stage-1 condition that fails, the first in the order P_VALID, RACK_KNOWN, racking, supply, stop latch, ends the arming
at once with its refusal: the course stays QUEUED with its last refusal written, the outcome record is the refusal,
REFUSAL_READY and HEAD_REFUSED are set; the command itself answers OK (R124, R127, R136, R137). -/
def Obligations.RequestStroke : Prop :=
  (∀ s : State, s.open →
    (s.geo.mode = .offline ∨ s.pastQueued = true → exec (.requestStroke .fits) s =
      .next (s.withDrivePort ⟨.notNow, none, [s.drivePort.lastResult.code]⟩)) ∧
    (s.geo.mode = .ready → s.queue.courses = [] → exec (.requestStroke .fits) s =
      .next (s.withDrivePort ⟨.empty, none, [s.drivePort.lastResult.code]⟩)) ∧
    (∀ c cs, s.geo.mode = .ready → s.queue.courses = c :: cs → c.state = .queued →
      s.pos.valid = true → s.pos.rackKnown = true → s.pos.racking = c.racking → s.supply = .on → s.stops.latch = false →
      exec (.requestStroke .fits) s =
        .next ((((s.withQueue { s.queue with courses := { c with state := .arming, grant := none } :: cs }).withArm
          { ArmingEngine.initial with stage := some .locks, driveCap := s.arm.driveCap }).withDriveReasons
            { s.driveReasons with grantReady := false, refusalReady := false }).withDrivePort
              ⟨.ok, none, [s.drivePort.lastResult.code]⟩))) ∧
  (∀ (s : State) (c : Course) (cs : List Course) (reason : ArmingRefusal), s.open → s.locksOk → s.geo.mode = .ready →
    s.queue.courses = c :: cs → c.state = .queued →
    ((s.pos.valid = false ∧ reason = .notHomed) ∨
      (s.pos.valid = true ∧ s.pos.rackKnown = false ∧ reason = .rackUnknown) ∨
      (s.pos.valid = true ∧ s.pos.rackKnown = true ∧ s.pos.racking ≠ c.racking ∧
        reason = .rackMismatch s.pos.racking c.racking) ∨
      (s.pos.valid = true ∧ s.pos.rackKnown = true ∧ s.pos.racking = c.racking ∧ s.supply ≠ .on ∧
        reason = .supplyNotOn s.supply) ∨
      (s.pos.valid = true ∧ s.pos.rackKnown = true ∧ s.pos.racking = c.racking ∧ s.supply = .on ∧
        s.stops.latch = true ∧ reason = .stopLatched s.pins.stopIn)) →
    exec (.requestStroke .fits) s =
      .next ((((((s.withQueue { s.queue with courses := { c with grant := none, lastRefusal := some ⟨reason, 1⟩ } :: cs }).withArm
        { ArmingEngine.initial with outcome := some (.refusal ⟨c.tag, reason, 1⟩), driveCap := s.arm.driveCap }).withDriveReasons
          { s.driveReasons with grantReady := false, refusalReady := true }).withPatternReasons
            { s.patternReasons with headRefused := true }).withReasonCounts
              { s.reasonCounts with outcome := s.reasonCounts.outcome + 1 }).withDrivePort ⟨.ok, none, [s.drivePort.lastResult.code]⟩))

/-- An arming stage acts only on an ARMING head course, and only when the engine has come to it; otherwise nothing
changes (log 6). REQUEST_STROKE is the only command with which a course enters ARMING, stage 9 the only one with which
it becomes ARMED (R70, R126). An arming that ends in a refusal returns the course to QUEUED with the refusal written
and its rows kept, writes the outcome record, releases the locks, clears the image and sets REFUSAL_READY and
HEAD_REFUSED (R136, R137, R71, R87). -/
def Obligations.StagesAndRefusal : Prop :=
  ((∀ (s : State) (c : Instr) (stage : ArmingStage),
    (c, stage) ∈ [(Instr.locksAndResolution, ArmingStage.locks), (.zoneStage, .zone), (.imageStage, .image),
      (.transferPairing, .pairing), (.carrierPlan, .carrierPlan), (.extentAndTurningPoints, .extent),
      (.speedClass, .speed), (.completionAndGrant, .completion)] →
    s.headIs .arming = false ∨ s.arm.stage ≠ some stage → exec c s = .next s) ∧
  (∀ (c : Instr) (s t : State), s.tailQueued → exec c s = .next t → s.headIs .arming = false → t.headIs .arming = true →
    c = .requestStroke .fits) ∧
  (∀ (c : Instr) (s t : State), s.tailQueued → exec c s = .next t → s.headIs .armed = false → t.headIs .armed = true →
    c = .completionAndGrant)) ∧
  (∀ (s : State) (c : Course) (cs : List Course) (reason : ArmingRefusal) (stage : Nat), s.queue.courses = c :: cs →
    c.state = .arming → ∃ t, s.refuseArming c.tag reason stage = t ∧
      t.queue = { s.queue with courses := { c with state := .queued, lastRefusal := some ⟨reason, stage⟩ } :: cs } ∧
      t.arm = { s.arm with stage := none, outcome := some (.refusal ⟨c.tag, reason, stage⟩) } ∧
      t.mem = ⟨s.mem.cells, []⟩ ∧ t.tech = ⟨s.tech.tables, []⟩ ∧ t.image = .cleared ∧
      t.driveReasons = { s.driveReasons with refusalReady := true } ∧
      t.patternReasons = { s.patternReasons with headRefused := true } ∧
      t.reasonCounts = { s.reasonCounts with outcome := s.reasonCounts.outcome + 1 } ∧
      t.sameBut s [.queue, .arm, .mem, .tech, .image, .driveReasons, .patternReasons, .reasonCounts])

/-- Stage 2: in ascending system order each listed system keeps the row it has, or takes its direct row, or its
pointer's current row, the pointer then advancing for the systems after it; the rows are the course's resolved rows;
the rows taken, the overlay rows and the tables are locked (R57, R58, R59, R25, R49, R128). -/
def Obligations.LocksAndResolution : Prop :=
  ∀ (s : State) (c : Course) (cs : List Course), s.queue.courses = c :: cs → c.state = .arming →
    s.arm.stage = some .locks →
    ∃ (t : State) (rows : List (System × Nat)), exec .locksAndResolution s = .next t ∧
      t.queue = { s.queue with courses := { c with resolved := rows } :: cs } ∧
      rows.map Prod.fst = c.listed.map SystemEntry.system ∧
      (∀ (n : Nat) (e : SystemEntry), c.listed[n]? = some e → ∀ (x : System × Nat), rows[n]? = some x →
        (∀ row, rowOfSystem c.resolved e.system = some row → x.2 = row) ∧
        (rowOfSystem c.resolved e.system = none → ∀ row, e.source = .direct row → x.2 = row) ∧
        (rowOfSystem c.resolved e.system = none → ∀ p, e.source = .pointer p →
          x.2 = (Pointer.advance^[(c.listed.take n).countP fun f => decide (f.source = .pointer p) &&
            (rowOfSystem c.resolved f.system).isNone] s.ptrs[p]).current)) ∧
      (∀ p : Fin 8, t.ptrs[p] = Pointer.advance^[c.listed.countP fun f => decide (f.source = .pointer p) &&
        (rowOfSystem c.resolved f.system).isNone] s.ptrs[p]) ∧
      t.mem.cells = s.mem.cells ∧ t.tech.tables = s.tech.tables ∧
      (∀ r, r ∈ t.mem.locks ↔ r ∈ s.mem.locks ∨ r ∈ rows.map Prod.snd ∨
        ∃ e ∈ c.listed, ∃ o, e.overlay = some o ∧ o.row = r) ∧
      (∀ b, b ∈ t.tech.locks ↔ b ∈ s.tech.locks ∨ ∃ e ∈ c.listed, e.table = b) ∧
      t.arm = { s.arm with stage := some .zone } ∧ t.sameBut s [.queue, .ptrs, .mem, .tech, .arm]

/-- Stage 3 takes the record's zone, or else the global zone as it stands, clamps each bound to 0..N-1, and refuses
with ZONE_EMPTY and the bounds as taken if they cross after clamping; otherwise the image holds the clamped zone (R89,
R67). -/
def Obligations.ZoneStage : Prop :=
  ∀ (s : State) (c : Course) (cs : List Course) (left right : Int) (zl zr : Nat), s.queue.courses = c :: cs →
    c.state = .arming → s.arm.stage = some .zone → s.geo.record.inRange →
    (c.zone = some (left, right) ∨ (c.zone = none ∧ left = s.queue.zoneLeft ∧ right = s.queue.zoneRight)) →
    (zl : Int) = max 0 (min ((s.geo.record.bedNeedles : Int) - 1) left) →
    (zr : Int) = max 0 (min ((s.geo.record.bedNeedles : Int) - 1) right) →
    exec .zoneStage s = .next (if zr < zl then s.refuseArming c.tag (.zoneEmpty left right) 3
      else (s.withImage { s.image with zone := some (zl, zr) }).withArm { s.arm with stage := some .image })

/-- The colour of a system at a needle: repeat and shift, mirror, cell, exchange, overlay (R90, R91, R92, R93). The
action a table entry gives under a course's kind: a KNIT course knits, tucks and misses, a TRANSFER course transfers,
receives and misses; any other action is MISS (R43, R45). -/
def Obligations.ColourAndSuppression : Prop :=
  (∀ (m : Memory) (n row i : Nat) (e : SystemEntry), 1 ≤ n → i < n → n ≤ 1280 → 1 ≤ e.width →
    ∃ (w k : Nat) (base beneath : Colour), w = min e.width n ∧ k < w ∧
      ((i : Int) - e.origin + e.shift - k) % w = 0 ∧
      base = Memory.read m row (if e.mirror then w - 1 - k else k) ∧
      (e.exchange = none → beneath = base) ∧
      (∀ a b, e.exchange = some (a, b) → (base = a → beneath = b) ∧ (base = b → beneath = a) ∧
        (base ≠ a → base ≠ b → beneath = base)) ∧
      (e.overlay = none → colourAt m n row e i = beneath) ∧
      (∀ o, e.overlay = some o → colourAt m n row e i =
        if o.origin ≤ i ∧ i < o.origin + o.width ∧ Memory.read m o.row (i - o.origin) ≠ o.key
        then Memory.read m o.row (i - o.origin) else beneath)) ∧
  (∀ a : Action,
    suppress .knit a = (if a = .knit ∨ a = .tuck then a else .miss) ∧
    suppress .transfer a = (if a = .xfer ∨ a = .recv then a else .miss))

/-- Stage 4 writes the six lists: for a listed system up to SYSTEMS, each front entry inside the zone is the front
action of its table at the system's colour there, each back entry inside the zone that faces the front bed is the back
action at the colour of the needle it faces, where its parity applies; every other entry is MISS. The extent of a
system is the least and the greatest needle at which either list holds an action. The suppression note is set where an
action looked up was suppressed. A TRANSFER course goes on to pairing, a KNIT course to the carrier plan (R42, R43,
R44, R46, R94, R95, R96, R100). -/
def Obligations.ImageStage : Prop :=
  ∀ (s : State) (c : Course) (cs : List Course) (zl zr : Nat), s.queue.courses = c :: cs → c.state = .arming →
    s.arm.stage = some .image → s.image.zone = some (zl, zr) →
    let n := s.geo.record.bedNeedles
    let entryAt (e : SystemEntry) (i : Nat) : TechniqueEntry :=
      s.tech.entry e.table (colourAt s.mem.cells n ((rowOfSystem c.resolved e.system).getD 0) e i)
    ∃ t, exec .imageStage s = .next t ∧
      (∀ (sys : System) (e : SystemEntry), c.entries.find? (fun e => decide (e.system = sys)) = some e →
        sys.val < s.geo.record.systems →
        (∀ i < n, Store.read .miss t.image.lists[System.head sys .front] i =
          if zl ≤ i ∧ i ≤ zr then suppress c.kind (entryAt e i).front else .miss) ∧
        (∀ m < n, Store.read .miss t.image.lists[System.head sys .back] m =
          if zl ≤ m ∧ m ≤ zr ∧ 0 ≤ (m : Int) + c.racking ∧ (m : Int) + c.racking < n then
            (if (entryAt e ((m : Int) + c.racking).toNat).parity = .all ∨
                ((entryAt e ((m : Int) + c.racking).toNat).parity = .even ∧ m % 2 = 0) ∨
                ((entryAt e ((m : Int) + c.racking).toNat).parity = .odd ∧ m % 2 = 1)
             then suppress c.kind (entryAt e ((m : Int) + c.racking).toNat).back else .miss)
          else .miss)) ∧
      (∀ (sys : System) (bed : Bed), (c.entries.find? (fun e => decide (e.system = sys)) = none ∨
          s.geo.record.systems ≤ sys.val) → t.image.lists[System.head sys bed] = []) ∧
      (∀ (sys : System) (l r : Nat), t.image.extents[sys] = some (l, r) → l ≤ r ∧ r < n ∧
        ∀ i < n, (isMarked n c.racking t.image.lists[System.head sys .front] t.image.lists[System.head sys .back] i = true →
          l ≤ i ∧ i ≤ r) ∧ ((i = l ∨ i = r) →
          isMarked n c.racking t.image.lists[System.head sys .front] t.image.lists[System.head sys .back] i = true)) ∧
      (∀ sys : System, t.image.extents[sys] = none → ∀ i < n,
        isMarked n c.racking t.image.lists[System.head sys .front] t.image.lists[System.head sys .back] i = false) ∧
      t.image.zone = s.image.zone ∧ t.image.plan = s.image.plan ∧ t.image.extent = s.image.extent ∧
      t.arm = { s.arm with
        suppressed := t.arm.suppressed
        stage := some (if c.kind = .transfer then .pairing else .carrierPlan) } ∧
      (t.arm.suppressed = true ↔ s.arm.suppressed = true ∨
        ∃ (sys : System) (e : SystemEntry) (i : Nat), c.entries.find? (fun e => decide (e.system = sys)) = some e ∧
          sys.val < s.geo.record.systems ∧ i < n ∧ zl ≤ i ∧ i ≤ zr ∧
          (suppress c.kind (entryAt e i).front ≠ (entryAt e i).front ∨
            (0 ≤ (i : Int) + c.racking ∧ (i : Int) + c.racking < n ∧
              Parity.applies (entryAt e ((i : Int) + c.racking).toNat).parity i = true ∧
              suppress c.kind (entryAt e ((i : Int) + c.racking).toNat).back ≠
                (entryAt e ((i : Int) + c.racking).toNat).back))) ∧
      t.sameBut s [.image, .arm]

/-- Stage 5 passes where every XFER faces a RECV and every RECV an XFER within each listed system; otherwise it
refuses with TRANSFER_PAIR at the first unpaired entry: systems ascending, the front list before the back list, each
by increasing needle, the index front-aligned (R97, R98, R99). -/
def Obligations.TransferPairing : Prop :=
  ∀ (s : State) (c : Course) (cs : List Course), s.queue.courses = c :: cs → c.state = .arming →
    s.arm.stage = some .pairing →
    let n := s.geo.record.bedNeedles
    let front (sys : System) (i : Int) : Action := listEntry n s.image.lists[System.head sys .front] i
    let back (sys : System) (i : Int) : Action := listEntry n s.image.lists[System.head sys .back] i
    let unpairedFront (sys : System) (i : Nat) : Prop :=
      (front sys i = .xfer ∧ back sys (i - c.racking) ≠ .recv) ∨ (front sys i = .recv ∧ back sys (i - c.racking) ≠ .xfer)
    let unpairedBack (sys : System) (m : Nat) : Prop :=
      (back sys m = .xfer ∧ front sys (m + c.racking) ≠ .recv) ∨ (back sys m = .recv ∧ front sys (m + c.racking) ≠ .xfer)
    ((∀ e ∈ c.listed, ∀ i < n, ¬ unpairedFront e.system i ∧ ¬ unpairedBack e.system i) →
      exec .transferPairing s = .next (s.withArm { s.arm with stage := some .carrierPlan })) ∧
    (∀ (pre : List SystemEntry) (e : SystemEntry) (post : List SystemEntry), c.listed = pre ++ e :: post →
      (∀ f ∈ pre, ∀ i < n, ¬ unpairedFront f.system i ∧ ¬ unpairedBack f.system i) →
      (∀ i < n, unpairedFront e.system i → (∀ j < i, ¬ unpairedFront e.system j) →
        exec .transferPairing s = .next (s.refuseArming c.tag (.transferPair e.system .front i) 5)) ∧
      (∀ m < n, (∀ i < n, ¬ unpairedFront e.system i) → unpairedBack e.system m → (∀ j < m, ¬ unpairedBack e.system j) →
        exec .transferPairing s = .next (s.refuseArming c.tag (.transferPair e.system .back (m + c.racking)) 5)))

/-- The checks on one carrier with a non-empty extent, in order: an UNKNOWN carrier on its rail, a plan entry on its
rail, a pickup on the wrong side, the nearest carrier PARKED in its path; where all pass, its plan entry AWAITING
CATCH with its position and its release point (R116, R117, R118, R119). -/
def Obligations.CarrierChecks : Prop :=
  ∀ (s : State) (d : Direction) (plan : List PlanEntry) (sys : System) (k : Carrier) (l r : Int),
    let q : Int := match d with | .l2r => r + s.geo.record.parkGap | .r2l => l - s.geo.record.parkGap
    let inWay (p : Int) (j : Carrier) (pj : Int) : Prop := j ≠ k ∧ s.railOf j = s.railOf k ∧ s.carriers[j].status = .parked pj ∧
      (match d with | .l2r => p < pj ∧ pj ≤ q | .r2l => q ≤ pj ∧ pj < p)
    (∀ j : Carrier, s.inUse j = true → s.railOf j = s.railOf k → s.carriers[j].status = .unknown →
      (∀ i : Carrier, i < j → s.inUse i = true → s.railOf i = s.railOf k → s.carriers[i].status ≠ .unknown) →
      s.planCarrier d plan sys k l r = .inl (.carrierUnknown k j)) ∧
    ((∀ j : Carrier, s.inUse j = true → s.railOf j = s.railOf k → s.carriers[j].status ≠ .unknown) →
      (s.carriers[k].status = .unknown → s.planCarrier d plan sys k l r = .inl (.carrierUnknown k k)) ∧
      (∀ p, s.carriers[k].position = some p →
        (∀ (pre : List PlanEntry) (e : PlanEntry) (post : List PlanEntry), plan = pre ++ e :: post →
          s.railOf e.carrier = s.railOf k → (∀ f ∈ pre, s.railOf f.carrier ≠ s.railOf k) →
          s.planCarrier d plan sys k l r = .inl (.railConflict e.carrier k)) ∧
        ((∀ e ∈ plan, s.railOf e.carrier ≠ s.railOf k) →
          (d = .l2r → l < p → s.planCarrier d plan sys k l r = .inl (.carrierSide k p l)) ∧
          (d = .r2l → p < r → s.planCarrier d plan sys k l r = .inl (.carrierSide k p r)) ∧
          ((d = .l2r → p ≤ l) → (d = .r2l → r ≤ p) →
            (∀ (j : Carrier) (pj : Int), inWay p j pj → (∀ (i : Carrier) (pi : Int), inWay p i pi → i ≠ j → |pj - p| < |pi - p|) →
              s.planCarrier d plan sys k l r = .inl (.carrierBlocked k j)) ∧
            ((∀ (j : Carrier) (pj : Int), ¬ inWay p j pj) →
              s.planCarrier d plan sys k l r = .inr ⟨k, sys, p, q, .awaitingCatch⟩)))))

/-- Stage 6 takes the listed systems in ascending order: one that names no carrier is passed over, one whose extent is
empty leaves its carrier idle, any other is checked against the entries before it. The first refusal ends the arming;
where none refuses, the plan holds the entries in order and CARRIER_IDLE is noted if a carrier was idle (R115, R116,
R119). -/
def Obligations.CarrierPlan : Prop :=
  ∀ (s : State) (c : Course) (cs : List Course), s.queue.courses = c :: cs → c.state = .arming →
    s.arm.stage = some .carrierPlan →
    let engages (e : SystemEntry) : Option (Carrier × Nat × Nat) :=
      match e.carrier, s.image.extents[e.system] with
      | some k, some (l, r) => some (k, l, r)
      | _, _ => none
    let todo : List (System × Carrier × Nat × Nat) := c.listed.filterMap fun e => (engages e).map fun x => (e.system, x)
    (∀ plan : List PlanEntry, plan.length = todo.length →
      (∀ (i : Nat) (x : System × Carrier × Nat × Nat) (p : PlanEntry), todo[i]? = some x → plan[i]? = some p →
        s.planCarrier c.direction (plan.take i) x.1 x.2.1 x.2.2.1 x.2.2.2 = .inr p) →
      exec .carrierPlan s = .next ((s.withImage { s.image with plan := plan }).withArm { s.arm with
        carrierIdle := c.listed.any fun e => e.carrier.isSome && (s.image.extents[e.system]).isNone
        stage := some .extent })) ∧
    (∀ (plan : List PlanEntry) (x : System × Carrier × Nat × Nat) (reason : ArmingRefusal), todo[plan.length]? = some x →
      (∀ (i : Nat) (y : System × Carrier × Nat × Nat) (p : PlanEntry), todo[i]? = some y → plan[i]? = some p →
        s.planCarrier c.direction (plan.take i) y.1 y.2.1 y.2.2.1 y.2.2.2 = .inr p) →
      s.planCarrier c.direction plan x.1 x.2.1 x.2.2.1 x.2.2.2 = .inl reason →
      exec .carrierPlan s = .next (s.refuseArming c.tag reason 6))

/-- Stage 7 forms the course extent from the non-empty system extents and the plan's pickups and releases, or from the
zone where there is neither, computes the turning points from it with the greatest and the least counted offset,
clamps each that lies beyond its travel limit by at most MARGIN - 2 CPN and refuses with OUT_OF_REACH one that lies
further, the left one first (R102, R130, R131). -/
def Obligations.ExtentAndTurningPoints : Prop :=
  ∀ (s : State) (c : Course) (cs : List Course) (l r dmax dmin : Int), s.queue.courses = c :: cs → c.state = .arming →
    s.arm.stage = some .extent →
    let g := s.geo.record
    let points : List Int := (allSystems.flatMap fun sys => match s.image.extents[sys] with
        | some x => [(x.1 : Int), (x.2 : Int)]
        | none => []) ++ s.image.plan.flatMap fun e => [e.pickup, e.release]
    let offsets : List Int := (c.listed.flatMap fun e =>
        [g.headOffset[System.head e.system .front], g.headOffset[System.head e.system .back]]) ++
      (if s.image.plan = [] then [] else [g.catchOffset])
    let lead : Int := match c.direction with | .l2r => g.lead | .r2l => -(g.lead : Int)
    let tl : Int := g.bedOrigin + l * g.cpn - dmax - lead - g.margin
    let tr : Int := g.bedOrigin + r * g.cpn - dmin - lead + g.margin
    let room : Int := (g.margin : Int) - 2 * g.cpn
    ((points ≠ [] ∧ l ∈ points ∧ r ∈ points ∧ ∀ x ∈ points, l ≤ x ∧ x ≤ r) ∨
      (points = [] ∧ ∃ zl zr, s.image.zone = some (zl, zr) ∧ l = zl ∧ r = zr)) →
    dmax ∈ offsets → dmin ∈ offsets → (∀ x ∈ offsets, dmin ≤ x ∧ x ≤ dmax) →
    ((tl < g.travelLo ∧ room < (g.travelLo : Int) - tl) →
      exec .extentAndTurningPoints s = .next (s.refuseArming c.tag (.outOfReach false tl g.travelLo) 7)) ∧
    ((g.travelLo ≤ tl ∨ (g.travelLo : Int) - tl ≤ room) → (g.travelHi : Int) < tr → room < tr - g.travelHi →
      exec .extentAndTurningPoints s = .next (s.refuseArming c.tag (.outOfReach true tr g.travelHi) 7)) ∧
    ((g.travelLo ≤ tl ∨ (g.travelLo : Int) - tl ≤ room) → (tr ≤ g.travelHi ∨ tr - g.travelHi ≤ room) →
      exec .extentAndTurningPoints s = .next ((s.withImage { s.image with extent := some (l, r) }).withArm { s.arm with
        turnLeft := max tl g.travelLo, turnRight := min tr g.travelHi
        clampedLeft := decide (tl < g.travelLo), clampedRight := decide ((g.travelHi : Int) < tr)
        stage := some .speed }))

/-- Stage 8 grants the least of the class requested, the drive cap, XFER_CAP for a TRANSFER course, and the cap of
every carrier in the plan, and notes SPEED_CAPPED if it is below the class requested (R132). Stage 9 refuses with
NOT_HOMED where P_VALID was lost or is clear, then with STOP_LATCHED where the stop latch was set or is set; otherwise
the course is ARMED with its grant summary and without its last refusal, the outcome record is the grant, GRANT_READY
is set and HEAD_REFUSED cleared (R134, R135, R138). -/
def Obligations.SpeedClassAndGrant : Prop :=
  (∀ (s : State) (c : Course) (cs : List Course), s.queue.courses = c :: cs → c.state = .arming →
    s.arm.stage = some .speed → ∃ v : Nat,
      exec .speedClass s = .next (s.withArm { s.arm with
        grantedSpeed := v, speedCapped := decide (v < c.speed), stage := some .completion }) ∧
      v ≤ c.speed ∧ v ≤ s.arm.driveCap ∧ (c.kind = .transfer → v ≤ s.geo.record.xferCap) ∧
      (∀ e ∈ s.image.plan, v ≤ (s.geo.record.carrierCap[e.carrier] : Nat)) ∧
      (v = c.speed ∨ v = s.arm.driveCap ∨ (c.kind = .transfer ∧ v = s.geo.record.xferCap) ∨
        ∃ e ∈ s.image.plan, v = (s.geo.record.carrierCap[e.carrier] : Nat))) ∧
  (∀ (s : State) (c : Course) (cs : List Course) (l r : Int), s.queue.courses = c :: cs → c.state = .arming →
    s.arm.stage = some .completion → s.image.extent = some (l, r) →
    (s.arm.positionLost = true ∨ s.pos.valid = false →
      exec .completionAndGrant s = .next (s.refuseArming c.tag .notHomed 9)) ∧
    (s.arm.positionLost = false → s.pos.valid = true → (s.arm.stopSeen = true ∨ s.stops.latch = true) →
      exec .completionAndGrant s = .next (s.refuseArming c.tag (.stopLatched s.pins.stopIn) 9)) ∧
    (s.arm.positionLost = false → s.pos.valid = true → s.arm.stopSeen = false → s.stops.latch = false →
      exec .completionAndGrant s = .next (((((s.withQueue { s.queue with courses :=
          { c with state := .armed, lastRefusal := none, grant := some ⟨l, r, s.arm.grantedSpeed⟩ } :: cs }).withArm
        { s.arm with
          stage := none
          outcome := some (.grant {
            tag := c.tag, direction := c.direction
            start := if c.direction = .l2r then s.arm.turnLeft else s.arm.turnRight
            finish := if c.direction = .l2r then s.arm.turnRight else s.arm.turnLeft
            left := l, right := r, speed := s.arm.grantedSpeed
            clampedLeft := s.arm.clampedLeft, clampedRight := s.arm.clampedRight, speedCapped := s.arm.speedCapped
            suppressed := s.arm.suppressed, carrierIdle := s.arm.carrierIdle
            engaged := s.image.plan.map fun e => (e.carrier, e.pickup, e.release) }) }).withDriveReasons
        { s.driveReasons with grantReady := true }).withPatternReasons { s.patternReasons with headRefused := false }).withReasonCounts
          { s.reasonCounts with outcome := s.reasonCounts.outcome + 1 })))

/-! ## The stroke -/

/-- BEGIN_STROKE on an ARMED course, with the stop latch clear, P_VALID set, the supply ON and the carriage on the
start side, makes the course KNITTING with its stroke record: every head's next window is one ahead of where the head
stands. Where P is already at the end point, which the turning points rule out, the stroke completes at once (R148,
R149, R147, R15, R155). BEGIN_STROKE is refused with NOT_NOW unless the head course is ARMED, then, in this order,
with STOPPED, NOT_HOMED, NOT_NOW for the supply and WRONG_SIDE; the course keeps its grant (R148). -/
def Obligations.BeginStroke : Prop :=
  (∀ (s : State) (c : Course) (cs : List Course) (g : GrantRecord), s.open → s.queue.courses = c :: cs →
    c.state = .armed → s.arm.outcome = some (.grant g) → s.stops.latch = false → s.pos.valid = true → s.supply = .on →
    (match g.direction with | .l2r => (s.pos.count : Int) ≤ g.start | .r2l => g.start ≤ s.pos.count) →
    ∃ u : State, u.queue = { s.queue with courses := { c with state := .knitting } :: cs } ∧
      u.pos = { s.pos with homing := false } ∧
      (∃ r : StrokeRecord, u.heads = { s.heads with stroke := some r } ∧ r.direction = g.direction ∧
        r.finish = g.finish ∧ r.furthest = s.pos.count ∧
        ∀ h : Head, r.next[h] = headIndex s.geo.record h g.direction s.pos.count + g.direction.sign) ∧
      u.sameBut s [.queue, .pos, .heads] ∧
      ((match g.direction with | .l2r => (s.pos.count : Int) < g.finish | .r2l => g.finish < s.pos.count) →
        exec (.beginStroke .fits) s = .next (u.withDrivePort ⟨.ok, none, [s.drivePort.lastResult.code]⟩)) ∧
      ((match g.direction with | .l2r => g.finish ≤ s.pos.count | .r2l => (s.pos.count : Int) ≤ g.finish) →
        exec (.beginStroke .fits) s =
          .next (u.completeStroke.withDrivePort ⟨.ok, none, [s.drivePort.lastResult.code]⟩))) ∧
  (∀ s : State, s.open →
    (s.headIs .armed = false → exec (.beginStroke .fits) s =
      .next (s.withDrivePort ⟨.notNow, none, [s.drivePort.lastResult.code]⟩)) ∧
    (s.headIs .armed = true →
      (s.stops.latch = true → exec (.beginStroke .fits) s =
        .next (s.withDrivePort ⟨.stopped, none, [s.drivePort.lastResult.code]⟩)) ∧
      (s.stops.latch = false → s.pos.valid = false → exec (.beginStroke .fits) s =
        .next (s.withDrivePort ⟨.notHomed, none, [s.drivePort.lastResult.code]⟩)) ∧
      (s.stops.latch = false → s.pos.valid = true → s.supply ≠ .on → exec (.beginStroke .fits) s =
        .next (s.withDrivePort ⟨.notNow, none, [s.drivePort.lastResult.code]⟩)) ∧
      (∀ g, s.arm.outcome = some (.grant g) → s.stops.latch = false → s.pos.valid = true → s.supply = .on →
        (match g.direction with | .l2r => g.start < (s.pos.count : Int) | .r2l => (s.pos.count : Int) < g.start) →
        exec (.beginStroke .fits) s =
          .next (s.withDrivePort ⟨.wrongSide, none, [s.drivePort.lastResult.code]⟩))))

/-- A count of a KNITTING stroke that brings no head to its next window, no catch or release due, and P short of the
end point and within the backlash, only moves P, advances F and lets the attached carriers follow (R106, R150, R154,
R155). A count that takes P back beyond the backlash from the furthest position, with nothing else due, is a REVERSAL
fault; F and every next window stay (R154, R162). -/
def Obligations.QuietCountAndReversal : Prop :=
  (∀ (s : State) (c : Course) (r : StrokeRecord) (a b : Bool) (p : Nat), s.knits c r → c.direction = r.direction →
    s.countsTo a b p → (∀ h : Head, s.headQuiet r p h) → (∀ e ∈ s.image.plan, s.entryQuiet r p e) →
    r.within s.geo.record.backlash p →
    ∃ t, exec (.encoderTransition a b) s = .next t ∧
      t.heads = { s.heads with stroke := some { r with furthest := r.reach p } } ∧
      (∀ k : Carrier, t.carriers[k] = s.followed r.direction p k) ∧
      t.sameBut (s.moved a b p) [.heads, .carriers, .retained]) ∧
  (∀ (s : State) (c : Course) (r : StrokeRecord) (a b : Bool) (p : Nat), s.knits c r → c.direction = r.direction →
    s.countsTo a b p → (∀ h : Head, s.headQuiet r p h) → (∀ e ∈ s.image.plan, s.entryQuiet r p e) →
    (match r.direction with
      | .l2r => (p : Int) < r.finish ∧ (p : Int) < r.furthest - s.geo.record.backlash
      | .r2l => r.finish < (p : Int) ∧ r.furthest + s.geo.record.backlash < p) →
    ∃ t f, exec (.encoderTransition a b) s = .next t ∧ t.headIs .faulted = true ∧ t.stops.latch = true ∧
      t.stops.faultRecord = some f ∧ f.reason = .reversal ∧ f.tag = c.tag ∧ f.count = p ∧ f.next = r.next ∧
      t.heads.stroke = some r)

/-- A count that brings one head alone to its next window makes one selection event: the action is the list entry at
the needle of that window, MISS where the window names no needle; the head's next window moves on by one in the
direction of travel; an action other than MISS is put on the head's lines, line 0 carrying bit 0 of its code, line 1
bit 1 and line 2 bit 2, and its pulse runs. Every other head stays (R150, R151, R152, R103, R181, "Pins and electrical
notes"). -/
def Obligations.SelectionEvent : Prop :=
  ∀ (s : State) (c : Course) (r : StrokeRecord) (a b : Bool) (p : Nat) (h : Head), s.knits c r →
    c.direction = r.direction → s.countsTo a b p →
    headIndex s.geo.record h r.direction s.pos.count ≠ r.next[h] → headIndex s.geo.record h r.direction p = r.next[h] →
    (∀ h' : Head, h' ≠ h → s.headQuiet r p h') → (∀ e ∈ s.image.plan, s.entryQuiet r p e) →
    r.within s.geo.record.backlash p →
    let i : Int := if h.val % 2 = 0 then r.next[h] else r.next[h] - s.pos.racking
    let action : Action :=
      if 0 ≤ i ∧ i < s.geo.record.bedNeedles then Store.read .miss s.image.lists[h] i.toNat else .miss
    action = .miss ∨ s.heads.pulses[h] = false →
    ∃ t r', exec (.encoderTransition a b) s = .next t ∧ t.heads.stroke = some r' ∧
      r'.direction = r.direction ∧ r'.finish = r.finish ∧ r'.furthest = r.reach p ∧
      (∀ h' : Head, r'.next[h'] = if h' = h then r.next[h] + r.direction.sign else r.next[h']) ∧
      (∀ h' : Head, t.heads.lines[h'] = if h' = h ∧ action ≠ .miss then action else s.heads.lines[h']) ∧
      (∀ h' : Head, t.headLines h' = if h' = h ∧ action ≠ .miss then action.pins else s.headLines h') ∧
      (∀ h' : Head, t.heads.pulses[h'] = if h' = h ∧ action ≠ .miss then true else s.heads.pulses[h']) ∧
      (∀ k : Carrier, t.carriers[k] = s.followed r.direction p k) ∧
      t.sameBut (s.moved a b p) [.heads, .carriers, .retained]

/-- A selection other than MISS on a head whose pulse is running is an OVERSPEED fault naming the head: it is not
issued and the head's next window stays. A count that brings that head alone to its next window takes the fault: the
course is FAULTED, the fault record holds P, the head and every next window, every head's lines are at rest, carriers
that were ENGAGED are HELD where the catcher stands, the latch and FAULT on both ports are set (R153, R162, R163,
R164). The pulse of a head ends: its lines return to rest and it no longer runs; without a running pulse nothing
changes (log 6) (R152). -/
def Obligations.PulsesAndOverspeed : Prop :=
  ((∀ (s : State) (c : Course) (r : StrokeRecord) (h : Head), s.knits c r → s.heads.pulses[h] = true →
    s.actionAt h r.next[h] ≠ .miss →
    s.select h = s.strokeFault .overspeed none (some h) ∧
      ∃ f, (s.select h).stops.faultRecord = some f ∧ f.head = some h ∧ f.next = r.next ∧ f.resumable = false) ∧
  ∀ (s : State) (c : Course) (cs : List Course) (r : StrokeRecord) (a b : Bool) (p : Nat) (h : Head), s.knits c r →
    s.queue.courses = c :: cs → c.direction = r.direction → s.countsTo a b p →
    headIndex s.geo.record h r.direction s.pos.count ≠ r.next[h] → headIndex s.geo.record h r.direction p = r.next[h] →
    (∀ h' : Head, h' ≠ h → s.headQuiet r p h') → (∀ e ∈ s.image.plan, s.entryQuiet r p e) →
    r.within s.geo.record.backlash p →
    let i : Int := if h.val % 2 = 0 then r.next[h] else r.next[h] - s.pos.racking
    0 ≤ i → i < s.geo.record.bedNeedles → Store.read .miss s.image.lists[h] i.toNat ≠ .miss → s.heads.pulses[h] = true →
    ∃ t, exec (.encoderTransition a b) s = .next t ∧
      t.queue = { s.queue with courses := { c with state := .faulted, lastFault := some .overspeed } :: cs } ∧
      t.stops = { s.stops with
        latch := true, faultRecord := some ⟨c.tag, .overspeed, none, some h, p, r.next, false⟩ } ∧
      t.heads.stroke = some { r with furthest := r.reach p } ∧
      (∀ h' : Head, t.headLines h' = (false, false, false) ∧ t.heads.pulses[h'] = false) ∧
      (∀ k : Carrier, t.carriers[k] = match (s.followed r.direction p k).status with
        | .engaged x => ⟨.held x, s.carriers[k].rail⟩
        | _ => s.followed r.direction p k) ∧
      t.patternReasons = { s.patternReasons with fault := true } ∧
      t.driveReasons = { s.driveReasons with fault := true } ∧
      t.sameBut (s.moved a b p) [.queue, .stops, .heads, .carriers, .retained, .patternReasons, .driveReasons,
        .reasonCounts, .freeIndex]) ∧
  (∀ (s : State) (h : Head),
    (s.heads.pulses[h] = true → ∃ t, exec (.pulseEnd h) s = .next t ∧ t.heads.stroke = s.heads.stroke ∧
      (∀ h' : Head, t.heads.lines[h'] = if h' = h then .miss else s.heads.lines[h']) ∧
      (∀ h' : Head, t.headLines h' = if h' = h then (false, false, false) else s.headLines h') ∧
      (∀ h' : Head, t.heads.pulses[h'] = if h' = h then false else s.heads.pulses[h']) ∧ t.sameBut s [.heads]) ∧
    (s.heads.pulses[h] = false → exec (.pulseEnd h) s = .next s))

/-- A catch lowers the catcher of the carrier's rail and makes the carrier ENGAGED at the catcher index, brought to
the nearer end of -32..N+31; a carrier whose sensor already reports a break faults the stroke with YARN_BREAK. A
release raises the catcher, leaves the carrier PARKED at q on its rail and adds the pair to the course's list. An
entry is caught only while AWAITING CATCH with its carrier PARKED, as the index enters p - d, and released only while
CARRYING with its carrier ENGAGED, as it enters q. That the position at the catch is brought to the nearer end of the
range is the model's reading of R106 (DEDUCED, log 22) (R74, R106, R120, R121, R122). A count that brings the catch of
one plan entry alone due lowers the catcher of its carrier's rail, so that its CATCH line is high, makes the carrier
ENGAGED at the catcher index (brought to the nearer end of -32..N+31, DEDUCED, log 22) and the entry CARRYING; if the
carrier's sensor reports a break, the course is FAULTED with YARN_BREAK and the carrier HELD. A count that brings the
release of one plan entry alone due raises the catcher, so that the line is low, leaves the carrier PARKED at q, makes
the entry LEFT and adds the pair to the course's list (R74, R106, R120, R121, R122, "Pins and electrical notes"). -/
def Obligations.CatchAndRelease : Prop :=
  (∀ (s : State) (c : Course) (cs : List Course) (d : Direction) (c0 c1 : Int) (e : PlanEntry),
    s.queue.courses = c :: cs → c.state = .knitting →
    (e.progress = .awaitingCatch → (∃ p, s.carriers[e.carrier].status = .parked p) → c0 ≠ c1 → c1 = e.pickup - d.sign →
      ∃ t, catcherEvent d c0 c1 e s = ({ e with progress := .carrying },
          if s.pins.yarn[e.carrier] = true then t.strokeFault .yarnBreak (some e.carrier) none else t) ∧
        (∀ r : Rail, t.catchers[r] = if r = s.railOf e.carrier then true else s.catchers[r]) ∧
        (∀ k : Carrier, t.carriers[k] = if k = e.carrier
          then ⟨.engaged (max (-32) (min ((s.geo.record.bedNeedles : Int) + 31) c1)), s.carriers[k].rail⟩
          else s.carriers[k]) ∧
        t.sameBut s [.catchers, .carriers, .retained]) ∧
    (e.progress = .carrying → s.carriers[e.carrier].isEngaged = true → c0 ≠ c1 → c1 = e.release →
      ∃ t, catcherEvent d c0 c1 e s = ({ e with progress := .left }, t) ∧
        (∀ r : Rail, t.catchers[r] = if r = s.railOf e.carrier then false else s.catchers[r]) ∧
        (∀ k : Carrier, t.carriers[k] = if k = e.carrier then ⟨.parked e.release, s.railOf k⟩ else s.carriers[k]) ∧
        t.queue = { s.queue with courses := { c with parked := c.parked ++ [(e.carrier, e.release)] } :: cs } ∧
        t.sameBut s [.catchers, .carriers, .retained, .queue]) ∧
    (e.progress = .left ∨ c0 = c1 ∨
        (e.progress = .awaitingCatch ∧ (c1 ≠ e.pickup - d.sign ∨ s.carriers[e.carrier].parkedAt = none)) ∨
        (e.progress = .carrying ∧ (c1 ≠ e.release ∨ s.carriers[e.carrier].isEngaged = false)) →
      catcherEvent d c0 c1 e s = (e, s))) ∧
  (∀ (s : State) (c : Course) (cs : List Course) (r : StrokeRecord) (a b : Bool) (p : Nat) (e : PlanEntry)
      (pre post : List PlanEntry), s.knits c r → s.queue.courses = c :: cs → c.direction = r.direction →
    s.countsTo a b p → (∀ h : Head, s.headQuiet r p h) → s.image.plan = pre ++ e :: post →
    (∀ f ∈ pre ++ post, s.entryQuiet r p f) → r.within s.geo.record.backlash p →
    let index : Int := catcherIndex s.geo.record r.direction p
    let there : Int := max (-32) (min ((s.geo.record.bedNeedles : Int) + 31) index)
    catcherIndex s.geo.record r.direction s.pos.count ≠ index →
    (e.progress = .awaitingCatch → (∃ x, s.carriers[e.carrier].status = .parked x) →
      index = e.pickup - r.direction.sign →
      ∃ t, exec (.encoderTransition a b) s = .next t ∧
        (∀ rail : Rail, t.catchLine rail = if rail = s.railOf e.carrier then true else s.catchLine rail) ∧
        t.image = { s.image with plan := pre ++ { e with progress := .carrying } :: post } ∧
        t.heads.stroke = some { r with furthest := r.reach p } ∧
        (s.pins.yarn[e.carrier] = false →
          t.heads = { s.heads with stroke := some { r with furthest := r.reach p } } ∧
          t.carriers[e.carrier] = ⟨.engaged there, s.carriers[e.carrier].rail⟩ ∧
          (∀ k : Carrier, k ≠ e.carrier → t.carriers[k] = s.followed r.direction p k) ∧
          t.sameBut (s.moved a b p) [.catchers, .image, .heads, .carriers, .retained]) ∧
        (s.pins.yarn[e.carrier] = true →
          (∀ h : Head, t.headLines h = (false, false, false) ∧ t.heads.pulses[h] = false) ∧
          t.carriers[e.carrier] = ⟨.held there, s.carriers[e.carrier].rail⟩ ∧
          (∀ k : Carrier, k ≠ e.carrier → t.carriers[k] = match (s.followed r.direction p k).status with
            | .engaged x => ⟨.held x, s.carriers[k].rail⟩
            | _ => s.followed r.direction p k) ∧
          t.queue = { s.queue with courses := { c with state := .faulted, lastFault := some .yarnBreak } :: cs } ∧
          t.stops = { s.stops with
            latch := true, faultRecord := some ⟨c.tag, .yarnBreak, some e.carrier, none, p, r.next, true⟩ } ∧
          t.sameBut (s.moved a b p) [.catchers, .image, .heads, .carriers, .retained, .queue, .stops, .patternReasons,
            .driveReasons, .reasonCounts, .freeIndex])) ∧
    (e.progress = .carrying → s.carriers[e.carrier].isEngaged = true → index = e.release →
      ∃ t, exec (.encoderTransition a b) s = .next t ∧
        (∀ rail : Rail, t.catchLine rail = if rail = s.railOf e.carrier then false else s.catchLine rail) ∧
        t.image = { s.image with plan := pre ++ { e with progress := .left } :: post } ∧
        t.heads = { s.heads with stroke := some { r with furthest := r.reach p } } ∧
        t.carriers[e.carrier] = ⟨.parked e.release, s.railOf e.carrier⟩ ∧
        (∀ k : Carrier, k ≠ e.carrier → t.carriers[k] = s.followed r.direction p k) ∧
        t.queue = { s.queue with courses := { c with parked := c.parked ++ [(e.carrier, e.release)] } :: cs } ∧
        t.sameBut (s.moved a b p) [.catchers, .image, .heads, .carriers, .retained, .queue]))

/-- A count that brings P to the end point and nothing else due completes the stroke: the carriers still carried are
left at their release points, the course retires as DONE with its completion record and no fault reason, its locks,
image and stroke record go, COMPLETION_WAITING and STROKE_DONE are set (R72, R73, R155, R156). -/
def Obligations.StrokeCompletes : Prop :=
  ∀ (s : State) (c : Course) (cs : List Course) (r : StrokeRecord) (g : GrantSummary) (a b : Bool) (p : Nat), s.knits c r →
    s.queue.courses = c :: cs → c.direction = r.direction → c.grant = some g →
    s.countsTo a b p → (∀ h : Head, s.headQuiet r p h) → (∀ e ∈ s.image.plan, s.entryQuiet r p e) →
    (match r.direction with
      | .l2r => r.finish ≤ p ∧ r.furthest - s.geo.record.backlash ≤ p
      | .r2l => (p : Int) ≤ r.finish ∧ (p : Int) ≤ r.furthest + s.geo.record.backlash) →
    ∃ t, exec (.encoderTransition a b) s = .next t ∧
      t.queue = { s.queue with
        courses := cs
        completions := s.queue.completions ++ [⟨c.tag, .done, none, c.resolved, g.left, g.right, g.speed,
          c.parked ++ (s.image.plan.filter fun e => decide (e.progress = .carrying)).map fun e => (e.carrier, e.release)⟩] } ∧
      t.mem = ⟨s.mem.cells, []⟩ ∧ t.tech = ⟨s.tech.tables, []⟩ ∧ t.image = .cleared ∧
      t.heads = { s.heads with stroke := none } ∧
      t.patternReasons = { s.patternReasons with completionWaiting := true } ∧
      t.driveReasons = { s.driveReasons with strokeDone := true } ∧
      t.reasonCounts = { s.reasonCounts with strokeDone := s.reasonCounts.strokeDone + 1 } ∧
      (∀ k : Carrier, (∀ e ∈ s.image.plan, e.progress = .carrying → e.carrier ≠ k) →
        t.carriers[k] = s.followed r.direction p k) ∧
      (∀ e ∈ s.image.plan, e.progress = .carrying →
        (∀ f ∈ s.image.plan, f.progress = .carrying → s.railOf f.carrier = s.railOf e.carrier → f = e) →
        t.carriers[e.carrier] = ⟨.parked e.release, s.railOf e.carrier⟩ ∧ t.catchers[s.railOf e.carrier] = false) ∧
      t.sameBut (s.moved a b p) [.queue, .mem, .tech, .image, .heads, .patternReasons, .driveReasons, .reasonCounts, .carriers,
        .catchers, .retained]

/-! ## Stops, faults and resumption -/

/-- A stroke fault on a KNITTING head course: its lines and pulses end, ENGAGED carriers become HELD where they are,
the course is FAULTED with the reason as its last, the fault record is written, the stop latch and FAULT on both ports
are set; the stroke record, the image, the locks and the catchers stay. In any other state of the head course a fault
cause raises no fault (R162, R163, R164). -/
def Obligations.StrokeFaultEffects : Prop :=
  ∀ (s : State) (reason : FaultReason) (carrier : Option Carrier) (head : Option Head),
    (s.headIs .knitting = false → s.strokeFault reason carrier head = s) ∧
    ∀ (c : Course) (cs : List Course) (r : StrokeRecord), s.queue.courses = c :: cs → c.state = .knitting →
      s.heads.stroke = some r →
      ∃ t, s.strokeFault reason carrier head = t ∧
        t.heads.stroke = some r ∧ (∀ h : Head, t.heads.lines[h] = .miss ∧ t.heads.pulses[h] = false) ∧
        (∀ k : Carrier, t.carriers[k] = match s.carriers[k].status with
          | .engaged p => ⟨.held p, s.carriers[k].rail⟩
          | _ => s.carriers[k]) ∧
        t.queue = { s.queue with courses := { c with state := .faulted, lastFault := some reason } :: cs } ∧
        t.stops = { s.stops with
          latch := true
          faultRecord := some ⟨c.tag, reason, carrier, head, s.pos.count, r.next,
            decide (reason = .stopRequest ∨ reason = .yarnBreak)⟩ } ∧
        t.patternReasons = { s.patternReasons with fault := true } ∧
        t.driveReasons = { s.driveReasons with fault := true } ∧
        t.reasonCounts = { s.reasonCounts with fault := s.reasonCounts.fault + 1 } ∧
        (∃ l, t.retained = { s.retained with writes := s.retained.writes ++ l }) ∧
        t.sameBut s [.heads, .carriers, .queue, .stops, .patternReasons, .driveReasons, .reasonCounts, .retained]

/-- STOP_IN sets the stop latch when it is asserted, faults a KNITTING course with STOP_REQUEST and is noted by an
ARMING one; its release changes only the input. CLEAR_STOP clears the latch, unless STOP_IN is asserted or a HELD
carrier's sensor reports a break, when it is refused with STOPPED. While RESET is asserted the latch follows the
input. That an assertion of an input already asserted is no event is the model's (DESIGN CHOICE, log 6), and so is
what the inputs do without power (log 18) (R134, R159, R160, R161, R180). A yarn sensor that begins to report a break
faults a KNITTING course with YARN_BREAK naming the carrier if the carrier is ENGAGED; any other carrier's sensor, and
the end of a break, changes only the input; so does, by the model's choice, a report of a break that is reported
already (log 6) or comes without power (log 18) (R122, R162). -/
def Obligations.StopLatchAndYarn : Prop :=
  (∀ s : State,
    (s.phase = .running → s.pins.stopIn = false →
      (s.headIs .arming = false → s.headIs .knitting = false → exec .stopInAssertion s =
        .next ((s.withPins { s.pins with stopIn := true }).withStops { s.stops with latch := true })) ∧
      (s.headIs .arming = true → exec .stopInAssertion s =
        .next (((s.withPins { s.pins with stopIn := true }).withStops { s.stops with latch := true }).withArm
          { s.arm with stopSeen := true })) ∧
      (s.headIs .knitting = true → exec .stopInAssertion s =
        .next (((s.withPins { s.pins with stopIn := true }).withStops { s.stops with latch := true }).strokeFault
          .stopRequest none none))) ∧
    (s.phase = .held → s.pins.stopIn = false → exec .stopInAssertion s =
      .next ((s.withPins { s.pins with stopIn := true }).withStops { s.stops with latch := true })) ∧
    (s.phase = .startUp ∨ s.phase = .off → s.pins.stopIn = false → exec .stopInAssertion s =
      .next (s.withPins { s.pins with stopIn := true })) ∧
    (s.pins.stopIn = true → exec .stopInAssertion s = .next s) ∧
    (s.phase ≠ .held → exec .stopInRelease s = .next (s.withPins { s.pins with stopIn := false })) ∧
    (s.phase = .held → exec .stopInRelease s =
      .next ((s.withPins { s.pins with stopIn := false }).withStops { s.stops with latch := false })) ∧
    (s.open → s.pins.stopIn = false → (∀ k : Carrier, s.carriers[k].isHeld = true → s.pins.yarn[k] = false) →
      exec (.clearStop .fits) s = .next ((s.withStops { s.stops with latch := false }).withDrivePort
        ⟨.ok, none, [s.drivePort.lastResult.code]⟩)) ∧
    (s.open → (s.pins.stopIn = true ∨ ∃ k : Carrier, s.carriers[k].isHeld = true ∧ s.pins.yarn[k] = true) →
      exec (.clearStop .fits) s = .next (s.withDrivePort ⟨.stopped, none, [s.drivePort.lastResult.code]⟩))) ∧
  (∀ (s : State) (k : Carrier),
    (∃ v : Vector Bool 16, (∀ j : Carrier, v[j] = if j = k then true else s.pins.yarn[j]) ∧
      exec (.yarnSensorBreak k) s = .next (
        if s.pins.yarn[k] = false ∧ s.carriers[k].isEngaged = true
        then (s.withPins { s.pins with yarn := v }).strokeFault .yarnBreak (some k) none
        else s.withPins { s.pins with yarn := v })) ∧
    ∃ v : Vector Bool 16, (∀ j : Carrier, v[j] = if j = k then false else s.pins.yarn[j]) ∧
      exec (.yarnSensorBreakEnd k) s = .next (s.withPins { s.pins with yarn := v }))

/-- RESUME_STROKE on a FAULTED head course is decided by the checks in their order; where all hold, the course is
KNITTING again with its HELD carriers ENGAGED at the catcher index, F at P and homing no longer armed, a carrier with
a broken yarn faults it again (which of several is free, log 12), and a P at the end point completes the stroke. That
the engaged position is brought to the nearer end of -32..N+31 is the model's reading of R106 (DEDUCED, log 22). A
head course that is not FAULTED is answered NOT_NOW (R166, R167, R122, R123). -/
def Obligations.ResumeStroke : Prop :=
  (∀ s : State, s.open → s.headIs .faulted = false → exec (.resumeStroke .fits) s =
    .next (s.withDrivePort ⟨.notNow, none, [s.drivePort.lastResult.code]⟩)) ∧
  ∀ (s : State) (c : Course) (cs : List Course) (f : FaultRecord) (r : StrokeRecord) (g : GrantRecord), s.open →
    s.queue.courses = c :: cs → c.state = .faulted → s.stops.faultRecord = some f → s.heads.stroke = some r →
    s.arm.outcome = some (.grant g) →
    let behind (x y : Int) : Prop := match r.direction with | .l2r => x < y | .r2l => y < x
    let index : Int := catcherIndex s.geo.record r.direction s.pos.count
    let clear : Prop := (∀ h : Head, behind (headIndex s.geo.record h r.direction s.pos.count) r.next[h]) ∧
      ∀ e ∈ s.image.plan, (e.progress = .awaitingCatch → behind index (e.pickup - r.direction.sign)) ∧
        (e.progress = .carrying → behind index e.release)
    let answer (code : ResultCode) : Prop := exec (.resumeStroke .fits) s =
      .next (s.withDrivePort ⟨code, none, [s.drivePort.lastResult.code]⟩)
    (f.reason ≠ .stopRequest → f.reason ≠ .yarnBreak → answer .notNow) ∧
    (f.reason = .stopRequest ∨ f.reason = .yarnBreak →
      (s.stops.latch = true → answer .stopped) ∧
      (s.stops.latch = false → s.pos.valid = false → answer .notHomed) ∧
      (s.stops.latch = false → s.pos.valid = true → s.supply ≠ .on ∨ s.pos.racking ≠ c.racking → answer .notNow) ∧
      (s.stops.latch = false → s.pos.valid = true → s.supply = .on → s.pos.racking = c.racking →
        ((s.pos.count : Int) < min g.start g.finish ∨ max g.start g.finish < s.pos.count ∨ ¬ clear → answer .wrongSide) ∧
        (min g.start g.finish ≤ s.pos.count → (s.pos.count : Int) ≤ max g.start g.finish → clear →
          ∃ u : State, u.queue = { s.queue with courses := { c with state := .knitting } :: cs } ∧
            u.pos = { s.pos with homing := false } ∧
            u.heads = { s.heads with stroke := some { r with furthest := s.pos.count } } ∧
            (∀ k : Carrier, u.carriers[k] = match s.carriers[k].status with
              | .held _ => ⟨.engaged (s.geo.record.clampPosition index), s.carriers[k].rail⟩
              | _ => s.carriers[k]) ∧
            u.sameBut s [.queue, .pos, .heads, .carriers, .retained] ∧
            ((∀ k : Carrier, s.carriers[k].isHeld = true → s.pins.yarn[k] = false) →
              exec (.resumeStroke .fits) s =
                .next ((if (r.direction = .l2r ∧ r.finish ≤ s.pos.count) ∨ (r.direction = .r2l ∧ s.pos.count ≤ r.finish)
                  then u.completeStroke else u).withDrivePort ⟨.ok, none, [s.drivePort.lastResult.code]⟩)) ∧
            ((∃ k : Carrier, s.carriers[k].isHeld = true ∧ s.pins.yarn[k] = true) →
              ∃ k : Carrier, s.carriers[k].isHeld = true ∧ s.pins.yarn[k] = true ∧
                exec (.resumeStroke .fits) s =
                  .next (((u.withFreeIndex (s.freeIndex + 1)).strokeFault .yarnBreak (some k) none).withDrivePort
                    ⟨.ok, none, [s.drivePort.lastResult.code]⟩)))))

/-! ## Power -/

/-- An assertion of PFW while the part runs: an ARMING or ARMED course returns to QUEUED, a KNITTING one takes a
POWER_WARNING fault; in every case the stop latch is set, the supply goes to STANDBY, and a resume record with the
head course's tag and its state before the warning, its rows, the pointers, and, for a course that is FAULTED now, the
fault record, is readable and waits to be written. A release of PFW, and an assertion while the part does not run,
changes only the input. The model's own are that the record is readable from the event on (DEDUCED, log 17), that an
assertion of a PFW already asserted is no event (log 6), that an assertion while RESET is held or without power only
records the input (log 18), and that an arming cut short keeps its stop-seen note as it was (log 27) (R169, R170,
R146). -/
def Obligations.PowerFailWarning : Prop :=
  (∀ s : State, s.phase = .running → s.pins.pfw = false →
    ∃ (t : State) (x : ResumeRecord), exec .pfwAssertion s = .next t ∧ t.pins = { s.pins with pfw := true } ∧
      t.supply = .standby ∧ t.stops.latch = true ∧ t.stops.resume = some x ∧
      (∃ l, t.retained = { s.retained with writes := s.retained.writes ++ l ++ [.resume x] }) ∧
      x.pointers = s.ptrs ∧ x.fault = (if t.headIs .faulted then t.stops.faultRecord else none) ∧
      (s.queue.courses = [] → x.head = none ∧ x.rows = [] ∧ t.sameBut s [.pins, .supply, .stops, .retained]) ∧
      (s.headIs .knitting = false → t.stops = ⟨true, s.stops.faultRecord, some x⟩) ∧
      (∀ c cs, s.queue.courses = c :: cs → x.head = some (c.tag, c.state) ∧ x.rows = c.resolved ∧
        (c.state = .queued ∨ c.state = .faulted → t.sameBut s [.pins, .supply, .stops, .retained]) ∧
        (c.state = .arming ∨ c.state = .armed →
          t.queue = { s.queue with courses := { c with state := .queued } :: cs } ∧ t.mem = ⟨s.mem.cells, []⟩ ∧
          t.tech = ⟨s.tech.tables, []⟩ ∧ t.image = .cleared ∧ t.arm = { s.arm with stage := none } ∧
          t.driveReasons = { s.driveReasons with grantReady := s.driveReasons.grantReady && decide (c.state = .arming) } ∧
          t.sameBut s [.pins, .supply, .stops, .retained, .queue, .mem, .tech, .image, .arm, .driveReasons]) ∧
        (c.state = .knitting →
          t.queue = { s.queue with courses := { c with state := .faulted, lastFault := some .powerWarning } :: cs } ∧
          ∃ f, t.stops.faultRecord = some f ∧ f.reason = .powerWarning ∧ f.tag = c.tag ∧ f.resumable = false))) ∧
  (∀ s : State, s.pins.pfw = true → exec .pfwAssertion s = .next s) ∧
  (∀ s : State, s.phase ≠ .running → exec .pfwAssertion s = .next (s.withPins { s.pins with pfw := true })) ∧
  ∀ s : State, exec .pfwRelease s = .next (s.withPins { s.pins with pfw := false })

/-- RESET, and the loss of power, leave every block that no store keeps at its power-on values and the outputs at
rest; the latch follows STOP_IN while RESET is asserted. A loss of power keeps of retained memory what had been
written: a change not yet written leaves the check word bad; so does a settings write cut short. With the part off
already, or RESET asserted already, only the input changes (what is held between is the model's, log 18) (R10, R39,
R51, R62, R84, R107, R143, R158, R174, R180). -/
def Obligations.ResetAndPowerLoss : Prop :=
  let atRest (t s : State) : Prop :=
    t.geo = { s.geo with check := 0, mode := .offline, storeBusy := false, store :=
      { s.geo.store with checkGood := s.geo.store.checkGood && !s.geo.storeBusy } } ∧
    t.pos = ⟨0, false, false, 0, false, s.pins.encA, s.pins.encB⟩ ∧ t.mem = ⟨[], []⟩ ∧ t.load = ⟨0, 0, false, false⟩ ∧
    (∀ (b : Fin 8) (k : Colour), t.tech.entry b k = ⟨.miss, .miss, .all⟩) ∧ t.tech.locks = [] ∧
    (∀ p : Fin 8, t.ptrs[p] = ⟨0, 0, 511, .fixed, 1⟩) ∧ t.queue = ⟨[], [], 0, 1279, 2⟩ ∧ t.arm = .initial ∧
    t.image = .cleared ∧ t.heads = .initial ∧ (∀ r : Rail, t.catchers[r] = false) ∧ t.supply = .standby ∧
    t.patternPort = ⟨.busy, none, []⟩ ∧ t.drivePort = ⟨.busy, none, []⟩ ∧
    t.patternReasons = ⟨false, false, false, false⟩ ∧ t.driveReasons = ⟨false, false, false, false, false, false⟩
  (∀ s : State, s.phase = .running ∨ s.phase = .startUp → ∃ t, exec .resetAssertion s = .next t ∧ t.phase = .held ∧
    atRest t s ∧ t.pins = { s.pins with reset := true } ∧ t.stops = ⟨s.pins.stopIn, none, none⟩ ∧
    t.carriers = s.carriers ∧ t.retained = s.retained ∧ t.reasonCounts = s.reasonCounts ∧ t.freeIndex = s.freeIndex) ∧
  (∀ s : State, s.phase ≠ .off → ∃ t, exec .powerLoss s = .next t ∧ t.phase = .off ∧ atRest t s ∧ t.pins = s.pins ∧
    t.stops = ⟨false, none, none⟩ ∧
    t.retained = { s.retained with checkGood := s.retained.checkGood && s.retained.writes.isEmpty, writes := [] } ∧
    t.carriers = s.retained.carriers ∧ t.reasonCounts = s.reasonCounts ∧ t.freeIndex = s.freeIndex) ∧
  (∀ s : State, s.phase = .off ∨ s.phase = .held →
    exec .resetAssertion s = .next (s.withPins { s.pins with reset := true })) ∧
  (∀ s : State, s.phase = .off → exec .powerLoss s = .next s)

/-- At power-on with RESET released, and at the release of RESET, start-up begins: the geometry comes from a settings
store with a good check word, or is the defaults with SETTINGS_BLANK set; the carriers that were PARKED, are in use
and stand on the recorded rail are recovered from retained memory with a good check word, every other is UNKNOWN, and
RETAINED_LOST says which; the latch is set from STOP_IN; the resume record is recovered with RESUME_VALID. At RESET
the changes still waiting are written first (log 15), and a check word that is bad, or a noted failure of the backup
supply, counts as bad until here (log 16): both are the model's reading of R107. Power-on with RESET asserted holds
the part; POWER_ON with power on and RESET_RELEASE with RESET not held are no events (log 6) (R11, R108, R159, R171,
R180). When start-up ends the recovered contents are in retained memory, the part takes frames, and a PFW or a STOP_IN
asserted then is taken; with neither nothing else changes. Without a start-up in progress the event changes nothing
(log 6). A failure of the backup supply is noted for the next start-up (DEDUCED, log 16) (R107, R108, R159, R169,
R180). -/
def Obligations.StartUp : Prop :=
  (let startsUp (s t : State) : Prop :=
    t.phase = .startUp ∧
    t.geo = {
      record := if s.geo.store.checkGood && !s.geo.storeBusy then s.geo.store.record else Geometry.defaults
      check := 0, mode := .offline, storeBusy := false
      settingsBlank := !(s.geo.store.checkGood && !s.geo.storeBusy)
      store := { s.geo.store with checkGood := s.geo.store.checkGood && !s.geo.storeBusy } } ∧
    t.retained.lost = !(s.retained.flush.checkGood && !s.retained.backupFailed) ∧
    (∀ k : Carrier, t.carriers[k] =
      if s.retained.flush.checkGood = true ∧ s.retained.backupFailed = false ∧ k.val < t.geo.record.carriers ∧
          s.retained.flush.carriers[k].parkedAt.isSome = true ∧
          s.retained.flush.carriers[k].rail = t.geo.record.carrierRail[k]
      then s.retained.flush.carriers[k] else ⟨.unknown, s.retained.flush.carriers[k].rail⟩) ∧
    t.stops = ⟨s.pins.stopIn, none,
      if s.retained.flush.checkGood && !s.retained.backupFailed then s.retained.flush.resume else none⟩ ∧
    t.patternReasons = ⟨false, false, false, t.stops.resume.isSome⟩ ∧ t.queue = ⟨[], [], 0, 1279, 2⟩ ∧
    t.pos = ⟨0, false, false, 0, false, s.pins.encA, s.pins.encB⟩ ∧ t.mem = ⟨[], []⟩
  (∀ s : State, s.phase = .off → s.pins.reset = false → ∃ t, exec .powerOn s = .next t ∧ startsUp s t ∧ t.pins = s.pins) ∧
  (∀ s : State, s.phase = .held → ∃ t, exec .resetRelease s = .next t ∧ startsUp s t ∧
    t.pins = { s.pins with reset := false }) ∧
  (∀ s : State, s.phase = .off → s.pins.reset = true → ∃ t, exec .powerOn s = .next t ∧ t.phase = .held ∧
    t.stops = ⟨s.pins.stopIn, none, none⟩ ∧ t.queue = ⟨[], [], 0, 1279, 2⟩ ∧ t.pins = s.pins) ∧
  (∀ s : State, s.phase ≠ .off → exec .powerOn s = .next s) ∧
  (∀ s : State, s.phase ≠ .held → exec .resetRelease s = .next (s.withPins { s.pins with reset := false }))) ∧
  ((∀ s : State, s.phase = .startUp → s.pins.pfw = false → s.pins.stopIn = false →
    exec .startUpEnd s = .next ((s.withRetained s.retained.flush).withPhase .running)) ∧
  (∀ s : State, s.phase = .startUp → s.queue.courses = [] → s.pins.pfw = false → s.pins.stopIn = true →
    exec .startUpEnd s = .next (((s.withRetained s.retained.flush).withPhase .running).withStops
      { s.stops with latch := true })) ∧
  (∀ s : State, s.phase = .startUp → s.queue.courses = [] → s.pins.pfw = true → ∃ t, exec .startUpEnd s = .next t ∧
    t.phase = .running ∧ t.supply = .standby ∧ t.stops.latch = true ∧
    t.stops.resume = some ⟨none, [], none, s.ptrs⟩ ∧
    t.retained = { s.retained.flush with writes := [.resume ⟨none, [], none, s.ptrs⟩] } ∧
    t.sameBut s [.phase, .supply, .stops, .retained]) ∧
  (∀ s : State, s.phase ≠ .startUp → exec .startUpEnd s = .next s) ∧
  ∀ s : State, exec .backupSupplyFailure s = .next (s.withRetained { s.retained with backupFailed := true }))

/-! ## Invariants -/

/-- Every step keeps the pattern memory in its one form with the load cursor at a cell or at the end, every pointer in
its band, and P, the racking, the drive cap and both geometry records in their ranges (R1, R12, R14, R18, R24, R52,
R133). -/
def Obligations.StepsKeepRanges : Prop :=
  ∀ s t : State, step s = .next t →
    (s.memoryOk → t.memoryOk) ∧ (s.pointersOk → t.pointersOk) ∧ (s.rangesOk → t.rangesOk)

/-- Every step keeps at most sixteen slots in use, every course behind the head QUEUED, COMPLETION_WAITING pending
exactly while a record waits, and the want level within 0..15 (R68, R69, R79, R81). -/
def Obligations.StepsKeepQueue : Prop :=
  ∀ s t : State, step s = .next t → s.queueOk → t.queueOk

/-- Every step keeps what a course past QUEUED rests on: READY and the racking it needs; the supply ON while ARMING,
ARMED or KNITTING; P_VALID while ARMED or KNITTING; the stop latch clear while KNITTING. Locks and image belong to a
head course past QUEUED, the engine works exactly while it is ARMING, and the stroke record stands exactly while it is
KNITTING or FAULTED (R7, R17, R18, R25, R49, R87, R125, R146, R147, R163). -/
def Obligations.StepsKeepStrokeConditions : Prop :=
  ∀ s t : State, step s = .next t → (s.strokeOk → t.strokeOk) ∧ (s.strokeOk → s.locksOk → t.locksOk)

/-- Every step keeps the carrier table and the catchers in agreement with the head course and its plan: a carrier is
ENGAGED only while KNITTING and HELD only while FAULTED, the attached carriers are those the plan is CARRYING, one a
rail at most, and a catcher is lowered exactly while a carrier of its rail is attached; carriers out of use are
UNKNOWN. Every step keeps the PARKED carriers of a rail at positions of their own: with what makes that so, the
retained contents likewise apart and the release point of every plan entry not yet LEFT free on its rail (R105, R107,
R108, R110, R111, R114, R118, R119, R121, R123). -/
def Obligations.StepsKeepCarriers : Prop :=
  ∀ s t : State, step s = .next t → (s.carriersOk → t.carriersOk) ∧ (s.parkedOk → t.parkedOk)

/-- Every step keeps the stop latch set while STOP_IN is asserted, a head's lines at rest exactly while its pulse does
not run, and the carrier table equal to what retained memory will hold (R107, R152, R159, R160, R180). -/
def Obligations.StepsKeepOutputs : Prop :=
  ∀ s t : State, step s = .next t →
    (s.latchOk → t.latchOk) ∧ (s.linesOk → t.linesOk) ∧ (s.retainedOk → t.retainedOk)

/-- The state after reset, whose contents of the stores are the model's choice (log 3, log 4), meets every one of the
invariants. -/
def Obligations.ResetMeetsInvariants : Prop :=
  let s := State.reset
  s.memoryOk ∧ s.pointersOk ∧ s.rangesOk ∧ s.queueOk ∧ s.strokeOk ∧ s.locksOk ∧ s.carriersOk ∧ s.latchOk ∧ s.linesOk ∧
    s.retainedOk ∧ s.parkedOk

/-- In one step the head of the queue passes only between the states of R70's table, a course that has entered
KNITTING never returns to QUEUED, and only BEGIN_STROKE and RESUME_STROKE make a course KNITTING (R69, R70). -/
def Obligations.CoursePassages : Prop :=
  ∀ (c : Instr) (s t : State), s.tailQueued → exec c s = .next t →
    passage (s.head?.map Course.state) (t.head?.map Course.state) ∧
    (s.headIs .knitting = false → t.headIs .knitting = true → c = .beginStroke .fits ∨ c = .resumeStroke .fits) ∧
    (s.headIs .knitting = true ∨ s.headIs .faulted = true →
      t.queue.courses = s.queue.courses.tail ∨ t.queue.courses = [] ∨ t.headIs .knitting = true ∨
        t.headIs .faulted = true)
end

