-- ==== Sys2Proof/Laws/State.lean ====
section
/-! SUPPORT. Each block after the replacement of one block: the replaced one is the new one, every other is as it was. -/

namespace Sys2Proof.Machine

variable (s : State)

@[simp] theorem State.withPhase_phase (x : Phase) : (s.withPhase x).phase = x := rfl
@[simp] theorem State.withPhase_pins (x : Phase) : (s.withPhase x).pins = s.pins := rfl
@[simp] theorem State.withPhase_geo (x : Phase) : (s.withPhase x).geo = s.geo := rfl
@[simp] theorem State.withPhase_pos (x : Phase) : (s.withPhase x).pos = s.pos := rfl
@[simp] theorem State.withPhase_mem (x : Phase) : (s.withPhase x).mem = s.mem := rfl
@[simp] theorem State.withPhase_load (x : Phase) : (s.withPhase x).load = s.load := rfl
@[simp] theorem State.withPhase_tech (x : Phase) : (s.withPhase x).tech = s.tech := rfl
@[simp] theorem State.withPhase_ptrs (x : Phase) : (s.withPhase x).ptrs = s.ptrs := rfl
@[simp] theorem State.withPhase_queue (x : Phase) : (s.withPhase x).queue = s.queue := rfl
@[simp] theorem State.withPhase_arm (x : Phase) : (s.withPhase x).arm = s.arm := rfl
@[simp] theorem State.withPhase_image (x : Phase) : (s.withPhase x).image = s.image := rfl
@[simp] theorem State.withPhase_heads (x : Phase) : (s.withPhase x).heads = s.heads := rfl
@[simp] theorem State.withPhase_catchers (x : Phase) : (s.withPhase x).catchers = s.catchers := rfl
@[simp] theorem State.withPhase_carriers (x : Phase) : (s.withPhase x).carriers = s.carriers := rfl
@[simp] theorem State.withPhase_retained (x : Phase) : (s.withPhase x).retained = s.retained := rfl
@[simp] theorem State.withPhase_supply (x : Phase) : (s.withPhase x).supply = s.supply := rfl
@[simp] theorem State.withPhase_stops (x : Phase) : (s.withPhase x).stops = s.stops := rfl
@[simp] theorem State.withPhase_patternPort (x : Phase) : (s.withPhase x).patternPort = s.patternPort := rfl
@[simp] theorem State.withPhase_drivePort (x : Phase) : (s.withPhase x).drivePort = s.drivePort := rfl
@[simp] theorem State.withPhase_patternReasons (x : Phase) : (s.withPhase x).patternReasons = s.patternReasons := rfl
@[simp] theorem State.withPhase_driveReasons (x : Phase) : (s.withPhase x).driveReasons = s.driveReasons := rfl
@[simp] theorem State.withPhase_reasonCounts (x : Phase) : (s.withPhase x).reasonCounts = s.reasonCounts := rfl
@[simp] theorem State.withPhase_freeIndex (x : Phase) : (s.withPhase x).freeIndex = s.freeIndex := rfl
@[simp] theorem State.withPhase_pending (x : Phase) : (s.withPhase x).pending = s.pending := rfl
@[simp] theorem State.withPins_phase (x : Pins) : (s.withPins x).phase = s.phase := rfl
@[simp] theorem State.withPins_pins (x : Pins) : (s.withPins x).pins = x := rfl
@[simp] theorem State.withPins_geo (x : Pins) : (s.withPins x).geo = s.geo := rfl
@[simp] theorem State.withPins_pos (x : Pins) : (s.withPins x).pos = s.pos := rfl
@[simp] theorem State.withPins_mem (x : Pins) : (s.withPins x).mem = s.mem := rfl
@[simp] theorem State.withPins_load (x : Pins) : (s.withPins x).load = s.load := rfl
@[simp] theorem State.withPins_tech (x : Pins) : (s.withPins x).tech = s.tech := rfl
@[simp] theorem State.withPins_ptrs (x : Pins) : (s.withPins x).ptrs = s.ptrs := rfl
@[simp] theorem State.withPins_queue (x : Pins) : (s.withPins x).queue = s.queue := rfl
@[simp] theorem State.withPins_arm (x : Pins) : (s.withPins x).arm = s.arm := rfl
@[simp] theorem State.withPins_image (x : Pins) : (s.withPins x).image = s.image := rfl
@[simp] theorem State.withPins_heads (x : Pins) : (s.withPins x).heads = s.heads := rfl
@[simp] theorem State.withPins_catchers (x : Pins) : (s.withPins x).catchers = s.catchers := rfl
@[simp] theorem State.withPins_carriers (x : Pins) : (s.withPins x).carriers = s.carriers := rfl
@[simp] theorem State.withPins_retained (x : Pins) : (s.withPins x).retained = s.retained := rfl
@[simp] theorem State.withPins_supply (x : Pins) : (s.withPins x).supply = s.supply := rfl
@[simp] theorem State.withPins_stops (x : Pins) : (s.withPins x).stops = s.stops := rfl
@[simp] theorem State.withPins_patternPort (x : Pins) : (s.withPins x).patternPort = s.patternPort := rfl
@[simp] theorem State.withPins_drivePort (x : Pins) : (s.withPins x).drivePort = s.drivePort := rfl
@[simp] theorem State.withPins_patternReasons (x : Pins) : (s.withPins x).patternReasons = s.patternReasons := rfl
@[simp] theorem State.withPins_driveReasons (x : Pins) : (s.withPins x).driveReasons = s.driveReasons := rfl
@[simp] theorem State.withPins_reasonCounts (x : Pins) : (s.withPins x).reasonCounts = s.reasonCounts := rfl
@[simp] theorem State.withPins_freeIndex (x : Pins) : (s.withPins x).freeIndex = s.freeIndex := rfl
@[simp] theorem State.withPins_pending (x : Pins) : (s.withPins x).pending = s.pending := rfl
@[simp] theorem State.withGeo_phase (x : GeometryBlock) : (s.withGeo x).phase = s.phase := rfl
@[simp] theorem State.withGeo_pins (x : GeometryBlock) : (s.withGeo x).pins = s.pins := rfl
@[simp] theorem State.withGeo_geo (x : GeometryBlock) : (s.withGeo x).geo = x := rfl
@[simp] theorem State.withGeo_pos (x : GeometryBlock) : (s.withGeo x).pos = s.pos := rfl
@[simp] theorem State.withGeo_mem (x : GeometryBlock) : (s.withGeo x).mem = s.mem := rfl
@[simp] theorem State.withGeo_load (x : GeometryBlock) : (s.withGeo x).load = s.load := rfl
@[simp] theorem State.withGeo_tech (x : GeometryBlock) : (s.withGeo x).tech = s.tech := rfl
@[simp] theorem State.withGeo_ptrs (x : GeometryBlock) : (s.withGeo x).ptrs = s.ptrs := rfl
@[simp] theorem State.withGeo_queue (x : GeometryBlock) : (s.withGeo x).queue = s.queue := rfl
@[simp] theorem State.withGeo_arm (x : GeometryBlock) : (s.withGeo x).arm = s.arm := rfl
@[simp] theorem State.withGeo_image (x : GeometryBlock) : (s.withGeo x).image = s.image := rfl
@[simp] theorem State.withGeo_heads (x : GeometryBlock) : (s.withGeo x).heads = s.heads := rfl
@[simp] theorem State.withGeo_catchers (x : GeometryBlock) : (s.withGeo x).catchers = s.catchers := rfl
@[simp] theorem State.withGeo_carriers (x : GeometryBlock) : (s.withGeo x).carriers = s.carriers := rfl
@[simp] theorem State.withGeo_retained (x : GeometryBlock) : (s.withGeo x).retained = s.retained := rfl
@[simp] theorem State.withGeo_supply (x : GeometryBlock) : (s.withGeo x).supply = s.supply := rfl
@[simp] theorem State.withGeo_stops (x : GeometryBlock) : (s.withGeo x).stops = s.stops := rfl
@[simp] theorem State.withGeo_patternPort (x : GeometryBlock) : (s.withGeo x).patternPort = s.patternPort := rfl
@[simp] theorem State.withGeo_drivePort (x : GeometryBlock) : (s.withGeo x).drivePort = s.drivePort := rfl
@[simp] theorem State.withGeo_patternReasons (x : GeometryBlock) : (s.withGeo x).patternReasons = s.patternReasons := rfl
@[simp] theorem State.withGeo_driveReasons (x : GeometryBlock) : (s.withGeo x).driveReasons = s.driveReasons := rfl
@[simp] theorem State.withGeo_reasonCounts (x : GeometryBlock) : (s.withGeo x).reasonCounts = s.reasonCounts := rfl
@[simp] theorem State.withGeo_freeIndex (x : GeometryBlock) : (s.withGeo x).freeIndex = s.freeIndex := rfl
@[simp] theorem State.withGeo_pending (x : GeometryBlock) : (s.withGeo x).pending = s.pending := rfl
@[simp] theorem State.withPos_phase (x : PositionCounter) : (s.withPos x).phase = s.phase := rfl
@[simp] theorem State.withPos_pins (x : PositionCounter) : (s.withPos x).pins = s.pins := rfl
@[simp] theorem State.withPos_geo (x : PositionCounter) : (s.withPos x).geo = s.geo := rfl
@[simp] theorem State.withPos_pos (x : PositionCounter) : (s.withPos x).pos = x := rfl
@[simp] theorem State.withPos_mem (x : PositionCounter) : (s.withPos x).mem = s.mem := rfl
@[simp] theorem State.withPos_load (x : PositionCounter) : (s.withPos x).load = s.load := rfl
@[simp] theorem State.withPos_tech (x : PositionCounter) : (s.withPos x).tech = s.tech := rfl
@[simp] theorem State.withPos_ptrs (x : PositionCounter) : (s.withPos x).ptrs = s.ptrs := rfl
@[simp] theorem State.withPos_queue (x : PositionCounter) : (s.withPos x).queue = s.queue := rfl
@[simp] theorem State.withPos_arm (x : PositionCounter) : (s.withPos x).arm = s.arm := rfl
@[simp] theorem State.withPos_image (x : PositionCounter) : (s.withPos x).image = s.image := rfl
@[simp] theorem State.withPos_heads (x : PositionCounter) : (s.withPos x).heads = s.heads := rfl
@[simp] theorem State.withPos_catchers (x : PositionCounter) : (s.withPos x).catchers = s.catchers := rfl
@[simp] theorem State.withPos_carriers (x : PositionCounter) : (s.withPos x).carriers = s.carriers := rfl
@[simp] theorem State.withPos_retained (x : PositionCounter) : (s.withPos x).retained = s.retained := rfl
@[simp] theorem State.withPos_supply (x : PositionCounter) : (s.withPos x).supply = s.supply := rfl
@[simp] theorem State.withPos_stops (x : PositionCounter) : (s.withPos x).stops = s.stops := rfl
@[simp] theorem State.withPos_patternPort (x : PositionCounter) : (s.withPos x).patternPort = s.patternPort := rfl
@[simp] theorem State.withPos_drivePort (x : PositionCounter) : (s.withPos x).drivePort = s.drivePort := rfl
@[simp] theorem State.withPos_patternReasons (x : PositionCounter) : (s.withPos x).patternReasons = s.patternReasons := rfl
@[simp] theorem State.withPos_driveReasons (x : PositionCounter) : (s.withPos x).driveReasons = s.driveReasons := rfl
@[simp] theorem State.withPos_reasonCounts (x : PositionCounter) : (s.withPos x).reasonCounts = s.reasonCounts := rfl
@[simp] theorem State.withPos_freeIndex (x : PositionCounter) : (s.withPos x).freeIndex = s.freeIndex := rfl
@[simp] theorem State.withPos_pending (x : PositionCounter) : (s.withPos x).pending = s.pending := rfl
@[simp] theorem State.withMem_phase (x : PatternMemory) : (s.withMem x).phase = s.phase := rfl
@[simp] theorem State.withMem_pins (x : PatternMemory) : (s.withMem x).pins = s.pins := rfl
@[simp] theorem State.withMem_geo (x : PatternMemory) : (s.withMem x).geo = s.geo := rfl
@[simp] theorem State.withMem_pos (x : PatternMemory) : (s.withMem x).pos = s.pos := rfl
@[simp] theorem State.withMem_mem (x : PatternMemory) : (s.withMem x).mem = x := rfl
@[simp] theorem State.withMem_load (x : PatternMemory) : (s.withMem x).load = s.load := rfl
@[simp] theorem State.withMem_tech (x : PatternMemory) : (s.withMem x).tech = s.tech := rfl
@[simp] theorem State.withMem_ptrs (x : PatternMemory) : (s.withMem x).ptrs = s.ptrs := rfl
@[simp] theorem State.withMem_queue (x : PatternMemory) : (s.withMem x).queue = s.queue := rfl
@[simp] theorem State.withMem_arm (x : PatternMemory) : (s.withMem x).arm = s.arm := rfl
@[simp] theorem State.withMem_image (x : PatternMemory) : (s.withMem x).image = s.image := rfl
@[simp] theorem State.withMem_heads (x : PatternMemory) : (s.withMem x).heads = s.heads := rfl
@[simp] theorem State.withMem_catchers (x : PatternMemory) : (s.withMem x).catchers = s.catchers := rfl
@[simp] theorem State.withMem_carriers (x : PatternMemory) : (s.withMem x).carriers = s.carriers := rfl
@[simp] theorem State.withMem_retained (x : PatternMemory) : (s.withMem x).retained = s.retained := rfl
@[simp] theorem State.withMem_supply (x : PatternMemory) : (s.withMem x).supply = s.supply := rfl
@[simp] theorem State.withMem_stops (x : PatternMemory) : (s.withMem x).stops = s.stops := rfl
@[simp] theorem State.withMem_patternPort (x : PatternMemory) : (s.withMem x).patternPort = s.patternPort := rfl
@[simp] theorem State.withMem_drivePort (x : PatternMemory) : (s.withMem x).drivePort = s.drivePort := rfl
@[simp] theorem State.withMem_patternReasons (x : PatternMemory) : (s.withMem x).patternReasons = s.patternReasons := rfl
@[simp] theorem State.withMem_driveReasons (x : PatternMemory) : (s.withMem x).driveReasons = s.driveReasons := rfl
@[simp] theorem State.withMem_reasonCounts (x : PatternMemory) : (s.withMem x).reasonCounts = s.reasonCounts := rfl
@[simp] theorem State.withMem_freeIndex (x : PatternMemory) : (s.withMem x).freeIndex = s.freeIndex := rfl
@[simp] theorem State.withMem_pending (x : PatternMemory) : (s.withMem x).pending = s.pending := rfl
@[simp] theorem State.withLoad_phase (x : LoadCursor) : (s.withLoad x).phase = s.phase := rfl
@[simp] theorem State.withLoad_pins (x : LoadCursor) : (s.withLoad x).pins = s.pins := rfl
@[simp] theorem State.withLoad_geo (x : LoadCursor) : (s.withLoad x).geo = s.geo := rfl
@[simp] theorem State.withLoad_pos (x : LoadCursor) : (s.withLoad x).pos = s.pos := rfl
@[simp] theorem State.withLoad_mem (x : LoadCursor) : (s.withLoad x).mem = s.mem := rfl
@[simp] theorem State.withLoad_load (x : LoadCursor) : (s.withLoad x).load = x := rfl
@[simp] theorem State.withLoad_tech (x : LoadCursor) : (s.withLoad x).tech = s.tech := rfl
@[simp] theorem State.withLoad_ptrs (x : LoadCursor) : (s.withLoad x).ptrs = s.ptrs := rfl
@[simp] theorem State.withLoad_queue (x : LoadCursor) : (s.withLoad x).queue = s.queue := rfl
@[simp] theorem State.withLoad_arm (x : LoadCursor) : (s.withLoad x).arm = s.arm := rfl
@[simp] theorem State.withLoad_image (x : LoadCursor) : (s.withLoad x).image = s.image := rfl
@[simp] theorem State.withLoad_heads (x : LoadCursor) : (s.withLoad x).heads = s.heads := rfl
@[simp] theorem State.withLoad_catchers (x : LoadCursor) : (s.withLoad x).catchers = s.catchers := rfl
@[simp] theorem State.withLoad_carriers (x : LoadCursor) : (s.withLoad x).carriers = s.carriers := rfl
@[simp] theorem State.withLoad_retained (x : LoadCursor) : (s.withLoad x).retained = s.retained := rfl
@[simp] theorem State.withLoad_supply (x : LoadCursor) : (s.withLoad x).supply = s.supply := rfl
@[simp] theorem State.withLoad_stops (x : LoadCursor) : (s.withLoad x).stops = s.stops := rfl
@[simp] theorem State.withLoad_patternPort (x : LoadCursor) : (s.withLoad x).patternPort = s.patternPort := rfl
@[simp] theorem State.withLoad_drivePort (x : LoadCursor) : (s.withLoad x).drivePort = s.drivePort := rfl
@[simp] theorem State.withLoad_patternReasons (x : LoadCursor) : (s.withLoad x).patternReasons = s.patternReasons := rfl
@[simp] theorem State.withLoad_driveReasons (x : LoadCursor) : (s.withLoad x).driveReasons = s.driveReasons := rfl
@[simp] theorem State.withLoad_reasonCounts (x : LoadCursor) : (s.withLoad x).reasonCounts = s.reasonCounts := rfl
@[simp] theorem State.withLoad_freeIndex (x : LoadCursor) : (s.withLoad x).freeIndex = s.freeIndex := rfl
@[simp] theorem State.withLoad_pending (x : LoadCursor) : (s.withLoad x).pending = s.pending := rfl
@[simp] theorem State.withTech_phase (x : TechniqueMemory) : (s.withTech x).phase = s.phase := rfl
@[simp] theorem State.withTech_pins (x : TechniqueMemory) : (s.withTech x).pins = s.pins := rfl
@[simp] theorem State.withTech_geo (x : TechniqueMemory) : (s.withTech x).geo = s.geo := rfl
@[simp] theorem State.withTech_pos (x : TechniqueMemory) : (s.withTech x).pos = s.pos := rfl
@[simp] theorem State.withTech_mem (x : TechniqueMemory) : (s.withTech x).mem = s.mem := rfl
@[simp] theorem State.withTech_load (x : TechniqueMemory) : (s.withTech x).load = s.load := rfl
@[simp] theorem State.withTech_tech (x : TechniqueMemory) : (s.withTech x).tech = x := rfl
@[simp] theorem State.withTech_ptrs (x : TechniqueMemory) : (s.withTech x).ptrs = s.ptrs := rfl
@[simp] theorem State.withTech_queue (x : TechniqueMemory) : (s.withTech x).queue = s.queue := rfl
@[simp] theorem State.withTech_arm (x : TechniqueMemory) : (s.withTech x).arm = s.arm := rfl
@[simp] theorem State.withTech_image (x : TechniqueMemory) : (s.withTech x).image = s.image := rfl
@[simp] theorem State.withTech_heads (x : TechniqueMemory) : (s.withTech x).heads = s.heads := rfl
@[simp] theorem State.withTech_catchers (x : TechniqueMemory) : (s.withTech x).catchers = s.catchers := rfl
@[simp] theorem State.withTech_carriers (x : TechniqueMemory) : (s.withTech x).carriers = s.carriers := rfl
@[simp] theorem State.withTech_retained (x : TechniqueMemory) : (s.withTech x).retained = s.retained := rfl
@[simp] theorem State.withTech_supply (x : TechniqueMemory) : (s.withTech x).supply = s.supply := rfl
@[simp] theorem State.withTech_stops (x : TechniqueMemory) : (s.withTech x).stops = s.stops := rfl
@[simp] theorem State.withTech_patternPort (x : TechniqueMemory) : (s.withTech x).patternPort = s.patternPort := rfl
@[simp] theorem State.withTech_drivePort (x : TechniqueMemory) : (s.withTech x).drivePort = s.drivePort := rfl
@[simp] theorem State.withTech_patternReasons (x : TechniqueMemory) : (s.withTech x).patternReasons = s.patternReasons := rfl
@[simp] theorem State.withTech_driveReasons (x : TechniqueMemory) : (s.withTech x).driveReasons = s.driveReasons := rfl
@[simp] theorem State.withTech_reasonCounts (x : TechniqueMemory) : (s.withTech x).reasonCounts = s.reasonCounts := rfl
@[simp] theorem State.withTech_freeIndex (x : TechniqueMemory) : (s.withTech x).freeIndex = s.freeIndex := rfl
@[simp] theorem State.withTech_pending (x : TechniqueMemory) : (s.withTech x).pending = s.pending := rfl
@[simp] theorem State.withPtrs_phase (x : Vector Pointer 8) : (s.withPtrs x).phase = s.phase := rfl
@[simp] theorem State.withPtrs_pins (x : Vector Pointer 8) : (s.withPtrs x).pins = s.pins := rfl
@[simp] theorem State.withPtrs_geo (x : Vector Pointer 8) : (s.withPtrs x).geo = s.geo := rfl
@[simp] theorem State.withPtrs_pos (x : Vector Pointer 8) : (s.withPtrs x).pos = s.pos := rfl
@[simp] theorem State.withPtrs_mem (x : Vector Pointer 8) : (s.withPtrs x).mem = s.mem := rfl
@[simp] theorem State.withPtrs_load (x : Vector Pointer 8) : (s.withPtrs x).load = s.load := rfl
@[simp] theorem State.withPtrs_tech (x : Vector Pointer 8) : (s.withPtrs x).tech = s.tech := rfl
@[simp] theorem State.withPtrs_ptrs (x : Vector Pointer 8) : (s.withPtrs x).ptrs = x := rfl
@[simp] theorem State.withPtrs_queue (x : Vector Pointer 8) : (s.withPtrs x).queue = s.queue := rfl
@[simp] theorem State.withPtrs_arm (x : Vector Pointer 8) : (s.withPtrs x).arm = s.arm := rfl
@[simp] theorem State.withPtrs_image (x : Vector Pointer 8) : (s.withPtrs x).image = s.image := rfl
@[simp] theorem State.withPtrs_heads (x : Vector Pointer 8) : (s.withPtrs x).heads = s.heads := rfl
@[simp] theorem State.withPtrs_catchers (x : Vector Pointer 8) : (s.withPtrs x).catchers = s.catchers := rfl
@[simp] theorem State.withPtrs_carriers (x : Vector Pointer 8) : (s.withPtrs x).carriers = s.carriers := rfl
@[simp] theorem State.withPtrs_retained (x : Vector Pointer 8) : (s.withPtrs x).retained = s.retained := rfl
@[simp] theorem State.withPtrs_supply (x : Vector Pointer 8) : (s.withPtrs x).supply = s.supply := rfl
@[simp] theorem State.withPtrs_stops (x : Vector Pointer 8) : (s.withPtrs x).stops = s.stops := rfl
@[simp] theorem State.withPtrs_patternPort (x : Vector Pointer 8) : (s.withPtrs x).patternPort = s.patternPort := rfl
@[simp] theorem State.withPtrs_drivePort (x : Vector Pointer 8) : (s.withPtrs x).drivePort = s.drivePort := rfl
@[simp] theorem State.withPtrs_patternReasons (x : Vector Pointer 8) : (s.withPtrs x).patternReasons = s.patternReasons := rfl
@[simp] theorem State.withPtrs_driveReasons (x : Vector Pointer 8) : (s.withPtrs x).driveReasons = s.driveReasons := rfl
@[simp] theorem State.withPtrs_reasonCounts (x : Vector Pointer 8) : (s.withPtrs x).reasonCounts = s.reasonCounts := rfl
@[simp] theorem State.withPtrs_freeIndex (x : Vector Pointer 8) : (s.withPtrs x).freeIndex = s.freeIndex := rfl
@[simp] theorem State.withPtrs_pending (x : Vector Pointer 8) : (s.withPtrs x).pending = s.pending := rfl
@[simp] theorem State.withQueue_phase (x : CourseQueue) : (s.withQueue x).phase = s.phase := rfl
@[simp] theorem State.withQueue_pins (x : CourseQueue) : (s.withQueue x).pins = s.pins := rfl
@[simp] theorem State.withQueue_geo (x : CourseQueue) : (s.withQueue x).geo = s.geo := rfl
@[simp] theorem State.withQueue_pos (x : CourseQueue) : (s.withQueue x).pos = s.pos := rfl
@[simp] theorem State.withQueue_mem (x : CourseQueue) : (s.withQueue x).mem = s.mem := rfl
@[simp] theorem State.withQueue_load (x : CourseQueue) : (s.withQueue x).load = s.load := rfl
@[simp] theorem State.withQueue_tech (x : CourseQueue) : (s.withQueue x).tech = s.tech := rfl
@[simp] theorem State.withQueue_ptrs (x : CourseQueue) : (s.withQueue x).ptrs = s.ptrs := rfl
@[simp] theorem State.withQueue_queue (x : CourseQueue) : (s.withQueue x).queue = x := rfl
@[simp] theorem State.withQueue_arm (x : CourseQueue) : (s.withQueue x).arm = s.arm := rfl
@[simp] theorem State.withQueue_image (x : CourseQueue) : (s.withQueue x).image = s.image := rfl
@[simp] theorem State.withQueue_heads (x : CourseQueue) : (s.withQueue x).heads = s.heads := rfl
@[simp] theorem State.withQueue_catchers (x : CourseQueue) : (s.withQueue x).catchers = s.catchers := rfl
@[simp] theorem State.withQueue_carriers (x : CourseQueue) : (s.withQueue x).carriers = s.carriers := rfl
@[simp] theorem State.withQueue_retained (x : CourseQueue) : (s.withQueue x).retained = s.retained := rfl
@[simp] theorem State.withQueue_supply (x : CourseQueue) : (s.withQueue x).supply = s.supply := rfl
@[simp] theorem State.withQueue_stops (x : CourseQueue) : (s.withQueue x).stops = s.stops := rfl
@[simp] theorem State.withQueue_patternPort (x : CourseQueue) : (s.withQueue x).patternPort = s.patternPort := rfl
@[simp] theorem State.withQueue_drivePort (x : CourseQueue) : (s.withQueue x).drivePort = s.drivePort := rfl
@[simp] theorem State.withQueue_patternReasons (x : CourseQueue) : (s.withQueue x).patternReasons = s.patternReasons := rfl
@[simp] theorem State.withQueue_driveReasons (x : CourseQueue) : (s.withQueue x).driveReasons = s.driveReasons := rfl
@[simp] theorem State.withQueue_reasonCounts (x : CourseQueue) : (s.withQueue x).reasonCounts = s.reasonCounts := rfl
@[simp] theorem State.withQueue_freeIndex (x : CourseQueue) : (s.withQueue x).freeIndex = s.freeIndex := rfl
@[simp] theorem State.withQueue_pending (x : CourseQueue) : (s.withQueue x).pending = s.pending := rfl
@[simp] theorem State.withArm_phase (x : ArmingEngine) : (s.withArm x).phase = s.phase := rfl
@[simp] theorem State.withArm_pins (x : ArmingEngine) : (s.withArm x).pins = s.pins := rfl
@[simp] theorem State.withArm_geo (x : ArmingEngine) : (s.withArm x).geo = s.geo := rfl
@[simp] theorem State.withArm_pos (x : ArmingEngine) : (s.withArm x).pos = s.pos := rfl
@[simp] theorem State.withArm_mem (x : ArmingEngine) : (s.withArm x).mem = s.mem := rfl
@[simp] theorem State.withArm_load (x : ArmingEngine) : (s.withArm x).load = s.load := rfl
@[simp] theorem State.withArm_tech (x : ArmingEngine) : (s.withArm x).tech = s.tech := rfl
@[simp] theorem State.withArm_ptrs (x : ArmingEngine) : (s.withArm x).ptrs = s.ptrs := rfl
@[simp] theorem State.withArm_queue (x : ArmingEngine) : (s.withArm x).queue = s.queue := rfl
@[simp] theorem State.withArm_arm (x : ArmingEngine) : (s.withArm x).arm = x := rfl
@[simp] theorem State.withArm_image (x : ArmingEngine) : (s.withArm x).image = s.image := rfl
@[simp] theorem State.withArm_heads (x : ArmingEngine) : (s.withArm x).heads = s.heads := rfl
@[simp] theorem State.withArm_catchers (x : ArmingEngine) : (s.withArm x).catchers = s.catchers := rfl
@[simp] theorem State.withArm_carriers (x : ArmingEngine) : (s.withArm x).carriers = s.carriers := rfl
@[simp] theorem State.withArm_retained (x : ArmingEngine) : (s.withArm x).retained = s.retained := rfl
@[simp] theorem State.withArm_supply (x : ArmingEngine) : (s.withArm x).supply = s.supply := rfl
@[simp] theorem State.withArm_stops (x : ArmingEngine) : (s.withArm x).stops = s.stops := rfl
@[simp] theorem State.withArm_patternPort (x : ArmingEngine) : (s.withArm x).patternPort = s.patternPort := rfl
@[simp] theorem State.withArm_drivePort (x : ArmingEngine) : (s.withArm x).drivePort = s.drivePort := rfl
@[simp] theorem State.withArm_patternReasons (x : ArmingEngine) : (s.withArm x).patternReasons = s.patternReasons := rfl
@[simp] theorem State.withArm_driveReasons (x : ArmingEngine) : (s.withArm x).driveReasons = s.driveReasons := rfl
@[simp] theorem State.withArm_reasonCounts (x : ArmingEngine) : (s.withArm x).reasonCounts = s.reasonCounts := rfl
@[simp] theorem State.withArm_freeIndex (x : ArmingEngine) : (s.withArm x).freeIndex = s.freeIndex := rfl
@[simp] theorem State.withArm_pending (x : ArmingEngine) : (s.withArm x).pending = s.pending := rfl
@[simp] theorem State.withImage_phase (x : StrokeImage) : (s.withImage x).phase = s.phase := rfl
@[simp] theorem State.withImage_pins (x : StrokeImage) : (s.withImage x).pins = s.pins := rfl
@[simp] theorem State.withImage_geo (x : StrokeImage) : (s.withImage x).geo = s.geo := rfl
@[simp] theorem State.withImage_pos (x : StrokeImage) : (s.withImage x).pos = s.pos := rfl
@[simp] theorem State.withImage_mem (x : StrokeImage) : (s.withImage x).mem = s.mem := rfl
@[simp] theorem State.withImage_load (x : StrokeImage) : (s.withImage x).load = s.load := rfl
@[simp] theorem State.withImage_tech (x : StrokeImage) : (s.withImage x).tech = s.tech := rfl
@[simp] theorem State.withImage_ptrs (x : StrokeImage) : (s.withImage x).ptrs = s.ptrs := rfl
@[simp] theorem State.withImage_queue (x : StrokeImage) : (s.withImage x).queue = s.queue := rfl
@[simp] theorem State.withImage_arm (x : StrokeImage) : (s.withImage x).arm = s.arm := rfl
@[simp] theorem State.withImage_image (x : StrokeImage) : (s.withImage x).image = x := rfl
@[simp] theorem State.withImage_heads (x : StrokeImage) : (s.withImage x).heads = s.heads := rfl
@[simp] theorem State.withImage_catchers (x : StrokeImage) : (s.withImage x).catchers = s.catchers := rfl
@[simp] theorem State.withImage_carriers (x : StrokeImage) : (s.withImage x).carriers = s.carriers := rfl
@[simp] theorem State.withImage_retained (x : StrokeImage) : (s.withImage x).retained = s.retained := rfl
@[simp] theorem State.withImage_supply (x : StrokeImage) : (s.withImage x).supply = s.supply := rfl
@[simp] theorem State.withImage_stops (x : StrokeImage) : (s.withImage x).stops = s.stops := rfl
@[simp] theorem State.withImage_patternPort (x : StrokeImage) : (s.withImage x).patternPort = s.patternPort := rfl
@[simp] theorem State.withImage_drivePort (x : StrokeImage) : (s.withImage x).drivePort = s.drivePort := rfl
@[simp] theorem State.withImage_patternReasons (x : StrokeImage) : (s.withImage x).patternReasons = s.patternReasons := rfl
@[simp] theorem State.withImage_driveReasons (x : StrokeImage) : (s.withImage x).driveReasons = s.driveReasons := rfl
@[simp] theorem State.withImage_reasonCounts (x : StrokeImage) : (s.withImage x).reasonCounts = s.reasonCounts := rfl
@[simp] theorem State.withImage_freeIndex (x : StrokeImage) : (s.withImage x).freeIndex = s.freeIndex := rfl
@[simp] theorem State.withImage_pending (x : StrokeImage) : (s.withImage x).pending = s.pending := rfl
@[simp] theorem State.withHeads_phase (x : HeadSequencers) : (s.withHeads x).phase = s.phase := rfl
@[simp] theorem State.withHeads_pins (x : HeadSequencers) : (s.withHeads x).pins = s.pins := rfl
@[simp] theorem State.withHeads_geo (x : HeadSequencers) : (s.withHeads x).geo = s.geo := rfl
@[simp] theorem State.withHeads_pos (x : HeadSequencers) : (s.withHeads x).pos = s.pos := rfl
@[simp] theorem State.withHeads_mem (x : HeadSequencers) : (s.withHeads x).mem = s.mem := rfl
@[simp] theorem State.withHeads_load (x : HeadSequencers) : (s.withHeads x).load = s.load := rfl
@[simp] theorem State.withHeads_tech (x : HeadSequencers) : (s.withHeads x).tech = s.tech := rfl
@[simp] theorem State.withHeads_ptrs (x : HeadSequencers) : (s.withHeads x).ptrs = s.ptrs := rfl
@[simp] theorem State.withHeads_queue (x : HeadSequencers) : (s.withHeads x).queue = s.queue := rfl
@[simp] theorem State.withHeads_arm (x : HeadSequencers) : (s.withHeads x).arm = s.arm := rfl
@[simp] theorem State.withHeads_image (x : HeadSequencers) : (s.withHeads x).image = s.image := rfl
@[simp] theorem State.withHeads_heads (x : HeadSequencers) : (s.withHeads x).heads = x := rfl
@[simp] theorem State.withHeads_catchers (x : HeadSequencers) : (s.withHeads x).catchers = s.catchers := rfl
@[simp] theorem State.withHeads_carriers (x : HeadSequencers) : (s.withHeads x).carriers = s.carriers := rfl
@[simp] theorem State.withHeads_retained (x : HeadSequencers) : (s.withHeads x).retained = s.retained := rfl
@[simp] theorem State.withHeads_supply (x : HeadSequencers) : (s.withHeads x).supply = s.supply := rfl
@[simp] theorem State.withHeads_stops (x : HeadSequencers) : (s.withHeads x).stops = s.stops := rfl
@[simp] theorem State.withHeads_patternPort (x : HeadSequencers) : (s.withHeads x).patternPort = s.patternPort := rfl
@[simp] theorem State.withHeads_drivePort (x : HeadSequencers) : (s.withHeads x).drivePort = s.drivePort := rfl
@[simp] theorem State.withHeads_patternReasons (x : HeadSequencers) : (s.withHeads x).patternReasons = s.patternReasons := rfl
@[simp] theorem State.withHeads_driveReasons (x : HeadSequencers) : (s.withHeads x).driveReasons = s.driveReasons := rfl
@[simp] theorem State.withHeads_reasonCounts (x : HeadSequencers) : (s.withHeads x).reasonCounts = s.reasonCounts := rfl
@[simp] theorem State.withHeads_freeIndex (x : HeadSequencers) : (s.withHeads x).freeIndex = s.freeIndex := rfl
@[simp] theorem State.withHeads_pending (x : HeadSequencers) : (s.withHeads x).pending = s.pending := rfl
@[simp] theorem State.withCatchers_phase (x : Vector Bool 8) : (s.withCatchers x).phase = s.phase := rfl
@[simp] theorem State.withCatchers_pins (x : Vector Bool 8) : (s.withCatchers x).pins = s.pins := rfl
@[simp] theorem State.withCatchers_geo (x : Vector Bool 8) : (s.withCatchers x).geo = s.geo := rfl
@[simp] theorem State.withCatchers_pos (x : Vector Bool 8) : (s.withCatchers x).pos = s.pos := rfl
@[simp] theorem State.withCatchers_mem (x : Vector Bool 8) : (s.withCatchers x).mem = s.mem := rfl
@[simp] theorem State.withCatchers_load (x : Vector Bool 8) : (s.withCatchers x).load = s.load := rfl
@[simp] theorem State.withCatchers_tech (x : Vector Bool 8) : (s.withCatchers x).tech = s.tech := rfl
@[simp] theorem State.withCatchers_ptrs (x : Vector Bool 8) : (s.withCatchers x).ptrs = s.ptrs := rfl
@[simp] theorem State.withCatchers_queue (x : Vector Bool 8) : (s.withCatchers x).queue = s.queue := rfl
@[simp] theorem State.withCatchers_arm (x : Vector Bool 8) : (s.withCatchers x).arm = s.arm := rfl
@[simp] theorem State.withCatchers_image (x : Vector Bool 8) : (s.withCatchers x).image = s.image := rfl
@[simp] theorem State.withCatchers_heads (x : Vector Bool 8) : (s.withCatchers x).heads = s.heads := rfl
@[simp] theorem State.withCatchers_catchers (x : Vector Bool 8) : (s.withCatchers x).catchers = x := rfl
@[simp] theorem State.withCatchers_carriers (x : Vector Bool 8) : (s.withCatchers x).carriers = s.carriers := rfl
@[simp] theorem State.withCatchers_retained (x : Vector Bool 8) : (s.withCatchers x).retained = s.retained := rfl
@[simp] theorem State.withCatchers_supply (x : Vector Bool 8) : (s.withCatchers x).supply = s.supply := rfl
@[simp] theorem State.withCatchers_stops (x : Vector Bool 8) : (s.withCatchers x).stops = s.stops := rfl
@[simp] theorem State.withCatchers_patternPort (x : Vector Bool 8) : (s.withCatchers x).patternPort = s.patternPort := rfl
@[simp] theorem State.withCatchers_drivePort (x : Vector Bool 8) : (s.withCatchers x).drivePort = s.drivePort := rfl
@[simp] theorem State.withCatchers_patternReasons (x : Vector Bool 8) : (s.withCatchers x).patternReasons = s.patternReasons := rfl
@[simp] theorem State.withCatchers_driveReasons (x : Vector Bool 8) : (s.withCatchers x).driveReasons = s.driveReasons := rfl
@[simp] theorem State.withCatchers_reasonCounts (x : Vector Bool 8) : (s.withCatchers x).reasonCounts = s.reasonCounts := rfl
@[simp] theorem State.withCatchers_freeIndex (x : Vector Bool 8) : (s.withCatchers x).freeIndex = s.freeIndex := rfl
@[simp] theorem State.withCatchers_pending (x : Vector Bool 8) : (s.withCatchers x).pending = s.pending := rfl
@[simp] theorem State.withCarriers_phase (x : Vector CarrierEntry 16) : (s.withCarriers x).phase = s.phase := rfl
@[simp] theorem State.withCarriers_pins (x : Vector CarrierEntry 16) : (s.withCarriers x).pins = s.pins := rfl
@[simp] theorem State.withCarriers_geo (x : Vector CarrierEntry 16) : (s.withCarriers x).geo = s.geo := rfl
@[simp] theorem State.withCarriers_pos (x : Vector CarrierEntry 16) : (s.withCarriers x).pos = s.pos := rfl
@[simp] theorem State.withCarriers_mem (x : Vector CarrierEntry 16) : (s.withCarriers x).mem = s.mem := rfl
@[simp] theorem State.withCarriers_load (x : Vector CarrierEntry 16) : (s.withCarriers x).load = s.load := rfl
@[simp] theorem State.withCarriers_tech (x : Vector CarrierEntry 16) : (s.withCarriers x).tech = s.tech := rfl
@[simp] theorem State.withCarriers_ptrs (x : Vector CarrierEntry 16) : (s.withCarriers x).ptrs = s.ptrs := rfl
@[simp] theorem State.withCarriers_queue (x : Vector CarrierEntry 16) : (s.withCarriers x).queue = s.queue := rfl
@[simp] theorem State.withCarriers_arm (x : Vector CarrierEntry 16) : (s.withCarriers x).arm = s.arm := rfl
@[simp] theorem State.withCarriers_image (x : Vector CarrierEntry 16) : (s.withCarriers x).image = s.image := rfl
@[simp] theorem State.withCarriers_heads (x : Vector CarrierEntry 16) : (s.withCarriers x).heads = s.heads := rfl
@[simp] theorem State.withCarriers_catchers (x : Vector CarrierEntry 16) : (s.withCarriers x).catchers = s.catchers := rfl
@[simp] theorem State.withCarriers_carriers (x : Vector CarrierEntry 16) : (s.withCarriers x).carriers = x := rfl
@[simp] theorem State.withCarriers_retained (x : Vector CarrierEntry 16) : (s.withCarriers x).retained = s.retained := rfl
@[simp] theorem State.withCarriers_supply (x : Vector CarrierEntry 16) : (s.withCarriers x).supply = s.supply := rfl
@[simp] theorem State.withCarriers_stops (x : Vector CarrierEntry 16) : (s.withCarriers x).stops = s.stops := rfl
@[simp] theorem State.withCarriers_patternPort (x : Vector CarrierEntry 16) : (s.withCarriers x).patternPort = s.patternPort := rfl
@[simp] theorem State.withCarriers_drivePort (x : Vector CarrierEntry 16) : (s.withCarriers x).drivePort = s.drivePort := rfl
@[simp] theorem State.withCarriers_patternReasons (x : Vector CarrierEntry 16) : (s.withCarriers x).patternReasons = s.patternReasons := rfl
@[simp] theorem State.withCarriers_driveReasons (x : Vector CarrierEntry 16) : (s.withCarriers x).driveReasons = s.driveReasons := rfl
@[simp] theorem State.withCarriers_reasonCounts (x : Vector CarrierEntry 16) : (s.withCarriers x).reasonCounts = s.reasonCounts := rfl
@[simp] theorem State.withCarriers_freeIndex (x : Vector CarrierEntry 16) : (s.withCarriers x).freeIndex = s.freeIndex := rfl
@[simp] theorem State.withCarriers_pending (x : Vector CarrierEntry 16) : (s.withCarriers x).pending = s.pending := rfl
@[simp] theorem State.withRetained_phase (x : RetainedMemory) : (s.withRetained x).phase = s.phase := rfl
@[simp] theorem State.withRetained_pins (x : RetainedMemory) : (s.withRetained x).pins = s.pins := rfl
@[simp] theorem State.withRetained_geo (x : RetainedMemory) : (s.withRetained x).geo = s.geo := rfl
@[simp] theorem State.withRetained_pos (x : RetainedMemory) : (s.withRetained x).pos = s.pos := rfl
@[simp] theorem State.withRetained_mem (x : RetainedMemory) : (s.withRetained x).mem = s.mem := rfl
@[simp] theorem State.withRetained_load (x : RetainedMemory) : (s.withRetained x).load = s.load := rfl
@[simp] theorem State.withRetained_tech (x : RetainedMemory) : (s.withRetained x).tech = s.tech := rfl
@[simp] theorem State.withRetained_ptrs (x : RetainedMemory) : (s.withRetained x).ptrs = s.ptrs := rfl
@[simp] theorem State.withRetained_queue (x : RetainedMemory) : (s.withRetained x).queue = s.queue := rfl
@[simp] theorem State.withRetained_arm (x : RetainedMemory) : (s.withRetained x).arm = s.arm := rfl
@[simp] theorem State.withRetained_image (x : RetainedMemory) : (s.withRetained x).image = s.image := rfl
@[simp] theorem State.withRetained_heads (x : RetainedMemory) : (s.withRetained x).heads = s.heads := rfl
@[simp] theorem State.withRetained_catchers (x : RetainedMemory) : (s.withRetained x).catchers = s.catchers := rfl
@[simp] theorem State.withRetained_carriers (x : RetainedMemory) : (s.withRetained x).carriers = s.carriers := rfl
@[simp] theorem State.withRetained_retained (x : RetainedMemory) : (s.withRetained x).retained = x := rfl
@[simp] theorem State.withRetained_supply (x : RetainedMemory) : (s.withRetained x).supply = s.supply := rfl
@[simp] theorem State.withRetained_stops (x : RetainedMemory) : (s.withRetained x).stops = s.stops := rfl
@[simp] theorem State.withRetained_patternPort (x : RetainedMemory) : (s.withRetained x).patternPort = s.patternPort := rfl
@[simp] theorem State.withRetained_drivePort (x : RetainedMemory) : (s.withRetained x).drivePort = s.drivePort := rfl
@[simp] theorem State.withRetained_patternReasons (x : RetainedMemory) : (s.withRetained x).patternReasons = s.patternReasons := rfl
@[simp] theorem State.withRetained_driveReasons (x : RetainedMemory) : (s.withRetained x).driveReasons = s.driveReasons := rfl
@[simp] theorem State.withRetained_reasonCounts (x : RetainedMemory) : (s.withRetained x).reasonCounts = s.reasonCounts := rfl
@[simp] theorem State.withRetained_freeIndex (x : RetainedMemory) : (s.withRetained x).freeIndex = s.freeIndex := rfl
@[simp] theorem State.withRetained_pending (x : RetainedMemory) : (s.withRetained x).pending = s.pending := rfl
@[simp] theorem State.withSupply_phase (x : SupplyState) : (s.withSupply x).phase = s.phase := rfl
@[simp] theorem State.withSupply_pins (x : SupplyState) : (s.withSupply x).pins = s.pins := rfl
@[simp] theorem State.withSupply_geo (x : SupplyState) : (s.withSupply x).geo = s.geo := rfl
@[simp] theorem State.withSupply_pos (x : SupplyState) : (s.withSupply x).pos = s.pos := rfl
@[simp] theorem State.withSupply_mem (x : SupplyState) : (s.withSupply x).mem = s.mem := rfl
@[simp] theorem State.withSupply_load (x : SupplyState) : (s.withSupply x).load = s.load := rfl
@[simp] theorem State.withSupply_tech (x : SupplyState) : (s.withSupply x).tech = s.tech := rfl
@[simp] theorem State.withSupply_ptrs (x : SupplyState) : (s.withSupply x).ptrs = s.ptrs := rfl
@[simp] theorem State.withSupply_queue (x : SupplyState) : (s.withSupply x).queue = s.queue := rfl
@[simp] theorem State.withSupply_arm (x : SupplyState) : (s.withSupply x).arm = s.arm := rfl
@[simp] theorem State.withSupply_image (x : SupplyState) : (s.withSupply x).image = s.image := rfl
@[simp] theorem State.withSupply_heads (x : SupplyState) : (s.withSupply x).heads = s.heads := rfl
@[simp] theorem State.withSupply_catchers (x : SupplyState) : (s.withSupply x).catchers = s.catchers := rfl
@[simp] theorem State.withSupply_carriers (x : SupplyState) : (s.withSupply x).carriers = s.carriers := rfl
@[simp] theorem State.withSupply_retained (x : SupplyState) : (s.withSupply x).retained = s.retained := rfl
@[simp] theorem State.withSupply_supply (x : SupplyState) : (s.withSupply x).supply = x := rfl
@[simp] theorem State.withSupply_stops (x : SupplyState) : (s.withSupply x).stops = s.stops := rfl
@[simp] theorem State.withSupply_patternPort (x : SupplyState) : (s.withSupply x).patternPort = s.patternPort := rfl
@[simp] theorem State.withSupply_drivePort (x : SupplyState) : (s.withSupply x).drivePort = s.drivePort := rfl
@[simp] theorem State.withSupply_patternReasons (x : SupplyState) : (s.withSupply x).patternReasons = s.patternReasons := rfl
@[simp] theorem State.withSupply_driveReasons (x : SupplyState) : (s.withSupply x).driveReasons = s.driveReasons := rfl
@[simp] theorem State.withSupply_reasonCounts (x : SupplyState) : (s.withSupply x).reasonCounts = s.reasonCounts := rfl
@[simp] theorem State.withSupply_freeIndex (x : SupplyState) : (s.withSupply x).freeIndex = s.freeIndex := rfl
@[simp] theorem State.withSupply_pending (x : SupplyState) : (s.withSupply x).pending = s.pending := rfl
@[simp] theorem State.withStops_phase (x : StopUnit) : (s.withStops x).phase = s.phase := rfl
@[simp] theorem State.withStops_pins (x : StopUnit) : (s.withStops x).pins = s.pins := rfl
@[simp] theorem State.withStops_geo (x : StopUnit) : (s.withStops x).geo = s.geo := rfl
@[simp] theorem State.withStops_pos (x : StopUnit) : (s.withStops x).pos = s.pos := rfl
@[simp] theorem State.withStops_mem (x : StopUnit) : (s.withStops x).mem = s.mem := rfl
@[simp] theorem State.withStops_load (x : StopUnit) : (s.withStops x).load = s.load := rfl
@[simp] theorem State.withStops_tech (x : StopUnit) : (s.withStops x).tech = s.tech := rfl
@[simp] theorem State.withStops_ptrs (x : StopUnit) : (s.withStops x).ptrs = s.ptrs := rfl
@[simp] theorem State.withStops_queue (x : StopUnit) : (s.withStops x).queue = s.queue := rfl
@[simp] theorem State.withStops_arm (x : StopUnit) : (s.withStops x).arm = s.arm := rfl
@[simp] theorem State.withStops_image (x : StopUnit) : (s.withStops x).image = s.image := rfl
@[simp] theorem State.withStops_heads (x : StopUnit) : (s.withStops x).heads = s.heads := rfl
@[simp] theorem State.withStops_catchers (x : StopUnit) : (s.withStops x).catchers = s.catchers := rfl
@[simp] theorem State.withStops_carriers (x : StopUnit) : (s.withStops x).carriers = s.carriers := rfl
@[simp] theorem State.withStops_retained (x : StopUnit) : (s.withStops x).retained = s.retained := rfl
@[simp] theorem State.withStops_supply (x : StopUnit) : (s.withStops x).supply = s.supply := rfl
@[simp] theorem State.withStops_stops (x : StopUnit) : (s.withStops x).stops = x := rfl
@[simp] theorem State.withStops_patternPort (x : StopUnit) : (s.withStops x).patternPort = s.patternPort := rfl
@[simp] theorem State.withStops_drivePort (x : StopUnit) : (s.withStops x).drivePort = s.drivePort := rfl
@[simp] theorem State.withStops_patternReasons (x : StopUnit) : (s.withStops x).patternReasons = s.patternReasons := rfl
@[simp] theorem State.withStops_driveReasons (x : StopUnit) : (s.withStops x).driveReasons = s.driveReasons := rfl
@[simp] theorem State.withStops_reasonCounts (x : StopUnit) : (s.withStops x).reasonCounts = s.reasonCounts := rfl
@[simp] theorem State.withStops_freeIndex (x : StopUnit) : (s.withStops x).freeIndex = s.freeIndex := rfl
@[simp] theorem State.withStops_pending (x : StopUnit) : (s.withStops x).pending = s.pending := rfl
@[simp] theorem State.withPatternPort_phase (x : PortState) : (s.withPatternPort x).phase = s.phase := rfl
@[simp] theorem State.withPatternPort_pins (x : PortState) : (s.withPatternPort x).pins = s.pins := rfl
@[simp] theorem State.withPatternPort_geo (x : PortState) : (s.withPatternPort x).geo = s.geo := rfl
@[simp] theorem State.withPatternPort_pos (x : PortState) : (s.withPatternPort x).pos = s.pos := rfl
@[simp] theorem State.withPatternPort_mem (x : PortState) : (s.withPatternPort x).mem = s.mem := rfl
@[simp] theorem State.withPatternPort_load (x : PortState) : (s.withPatternPort x).load = s.load := rfl
@[simp] theorem State.withPatternPort_tech (x : PortState) : (s.withPatternPort x).tech = s.tech := rfl
@[simp] theorem State.withPatternPort_ptrs (x : PortState) : (s.withPatternPort x).ptrs = s.ptrs := rfl
@[simp] theorem State.withPatternPort_queue (x : PortState) : (s.withPatternPort x).queue = s.queue := rfl
@[simp] theorem State.withPatternPort_arm (x : PortState) : (s.withPatternPort x).arm = s.arm := rfl
@[simp] theorem State.withPatternPort_image (x : PortState) : (s.withPatternPort x).image = s.image := rfl
@[simp] theorem State.withPatternPort_heads (x : PortState) : (s.withPatternPort x).heads = s.heads := rfl
@[simp] theorem State.withPatternPort_catchers (x : PortState) : (s.withPatternPort x).catchers = s.catchers := rfl
@[simp] theorem State.withPatternPort_carriers (x : PortState) : (s.withPatternPort x).carriers = s.carriers := rfl
@[simp] theorem State.withPatternPort_retained (x : PortState) : (s.withPatternPort x).retained = s.retained := rfl
@[simp] theorem State.withPatternPort_supply (x : PortState) : (s.withPatternPort x).supply = s.supply := rfl
@[simp] theorem State.withPatternPort_stops (x : PortState) : (s.withPatternPort x).stops = s.stops := rfl
@[simp] theorem State.withPatternPort_patternPort (x : PortState) : (s.withPatternPort x).patternPort = x := rfl
@[simp] theorem State.withPatternPort_drivePort (x : PortState) : (s.withPatternPort x).drivePort = s.drivePort := rfl
@[simp] theorem State.withPatternPort_patternReasons (x : PortState) : (s.withPatternPort x).patternReasons = s.patternReasons := rfl
@[simp] theorem State.withPatternPort_driveReasons (x : PortState) : (s.withPatternPort x).driveReasons = s.driveReasons := rfl
@[simp] theorem State.withPatternPort_reasonCounts (x : PortState) : (s.withPatternPort x).reasonCounts = s.reasonCounts := rfl
@[simp] theorem State.withPatternPort_freeIndex (x : PortState) : (s.withPatternPort x).freeIndex = s.freeIndex := rfl
@[simp] theorem State.withPatternPort_pending (x : PortState) : (s.withPatternPort x).pending = s.pending := rfl
@[simp] theorem State.withDrivePort_phase (x : PortState) : (s.withDrivePort x).phase = s.phase := rfl
@[simp] theorem State.withDrivePort_pins (x : PortState) : (s.withDrivePort x).pins = s.pins := rfl
@[simp] theorem State.withDrivePort_geo (x : PortState) : (s.withDrivePort x).geo = s.geo := rfl
@[simp] theorem State.withDrivePort_pos (x : PortState) : (s.withDrivePort x).pos = s.pos := rfl
@[simp] theorem State.withDrivePort_mem (x : PortState) : (s.withDrivePort x).mem = s.mem := rfl
@[simp] theorem State.withDrivePort_load (x : PortState) : (s.withDrivePort x).load = s.load := rfl
@[simp] theorem State.withDrivePort_tech (x : PortState) : (s.withDrivePort x).tech = s.tech := rfl
@[simp] theorem State.withDrivePort_ptrs (x : PortState) : (s.withDrivePort x).ptrs = s.ptrs := rfl
@[simp] theorem State.withDrivePort_queue (x : PortState) : (s.withDrivePort x).queue = s.queue := rfl
@[simp] theorem State.withDrivePort_arm (x : PortState) : (s.withDrivePort x).arm = s.arm := rfl
@[simp] theorem State.withDrivePort_image (x : PortState) : (s.withDrivePort x).image = s.image := rfl
@[simp] theorem State.withDrivePort_heads (x : PortState) : (s.withDrivePort x).heads = s.heads := rfl
@[simp] theorem State.withDrivePort_catchers (x : PortState) : (s.withDrivePort x).catchers = s.catchers := rfl
@[simp] theorem State.withDrivePort_carriers (x : PortState) : (s.withDrivePort x).carriers = s.carriers := rfl
@[simp] theorem State.withDrivePort_retained (x : PortState) : (s.withDrivePort x).retained = s.retained := rfl
@[simp] theorem State.withDrivePort_supply (x : PortState) : (s.withDrivePort x).supply = s.supply := rfl
@[simp] theorem State.withDrivePort_stops (x : PortState) : (s.withDrivePort x).stops = s.stops := rfl
@[simp] theorem State.withDrivePort_patternPort (x : PortState) : (s.withDrivePort x).patternPort = s.patternPort := rfl
@[simp] theorem State.withDrivePort_drivePort (x : PortState) : (s.withDrivePort x).drivePort = x := rfl
@[simp] theorem State.withDrivePort_patternReasons (x : PortState) : (s.withDrivePort x).patternReasons = s.patternReasons := rfl
@[simp] theorem State.withDrivePort_driveReasons (x : PortState) : (s.withDrivePort x).driveReasons = s.driveReasons := rfl
@[simp] theorem State.withDrivePort_reasonCounts (x : PortState) : (s.withDrivePort x).reasonCounts = s.reasonCounts := rfl
@[simp] theorem State.withDrivePort_freeIndex (x : PortState) : (s.withDrivePort x).freeIndex = s.freeIndex := rfl
@[simp] theorem State.withDrivePort_pending (x : PortState) : (s.withDrivePort x).pending = s.pending := rfl
@[simp] theorem State.withPatternReasons_phase (x : PatternReasons) : (s.withPatternReasons x).phase = s.phase := rfl
@[simp] theorem State.withPatternReasons_pins (x : PatternReasons) : (s.withPatternReasons x).pins = s.pins := rfl
@[simp] theorem State.withPatternReasons_geo (x : PatternReasons) : (s.withPatternReasons x).geo = s.geo := rfl
@[simp] theorem State.withPatternReasons_pos (x : PatternReasons) : (s.withPatternReasons x).pos = s.pos := rfl
@[simp] theorem State.withPatternReasons_mem (x : PatternReasons) : (s.withPatternReasons x).mem = s.mem := rfl
@[simp] theorem State.withPatternReasons_load (x : PatternReasons) : (s.withPatternReasons x).load = s.load := rfl
@[simp] theorem State.withPatternReasons_tech (x : PatternReasons) : (s.withPatternReasons x).tech = s.tech := rfl
@[simp] theorem State.withPatternReasons_ptrs (x : PatternReasons) : (s.withPatternReasons x).ptrs = s.ptrs := rfl
@[simp] theorem State.withPatternReasons_queue (x : PatternReasons) : (s.withPatternReasons x).queue = s.queue := rfl
@[simp] theorem State.withPatternReasons_arm (x : PatternReasons) : (s.withPatternReasons x).arm = s.arm := rfl
@[simp] theorem State.withPatternReasons_image (x : PatternReasons) : (s.withPatternReasons x).image = s.image := rfl
@[simp] theorem State.withPatternReasons_heads (x : PatternReasons) : (s.withPatternReasons x).heads = s.heads := rfl
@[simp] theorem State.withPatternReasons_catchers (x : PatternReasons) : (s.withPatternReasons x).catchers = s.catchers := rfl
@[simp] theorem State.withPatternReasons_carriers (x : PatternReasons) : (s.withPatternReasons x).carriers = s.carriers := rfl
@[simp] theorem State.withPatternReasons_retained (x : PatternReasons) : (s.withPatternReasons x).retained = s.retained := rfl
@[simp] theorem State.withPatternReasons_supply (x : PatternReasons) : (s.withPatternReasons x).supply = s.supply := rfl
@[simp] theorem State.withPatternReasons_stops (x : PatternReasons) : (s.withPatternReasons x).stops = s.stops := rfl
@[simp] theorem State.withPatternReasons_patternPort (x : PatternReasons) : (s.withPatternReasons x).patternPort = s.patternPort := rfl
@[simp] theorem State.withPatternReasons_drivePort (x : PatternReasons) : (s.withPatternReasons x).drivePort = s.drivePort := rfl
@[simp] theorem State.withPatternReasons_patternReasons (x : PatternReasons) : (s.withPatternReasons x).patternReasons = x := rfl
@[simp] theorem State.withPatternReasons_driveReasons (x : PatternReasons) : (s.withPatternReasons x).driveReasons = s.driveReasons := rfl
@[simp] theorem State.withPatternReasons_reasonCounts (x : PatternReasons) : (s.withPatternReasons x).reasonCounts = s.reasonCounts := rfl
@[simp] theorem State.withPatternReasons_freeIndex (x : PatternReasons) : (s.withPatternReasons x).freeIndex = s.freeIndex := rfl
@[simp] theorem State.withPatternReasons_pending (x : PatternReasons) : (s.withPatternReasons x).pending = s.pending := rfl
@[simp] theorem State.withDriveReasons_phase (x : DriveReasons) : (s.withDriveReasons x).phase = s.phase := rfl
@[simp] theorem State.withDriveReasons_pins (x : DriveReasons) : (s.withDriveReasons x).pins = s.pins := rfl
@[simp] theorem State.withDriveReasons_geo (x : DriveReasons) : (s.withDriveReasons x).geo = s.geo := rfl
@[simp] theorem State.withDriveReasons_pos (x : DriveReasons) : (s.withDriveReasons x).pos = s.pos := rfl
@[simp] theorem State.withDriveReasons_mem (x : DriveReasons) : (s.withDriveReasons x).mem = s.mem := rfl
@[simp] theorem State.withDriveReasons_load (x : DriveReasons) : (s.withDriveReasons x).load = s.load := rfl
@[simp] theorem State.withDriveReasons_tech (x : DriveReasons) : (s.withDriveReasons x).tech = s.tech := rfl
@[simp] theorem State.withDriveReasons_ptrs (x : DriveReasons) : (s.withDriveReasons x).ptrs = s.ptrs := rfl
@[simp] theorem State.withDriveReasons_queue (x : DriveReasons) : (s.withDriveReasons x).queue = s.queue := rfl
@[simp] theorem State.withDriveReasons_arm (x : DriveReasons) : (s.withDriveReasons x).arm = s.arm := rfl
@[simp] theorem State.withDriveReasons_image (x : DriveReasons) : (s.withDriveReasons x).image = s.image := rfl
@[simp] theorem State.withDriveReasons_heads (x : DriveReasons) : (s.withDriveReasons x).heads = s.heads := rfl
@[simp] theorem State.withDriveReasons_catchers (x : DriveReasons) : (s.withDriveReasons x).catchers = s.catchers := rfl
@[simp] theorem State.withDriveReasons_carriers (x : DriveReasons) : (s.withDriveReasons x).carriers = s.carriers := rfl
@[simp] theorem State.withDriveReasons_retained (x : DriveReasons) : (s.withDriveReasons x).retained = s.retained := rfl
@[simp] theorem State.withDriveReasons_supply (x : DriveReasons) : (s.withDriveReasons x).supply = s.supply := rfl
@[simp] theorem State.withDriveReasons_stops (x : DriveReasons) : (s.withDriveReasons x).stops = s.stops := rfl
@[simp] theorem State.withDriveReasons_patternPort (x : DriveReasons) : (s.withDriveReasons x).patternPort = s.patternPort := rfl
@[simp] theorem State.withDriveReasons_drivePort (x : DriveReasons) : (s.withDriveReasons x).drivePort = s.drivePort := rfl
@[simp] theorem State.withDriveReasons_patternReasons (x : DriveReasons) : (s.withDriveReasons x).patternReasons = s.patternReasons := rfl
@[simp] theorem State.withDriveReasons_driveReasons (x : DriveReasons) : (s.withDriveReasons x).driveReasons = x := rfl
@[simp] theorem State.withDriveReasons_reasonCounts (x : DriveReasons) : (s.withDriveReasons x).reasonCounts = s.reasonCounts := rfl
@[simp] theorem State.withDriveReasons_freeIndex (x : DriveReasons) : (s.withDriveReasons x).freeIndex = s.freeIndex := rfl
@[simp] theorem State.withDriveReasons_pending (x : DriveReasons) : (s.withDriveReasons x).pending = s.pending := rfl

@[simp] theorem State.withReasonCounts_phase (x : ReasonCounts) : (s.withReasonCounts x).phase = s.phase := rfl
@[simp] theorem State.withReasonCounts_pins (x : ReasonCounts) : (s.withReasonCounts x).pins = s.pins := rfl
@[simp] theorem State.withReasonCounts_geo (x : ReasonCounts) : (s.withReasonCounts x).geo = s.geo := rfl
@[simp] theorem State.withReasonCounts_pos (x : ReasonCounts) : (s.withReasonCounts x).pos = s.pos := rfl
@[simp] theorem State.withReasonCounts_mem (x : ReasonCounts) : (s.withReasonCounts x).mem = s.mem := rfl
@[simp] theorem State.withReasonCounts_load (x : ReasonCounts) : (s.withReasonCounts x).load = s.load := rfl
@[simp] theorem State.withReasonCounts_tech (x : ReasonCounts) : (s.withReasonCounts x).tech = s.tech := rfl
@[simp] theorem State.withReasonCounts_ptrs (x : ReasonCounts) : (s.withReasonCounts x).ptrs = s.ptrs := rfl
@[simp] theorem State.withReasonCounts_queue (x : ReasonCounts) : (s.withReasonCounts x).queue = s.queue := rfl
@[simp] theorem State.withReasonCounts_arm (x : ReasonCounts) : (s.withReasonCounts x).arm = s.arm := rfl
@[simp] theorem State.withReasonCounts_image (x : ReasonCounts) : (s.withReasonCounts x).image = s.image := rfl
@[simp] theorem State.withReasonCounts_heads (x : ReasonCounts) : (s.withReasonCounts x).heads = s.heads := rfl
@[simp] theorem State.withReasonCounts_catchers (x : ReasonCounts) : (s.withReasonCounts x).catchers = s.catchers := rfl
@[simp] theorem State.withReasonCounts_carriers (x : ReasonCounts) : (s.withReasonCounts x).carriers = s.carriers := rfl
@[simp] theorem State.withReasonCounts_retained (x : ReasonCounts) : (s.withReasonCounts x).retained = s.retained := rfl
@[simp] theorem State.withReasonCounts_supply (x : ReasonCounts) : (s.withReasonCounts x).supply = s.supply := rfl
@[simp] theorem State.withReasonCounts_stops (x : ReasonCounts) : (s.withReasonCounts x).stops = s.stops := rfl
@[simp] theorem State.withReasonCounts_patternPort (x : ReasonCounts) : (s.withReasonCounts x).patternPort = s.patternPort := rfl
@[simp] theorem State.withReasonCounts_drivePort (x : ReasonCounts) : (s.withReasonCounts x).drivePort = s.drivePort := rfl
@[simp] theorem State.withReasonCounts_patternReasons (x : ReasonCounts) : (s.withReasonCounts x).patternReasons = s.patternReasons := rfl
@[simp] theorem State.withReasonCounts_driveReasons (x : ReasonCounts) : (s.withReasonCounts x).driveReasons = s.driveReasons := rfl
@[simp] theorem State.withReasonCounts_reasonCounts (x : ReasonCounts) : (s.withReasonCounts x).reasonCounts = x := rfl
@[simp] theorem State.withReasonCounts_freeIndex (x : ReasonCounts) : (s.withReasonCounts x).freeIndex = s.freeIndex := rfl
@[simp] theorem State.withReasonCounts_pending (x : ReasonCounts) : (s.withReasonCounts x).pending = s.pending := rfl
@[simp] theorem State.withFreeIndex_phase (x : Nat) : (s.withFreeIndex x).phase = s.phase := rfl
@[simp] theorem State.withFreeIndex_pins (x : Nat) : (s.withFreeIndex x).pins = s.pins := rfl
@[simp] theorem State.withFreeIndex_geo (x : Nat) : (s.withFreeIndex x).geo = s.geo := rfl
@[simp] theorem State.withFreeIndex_pos (x : Nat) : (s.withFreeIndex x).pos = s.pos := rfl
@[simp] theorem State.withFreeIndex_mem (x : Nat) : (s.withFreeIndex x).mem = s.mem := rfl
@[simp] theorem State.withFreeIndex_load (x : Nat) : (s.withFreeIndex x).load = s.load := rfl
@[simp] theorem State.withFreeIndex_tech (x : Nat) : (s.withFreeIndex x).tech = s.tech := rfl
@[simp] theorem State.withFreeIndex_ptrs (x : Nat) : (s.withFreeIndex x).ptrs = s.ptrs := rfl
@[simp] theorem State.withFreeIndex_queue (x : Nat) : (s.withFreeIndex x).queue = s.queue := rfl
@[simp] theorem State.withFreeIndex_arm (x : Nat) : (s.withFreeIndex x).arm = s.arm := rfl
@[simp] theorem State.withFreeIndex_image (x : Nat) : (s.withFreeIndex x).image = s.image := rfl
@[simp] theorem State.withFreeIndex_heads (x : Nat) : (s.withFreeIndex x).heads = s.heads := rfl
@[simp] theorem State.withFreeIndex_catchers (x : Nat) : (s.withFreeIndex x).catchers = s.catchers := rfl
@[simp] theorem State.withFreeIndex_carriers (x : Nat) : (s.withFreeIndex x).carriers = s.carriers := rfl
@[simp] theorem State.withFreeIndex_retained (x : Nat) : (s.withFreeIndex x).retained = s.retained := rfl
@[simp] theorem State.withFreeIndex_supply (x : Nat) : (s.withFreeIndex x).supply = s.supply := rfl
@[simp] theorem State.withFreeIndex_stops (x : Nat) : (s.withFreeIndex x).stops = s.stops := rfl
@[simp] theorem State.withFreeIndex_patternPort (x : Nat) : (s.withFreeIndex x).patternPort = s.patternPort := rfl
@[simp] theorem State.withFreeIndex_drivePort (x : Nat) : (s.withFreeIndex x).drivePort = s.drivePort := rfl
@[simp] theorem State.withFreeIndex_patternReasons (x : Nat) : (s.withFreeIndex x).patternReasons = s.patternReasons := rfl
@[simp] theorem State.withFreeIndex_driveReasons (x : Nat) : (s.withFreeIndex x).driveReasons = s.driveReasons := rfl
@[simp] theorem State.withFreeIndex_reasonCounts (x : Nat) : (s.withFreeIndex x).reasonCounts = s.reasonCounts := rfl
@[simp] theorem State.withFreeIndex_freeIndex (x : Nat) : (s.withFreeIndex x).freeIndex = x := rfl
@[simp] theorem State.withFreeIndex_pending (x : Nat) : (s.withFreeIndex x).pending = s.pending := rfl
@[simp] theorem State.withPending_phase (x : List Instr) : (s.withPending x).phase = s.phase := rfl
@[simp] theorem State.withPending_pins (x : List Instr) : (s.withPending x).pins = s.pins := rfl
@[simp] theorem State.withPending_geo (x : List Instr) : (s.withPending x).geo = s.geo := rfl
@[simp] theorem State.withPending_pos (x : List Instr) : (s.withPending x).pos = s.pos := rfl
@[simp] theorem State.withPending_mem (x : List Instr) : (s.withPending x).mem = s.mem := rfl
@[simp] theorem State.withPending_load (x : List Instr) : (s.withPending x).load = s.load := rfl
@[simp] theorem State.withPending_tech (x : List Instr) : (s.withPending x).tech = s.tech := rfl
@[simp] theorem State.withPending_ptrs (x : List Instr) : (s.withPending x).ptrs = s.ptrs := rfl
@[simp] theorem State.withPending_queue (x : List Instr) : (s.withPending x).queue = s.queue := rfl
@[simp] theorem State.withPending_arm (x : List Instr) : (s.withPending x).arm = s.arm := rfl
@[simp] theorem State.withPending_image (x : List Instr) : (s.withPending x).image = s.image := rfl
@[simp] theorem State.withPending_heads (x : List Instr) : (s.withPending x).heads = s.heads := rfl
@[simp] theorem State.withPending_catchers (x : List Instr) : (s.withPending x).catchers = s.catchers := rfl
@[simp] theorem State.withPending_carriers (x : List Instr) : (s.withPending x).carriers = s.carriers := rfl
@[simp] theorem State.withPending_retained (x : List Instr) : (s.withPending x).retained = s.retained := rfl
@[simp] theorem State.withPending_supply (x : List Instr) : (s.withPending x).supply = s.supply := rfl
@[simp] theorem State.withPending_stops (x : List Instr) : (s.withPending x).stops = s.stops := rfl
@[simp] theorem State.withPending_patternPort (x : List Instr) : (s.withPending x).patternPort = s.patternPort := rfl
@[simp] theorem State.withPending_drivePort (x : List Instr) : (s.withPending x).drivePort = s.drivePort := rfl
@[simp] theorem State.withPending_patternReasons (x : List Instr) : (s.withPending x).patternReasons = s.patternReasons := rfl
@[simp] theorem State.withPending_driveReasons (x : List Instr) : (s.withPending x).driveReasons = s.driveReasons := rfl
@[simp] theorem State.withPending_reasonCounts (x : List Instr) : (s.withPending x).reasonCounts = s.reasonCounts := rfl
@[simp] theorem State.withPending_freeIndex (x : List Instr) : (s.withPending x).freeIndex = s.freeIndex := rfl
@[simp] theorem State.withPending_pending (x : List Instr) : (s.withPending x).pending = x := rfl

/-! A block replaced twice, and a block replaced by itself. -/

@[simp] theorem State.withPhase_withPhase (x y : Phase) : (s.withPhase x).withPhase y = s.withPhase y := rfl
@[simp] theorem State.withPins_withPins (x y : Pins) : (s.withPins x).withPins y = s.withPins y := rfl
@[simp] theorem State.withGeo_withGeo (x y : GeometryBlock) : (s.withGeo x).withGeo y = s.withGeo y := rfl
@[simp] theorem State.withPos_withPos (x y : PositionCounter) : (s.withPos x).withPos y = s.withPos y := rfl
@[simp] theorem State.withMem_withMem (x y : PatternMemory) : (s.withMem x).withMem y = s.withMem y := rfl
@[simp] theorem State.withLoad_withLoad (x y : LoadCursor) : (s.withLoad x).withLoad y = s.withLoad y := rfl
@[simp] theorem State.withTech_withTech (x y : TechniqueMemory) : (s.withTech x).withTech y = s.withTech y := rfl
@[simp] theorem State.withPtrs_withPtrs (x y : Vector Pointer 8) : (s.withPtrs x).withPtrs y = s.withPtrs y := rfl
@[simp] theorem State.withQueue_withQueue (x y : CourseQueue) : (s.withQueue x).withQueue y = s.withQueue y := rfl
@[simp] theorem State.withArm_withArm (x y : ArmingEngine) : (s.withArm x).withArm y = s.withArm y := rfl
@[simp] theorem State.withImage_withImage (x y : StrokeImage) : (s.withImage x).withImage y = s.withImage y := rfl
@[simp] theorem State.withHeads_withHeads (x y : HeadSequencers) : (s.withHeads x).withHeads y = s.withHeads y := rfl
@[simp] theorem State.withCatchers_withCatchers (x y : Vector Bool 8) : (s.withCatchers x).withCatchers y = s.withCatchers y := rfl
@[simp] theorem State.withCarriers_withCarriers (x y : Vector CarrierEntry 16) : (s.withCarriers x).withCarriers y = s.withCarriers y := rfl
@[simp] theorem State.withRetained_withRetained (x y : RetainedMemory) : (s.withRetained x).withRetained y = s.withRetained y := rfl
@[simp] theorem State.withSupply_withSupply (x y : SupplyState) : (s.withSupply x).withSupply y = s.withSupply y := rfl
@[simp] theorem State.withStops_withStops (x y : StopUnit) : (s.withStops x).withStops y = s.withStops y := rfl
@[simp] theorem State.withPatternPort_withPatternPort (x y : PortState) : (s.withPatternPort x).withPatternPort y = s.withPatternPort y := rfl
@[simp] theorem State.withDrivePort_withDrivePort (x y : PortState) : (s.withDrivePort x).withDrivePort y = s.withDrivePort y := rfl
@[simp] theorem State.withPatternReasons_withPatternReasons (x y : PatternReasons) : (s.withPatternReasons x).withPatternReasons y = s.withPatternReasons y := rfl
@[simp] theorem State.withDriveReasons_withDriveReasons (x y : DriveReasons) : (s.withDriveReasons x).withDriveReasons y = s.withDriveReasons y := rfl
@[simp] theorem State.withReasonCounts_withReasonCounts (x y : ReasonCounts) : (s.withReasonCounts x).withReasonCounts y = s.withReasonCounts y := rfl
@[simp] theorem State.withFreeIndex_withFreeIndex (x y : Nat) : (s.withFreeIndex x).withFreeIndex y = s.withFreeIndex y := rfl
@[simp] theorem State.withPending_withPending (x y : List Instr) : (s.withPending x).withPending y = s.withPending y := rfl
@[simp] theorem State.withPhase_self : s.withPhase s.phase = s := rfl
@[simp] theorem State.withPins_self : s.withPins s.pins = s := rfl
@[simp] theorem State.withGeo_self : s.withGeo s.geo = s := rfl
@[simp] theorem State.withPos_self : s.withPos s.pos = s := rfl
@[simp] theorem State.withMem_self : s.withMem s.mem = s := rfl
@[simp] theorem State.withLoad_self : s.withLoad s.load = s := rfl
@[simp] theorem State.withTech_self : s.withTech s.tech = s := rfl
@[simp] theorem State.withPtrs_self : s.withPtrs s.ptrs = s := rfl
@[simp] theorem State.withQueue_self : s.withQueue s.queue = s := rfl
@[simp] theorem State.withArm_self : s.withArm s.arm = s := rfl
@[simp] theorem State.withImage_self : s.withImage s.image = s := rfl
@[simp] theorem State.withHeads_self : s.withHeads s.heads = s := rfl
@[simp] theorem State.withCatchers_self : s.withCatchers s.catchers = s := rfl
@[simp] theorem State.withCarriers_self : s.withCarriers s.carriers = s := rfl
@[simp] theorem State.withRetained_self : s.withRetained s.retained = s := rfl
@[simp] theorem State.withSupply_self : s.withSupply s.supply = s := rfl
@[simp] theorem State.withStops_self : s.withStops s.stops = s := rfl
@[simp] theorem State.withPatternPort_self : s.withPatternPort s.patternPort = s := rfl
@[simp] theorem State.withDrivePort_self : s.withDrivePort s.drivePort = s := rfl
@[simp] theorem State.withPatternReasons_self : s.withPatternReasons s.patternReasons = s := rfl
@[simp] theorem State.withDriveReasons_self : s.withDriveReasons s.driveReasons = s := rfl
@[simp] theorem State.withReasonCounts_self : s.withReasonCounts s.reasonCounts = s := rfl
@[simp] theorem State.withFreeIndex_self : s.withFreeIndex s.freeIndex = s := rfl
@[simp] theorem State.withPending_self : s.withPending s.pending = s := rfl

end Sys2Proof.Machine
end

