-- ==== Sys2Proof/Laws/Blocks.lean ====
section
/-! SUPPORT. For each shared operation, every block it never touches is as it was. -/

namespace Sys2Proof.Machine

variable (s : State)

@[simp] theorem State.changeHead_phase (f : Course → Course) : (s.changeHead f).phase = s.phase := by simp [State.changeHead]
@[simp] theorem State.changeHead_pins (f : Course → Course) : (s.changeHead f).pins = s.pins := by simp [State.changeHead]
@[simp] theorem State.changeHead_geo (f : Course → Course) : (s.changeHead f).geo = s.geo := by simp [State.changeHead]
@[simp] theorem State.changeHead_pos (f : Course → Course) : (s.changeHead f).pos = s.pos := by simp [State.changeHead]
@[simp] theorem State.changeHead_mem (f : Course → Course) : (s.changeHead f).mem = s.mem := by simp [State.changeHead]
@[simp] theorem State.changeHead_load (f : Course → Course) : (s.changeHead f).load = s.load := by simp [State.changeHead]
@[simp] theorem State.changeHead_tech (f : Course → Course) : (s.changeHead f).tech = s.tech := by simp [State.changeHead]
@[simp] theorem State.changeHead_ptrs (f : Course → Course) : (s.changeHead f).ptrs = s.ptrs := by simp [State.changeHead]
@[simp] theorem State.changeHead_arm (f : Course → Course) : (s.changeHead f).arm = s.arm := by simp [State.changeHead]
@[simp] theorem State.changeHead_image (f : Course → Course) : (s.changeHead f).image = s.image := by simp [State.changeHead]
@[simp] theorem State.changeHead_heads (f : Course → Course) : (s.changeHead f).heads = s.heads := by simp [State.changeHead]
@[simp] theorem State.changeHead_catchers (f : Course → Course) : (s.changeHead f).catchers = s.catchers := by simp [State.changeHead]
@[simp] theorem State.changeHead_carriers (f : Course → Course) : (s.changeHead f).carriers = s.carriers := by simp [State.changeHead]
@[simp] theorem State.changeHead_retained (f : Course → Course) : (s.changeHead f).retained = s.retained := by simp [State.changeHead]
@[simp] theorem State.changeHead_supply (f : Course → Course) : (s.changeHead f).supply = s.supply := by simp [State.changeHead]
@[simp] theorem State.changeHead_stops (f : Course → Course) : (s.changeHead f).stops = s.stops := by simp [State.changeHead]
@[simp] theorem State.changeHead_patternPort (f : Course → Course) : (s.changeHead f).patternPort = s.patternPort := by simp [State.changeHead]
@[simp] theorem State.changeHead_drivePort (f : Course → Course) : (s.changeHead f).drivePort = s.drivePort := by simp [State.changeHead]
@[simp] theorem State.changeHead_patternReasons (f : Course → Course) : (s.changeHead f).patternReasons = s.patternReasons := by simp [State.changeHead]
@[simp] theorem State.changeHead_driveReasons (f : Course → Course) : (s.changeHead f).driveReasons = s.driveReasons := by simp [State.changeHead]
@[simp] theorem State.changeHead_reasonCounts (f : Course → Course) : (s.changeHead f).reasonCounts = s.reasonCounts := by simp [State.changeHead]
@[simp] theorem State.changeHead_freeIndex (f : Course → Course) : (s.changeHead f).freeIndex = s.freeIndex := by simp [State.changeHead]
@[simp] theorem State.changeHead_pending (f : Course → Course) : (s.changeHead f).pending = s.pending := by simp [State.changeHead]
@[simp] theorem State.changeCarriers_phase (f : Carrier → CarrierEntry → CarrierEntry) : (s.changeCarriers f).phase = s.phase := by simp [State.changeCarriers]
@[simp] theorem State.changeCarriers_pins (f : Carrier → CarrierEntry → CarrierEntry) : (s.changeCarriers f).pins = s.pins := by simp [State.changeCarriers]
@[simp] theorem State.changeCarriers_geo (f : Carrier → CarrierEntry → CarrierEntry) : (s.changeCarriers f).geo = s.geo := by simp [State.changeCarriers]
@[simp] theorem State.changeCarriers_pos (f : Carrier → CarrierEntry → CarrierEntry) : (s.changeCarriers f).pos = s.pos := by simp [State.changeCarriers]
@[simp] theorem State.changeCarriers_mem (f : Carrier → CarrierEntry → CarrierEntry) : (s.changeCarriers f).mem = s.mem := by simp [State.changeCarriers]
@[simp] theorem State.changeCarriers_load (f : Carrier → CarrierEntry → CarrierEntry) : (s.changeCarriers f).load = s.load := by simp [State.changeCarriers]
@[simp] theorem State.changeCarriers_tech (f : Carrier → CarrierEntry → CarrierEntry) : (s.changeCarriers f).tech = s.tech := by simp [State.changeCarriers]
@[simp] theorem State.changeCarriers_ptrs (f : Carrier → CarrierEntry → CarrierEntry) : (s.changeCarriers f).ptrs = s.ptrs := by simp [State.changeCarriers]
@[simp] theorem State.changeCarriers_queue (f : Carrier → CarrierEntry → CarrierEntry) : (s.changeCarriers f).queue = s.queue := by simp [State.changeCarriers]
@[simp] theorem State.changeCarriers_arm (f : Carrier → CarrierEntry → CarrierEntry) : (s.changeCarriers f).arm = s.arm := by simp [State.changeCarriers]
@[simp] theorem State.changeCarriers_image (f : Carrier → CarrierEntry → CarrierEntry) : (s.changeCarriers f).image = s.image := by simp [State.changeCarriers]
@[simp] theorem State.changeCarriers_heads (f : Carrier → CarrierEntry → CarrierEntry) : (s.changeCarriers f).heads = s.heads := by simp [State.changeCarriers]
@[simp] theorem State.changeCarriers_catchers (f : Carrier → CarrierEntry → CarrierEntry) : (s.changeCarriers f).catchers = s.catchers := by simp [State.changeCarriers]
@[simp] theorem State.changeCarriers_supply (f : Carrier → CarrierEntry → CarrierEntry) : (s.changeCarriers f).supply = s.supply := by simp [State.changeCarriers]
@[simp] theorem State.changeCarriers_stops (f : Carrier → CarrierEntry → CarrierEntry) : (s.changeCarriers f).stops = s.stops := by simp [State.changeCarriers]
@[simp] theorem State.changeCarriers_patternPort (f : Carrier → CarrierEntry → CarrierEntry) : (s.changeCarriers f).patternPort = s.patternPort := by simp [State.changeCarriers]
@[simp] theorem State.changeCarriers_drivePort (f : Carrier → CarrierEntry → CarrierEntry) : (s.changeCarriers f).drivePort = s.drivePort := by simp [State.changeCarriers]
@[simp] theorem State.changeCarriers_patternReasons (f : Carrier → CarrierEntry → CarrierEntry) : (s.changeCarriers f).patternReasons = s.patternReasons := by simp [State.changeCarriers]
@[simp] theorem State.changeCarriers_driveReasons (f : Carrier → CarrierEntry → CarrierEntry) : (s.changeCarriers f).driveReasons = s.driveReasons := by simp [State.changeCarriers]
@[simp] theorem State.changeCarriers_reasonCounts (f : Carrier → CarrierEntry → CarrierEntry) : (s.changeCarriers f).reasonCounts = s.reasonCounts := by simp [State.changeCarriers]
@[simp] theorem State.changeCarriers_freeIndex (f : Carrier → CarrierEntry → CarrierEntry) : (s.changeCarriers f).freeIndex = s.freeIndex := by simp [State.changeCarriers]
@[simp] theorem State.changeCarriers_pending (f : Carrier → CarrierEntry → CarrierEntry) : (s.changeCarriers f).pending = s.pending := by simp [State.changeCarriers]
@[simp] theorem State.changeCarrier_phase (k : Carrier) (f : CarrierEntry → CarrierEntry) : (s.changeCarrier k f).phase = s.phase := by simp [State.changeCarrier]
@[simp] theorem State.changeCarrier_pins (k : Carrier) (f : CarrierEntry → CarrierEntry) : (s.changeCarrier k f).pins = s.pins := by simp [State.changeCarrier]
@[simp] theorem State.changeCarrier_geo (k : Carrier) (f : CarrierEntry → CarrierEntry) : (s.changeCarrier k f).geo = s.geo := by simp [State.changeCarrier]
@[simp] theorem State.changeCarrier_pos (k : Carrier) (f : CarrierEntry → CarrierEntry) : (s.changeCarrier k f).pos = s.pos := by simp [State.changeCarrier]
@[simp] theorem State.changeCarrier_mem (k : Carrier) (f : CarrierEntry → CarrierEntry) : (s.changeCarrier k f).mem = s.mem := by simp [State.changeCarrier]
@[simp] theorem State.changeCarrier_load (k : Carrier) (f : CarrierEntry → CarrierEntry) : (s.changeCarrier k f).load = s.load := by simp [State.changeCarrier]
@[simp] theorem State.changeCarrier_tech (k : Carrier) (f : CarrierEntry → CarrierEntry) : (s.changeCarrier k f).tech = s.tech := by simp [State.changeCarrier]
@[simp] theorem State.changeCarrier_ptrs (k : Carrier) (f : CarrierEntry → CarrierEntry) : (s.changeCarrier k f).ptrs = s.ptrs := by simp [State.changeCarrier]
@[simp] theorem State.changeCarrier_queue (k : Carrier) (f : CarrierEntry → CarrierEntry) : (s.changeCarrier k f).queue = s.queue := by simp [State.changeCarrier]
@[simp] theorem State.changeCarrier_arm (k : Carrier) (f : CarrierEntry → CarrierEntry) : (s.changeCarrier k f).arm = s.arm := by simp [State.changeCarrier]
@[simp] theorem State.changeCarrier_image (k : Carrier) (f : CarrierEntry → CarrierEntry) : (s.changeCarrier k f).image = s.image := by simp [State.changeCarrier]
@[simp] theorem State.changeCarrier_heads (k : Carrier) (f : CarrierEntry → CarrierEntry) : (s.changeCarrier k f).heads = s.heads := by simp [State.changeCarrier]
@[simp] theorem State.changeCarrier_catchers (k : Carrier) (f : CarrierEntry → CarrierEntry) : (s.changeCarrier k f).catchers = s.catchers := by simp [State.changeCarrier]
@[simp] theorem State.changeCarrier_supply (k : Carrier) (f : CarrierEntry → CarrierEntry) : (s.changeCarrier k f).supply = s.supply := by simp [State.changeCarrier]
@[simp] theorem State.changeCarrier_stops (k : Carrier) (f : CarrierEntry → CarrierEntry) : (s.changeCarrier k f).stops = s.stops := by simp [State.changeCarrier]
@[simp] theorem State.changeCarrier_patternPort (k : Carrier) (f : CarrierEntry → CarrierEntry) : (s.changeCarrier k f).patternPort = s.patternPort := by simp [State.changeCarrier]
@[simp] theorem State.changeCarrier_drivePort (k : Carrier) (f : CarrierEntry → CarrierEntry) : (s.changeCarrier k f).drivePort = s.drivePort := by simp [State.changeCarrier]
@[simp] theorem State.changeCarrier_patternReasons (k : Carrier) (f : CarrierEntry → CarrierEntry) : (s.changeCarrier k f).patternReasons = s.patternReasons := by simp [State.changeCarrier]
@[simp] theorem State.changeCarrier_driveReasons (k : Carrier) (f : CarrierEntry → CarrierEntry) : (s.changeCarrier k f).driveReasons = s.driveReasons := by simp [State.changeCarrier]
@[simp] theorem State.changeCarrier_reasonCounts (k : Carrier) (f : CarrierEntry → CarrierEntry) : (s.changeCarrier k f).reasonCounts = s.reasonCounts := by simp [State.changeCarrier]
@[simp] theorem State.changeCarrier_freeIndex (k : Carrier) (f : CarrierEntry → CarrierEntry) : (s.changeCarrier k f).freeIndex = s.freeIndex := by simp [State.changeCarrier]
@[simp] theorem State.changeCarrier_pending (k : Carrier) (f : CarrierEntry → CarrierEntry) : (s.changeCarrier k f).pending = s.pending := by simp [State.changeCarrier]
@[simp] theorem State.raiseHeldCatchers_phase : s.raiseHeldCatchers.phase = s.phase := by simp [State.raiseHeldCatchers]
@[simp] theorem State.raiseHeldCatchers_pins : s.raiseHeldCatchers.pins = s.pins := by simp [State.raiseHeldCatchers]
@[simp] theorem State.raiseHeldCatchers_geo : s.raiseHeldCatchers.geo = s.geo := by simp [State.raiseHeldCatchers]
@[simp] theorem State.raiseHeldCatchers_pos : s.raiseHeldCatchers.pos = s.pos := by simp [State.raiseHeldCatchers]
@[simp] theorem State.raiseHeldCatchers_mem : s.raiseHeldCatchers.mem = s.mem := by simp [State.raiseHeldCatchers]
@[simp] theorem State.raiseHeldCatchers_load : s.raiseHeldCatchers.load = s.load := by simp [State.raiseHeldCatchers]
@[simp] theorem State.raiseHeldCatchers_tech : s.raiseHeldCatchers.tech = s.tech := by simp [State.raiseHeldCatchers]
@[simp] theorem State.raiseHeldCatchers_ptrs : s.raiseHeldCatchers.ptrs = s.ptrs := by simp [State.raiseHeldCatchers]
@[simp] theorem State.raiseHeldCatchers_queue : s.raiseHeldCatchers.queue = s.queue := by simp [State.raiseHeldCatchers]
@[simp] theorem State.raiseHeldCatchers_arm : s.raiseHeldCatchers.arm = s.arm := by simp [State.raiseHeldCatchers]
@[simp] theorem State.raiseHeldCatchers_image : s.raiseHeldCatchers.image = s.image := by simp [State.raiseHeldCatchers]
@[simp] theorem State.raiseHeldCatchers_heads : s.raiseHeldCatchers.heads = s.heads := by simp [State.raiseHeldCatchers]
@[simp] theorem State.raiseHeldCatchers_carriers : s.raiseHeldCatchers.carriers = s.carriers := by simp [State.raiseHeldCatchers]
@[simp] theorem State.raiseHeldCatchers_retained : s.raiseHeldCatchers.retained = s.retained := by simp [State.raiseHeldCatchers]
@[simp] theorem State.raiseHeldCatchers_supply : s.raiseHeldCatchers.supply = s.supply := by simp [State.raiseHeldCatchers]
@[simp] theorem State.raiseHeldCatchers_stops : s.raiseHeldCatchers.stops = s.stops := by simp [State.raiseHeldCatchers]
@[simp] theorem State.raiseHeldCatchers_patternPort : s.raiseHeldCatchers.patternPort = s.patternPort := by simp [State.raiseHeldCatchers]
@[simp] theorem State.raiseHeldCatchers_drivePort : s.raiseHeldCatchers.drivePort = s.drivePort := by simp [State.raiseHeldCatchers]
@[simp] theorem State.raiseHeldCatchers_patternReasons : s.raiseHeldCatchers.patternReasons = s.patternReasons := by simp [State.raiseHeldCatchers]
@[simp] theorem State.raiseHeldCatchers_driveReasons : s.raiseHeldCatchers.driveReasons = s.driveReasons := by simp [State.raiseHeldCatchers]
@[simp] theorem State.raiseHeldCatchers_reasonCounts : s.raiseHeldCatchers.reasonCounts = s.reasonCounts := by simp [State.raiseHeldCatchers]
@[simp] theorem State.raiseHeldCatchers_freeIndex : s.raiseHeldCatchers.freeIndex = s.freeIndex := by simp [State.raiseHeldCatchers]
@[simp] theorem State.raiseHeldCatchers_pending : s.raiseHeldCatchers.pending = s.pending := by simp [State.raiseHeldCatchers]
@[simp] theorem State.queueRetained_phase (c : RetainedChange) : (s.queueRetained c).phase = s.phase := by simp [State.queueRetained]
@[simp] theorem State.queueRetained_pins (c : RetainedChange) : (s.queueRetained c).pins = s.pins := by simp [State.queueRetained]
@[simp] theorem State.queueRetained_geo (c : RetainedChange) : (s.queueRetained c).geo = s.geo := by simp [State.queueRetained]
@[simp] theorem State.queueRetained_pos (c : RetainedChange) : (s.queueRetained c).pos = s.pos := by simp [State.queueRetained]
@[simp] theorem State.queueRetained_mem (c : RetainedChange) : (s.queueRetained c).mem = s.mem := by simp [State.queueRetained]
@[simp] theorem State.queueRetained_load (c : RetainedChange) : (s.queueRetained c).load = s.load := by simp [State.queueRetained]
@[simp] theorem State.queueRetained_tech (c : RetainedChange) : (s.queueRetained c).tech = s.tech := by simp [State.queueRetained]
@[simp] theorem State.queueRetained_ptrs (c : RetainedChange) : (s.queueRetained c).ptrs = s.ptrs := by simp [State.queueRetained]
@[simp] theorem State.queueRetained_queue (c : RetainedChange) : (s.queueRetained c).queue = s.queue := by simp [State.queueRetained]
@[simp] theorem State.queueRetained_arm (c : RetainedChange) : (s.queueRetained c).arm = s.arm := by simp [State.queueRetained]
@[simp] theorem State.queueRetained_image (c : RetainedChange) : (s.queueRetained c).image = s.image := by simp [State.queueRetained]
@[simp] theorem State.queueRetained_heads (c : RetainedChange) : (s.queueRetained c).heads = s.heads := by simp [State.queueRetained]
@[simp] theorem State.queueRetained_catchers (c : RetainedChange) : (s.queueRetained c).catchers = s.catchers := by simp [State.queueRetained]
@[simp] theorem State.queueRetained_carriers (c : RetainedChange) : (s.queueRetained c).carriers = s.carriers := by simp [State.queueRetained]
@[simp] theorem State.queueRetained_supply (c : RetainedChange) : (s.queueRetained c).supply = s.supply := by simp [State.queueRetained]
@[simp] theorem State.queueRetained_stops (c : RetainedChange) : (s.queueRetained c).stops = s.stops := by simp [State.queueRetained]
@[simp] theorem State.queueRetained_patternPort (c : RetainedChange) : (s.queueRetained c).patternPort = s.patternPort := by simp [State.queueRetained]
@[simp] theorem State.queueRetained_drivePort (c : RetainedChange) : (s.queueRetained c).drivePort = s.drivePort := by simp [State.queueRetained]
@[simp] theorem State.queueRetained_patternReasons (c : RetainedChange) : (s.queueRetained c).patternReasons = s.patternReasons := by simp [State.queueRetained]
@[simp] theorem State.queueRetained_driveReasons (c : RetainedChange) : (s.queueRetained c).driveReasons = s.driveReasons := by simp [State.queueRetained]
@[simp] theorem State.queueRetained_reasonCounts (c : RetainedChange) : (s.queueRetained c).reasonCounts = s.reasonCounts := by simp [State.queueRetained]
@[simp] theorem State.queueRetained_freeIndex (c : RetainedChange) : (s.queueRetained c).freeIndex = s.freeIndex := by simp [State.queueRetained]
@[simp] theorem State.queueRetained_pending (c : RetainedChange) : (s.queueRetained c).pending = s.pending := by simp [State.queueRetained]
@[simp] theorem State.releaseCourse_phase : s.releaseCourse.phase = s.phase := by simp [State.releaseCourse]
@[simp] theorem State.releaseCourse_pins : s.releaseCourse.pins = s.pins := by simp [State.releaseCourse]
@[simp] theorem State.releaseCourse_geo : s.releaseCourse.geo = s.geo := by simp [State.releaseCourse]
@[simp] theorem State.releaseCourse_pos : s.releaseCourse.pos = s.pos := by simp [State.releaseCourse]
@[simp] theorem State.releaseCourse_load : s.releaseCourse.load = s.load := by simp [State.releaseCourse]
@[simp] theorem State.releaseCourse_ptrs : s.releaseCourse.ptrs = s.ptrs := by simp [State.releaseCourse]
@[simp] theorem State.releaseCourse_queue : s.releaseCourse.queue = s.queue := by simp [State.releaseCourse]
@[simp] theorem State.releaseCourse_arm : s.releaseCourse.arm = s.arm := by simp [State.releaseCourse]
@[simp] theorem State.releaseCourse_heads : s.releaseCourse.heads = s.heads := by simp [State.releaseCourse]
@[simp] theorem State.releaseCourse_catchers : s.releaseCourse.catchers = s.catchers := by simp [State.releaseCourse]
@[simp] theorem State.releaseCourse_carriers : s.releaseCourse.carriers = s.carriers := by simp [State.releaseCourse]
@[simp] theorem State.releaseCourse_retained : s.releaseCourse.retained = s.retained := by simp [State.releaseCourse]
@[simp] theorem State.releaseCourse_supply : s.releaseCourse.supply = s.supply := by simp [State.releaseCourse]
@[simp] theorem State.releaseCourse_stops : s.releaseCourse.stops = s.stops := by simp [State.releaseCourse]
@[simp] theorem State.releaseCourse_patternPort : s.releaseCourse.patternPort = s.patternPort := by simp [State.releaseCourse]
@[simp] theorem State.releaseCourse_drivePort : s.releaseCourse.drivePort = s.drivePort := by simp [State.releaseCourse]
@[simp] theorem State.releaseCourse_patternReasons : s.releaseCourse.patternReasons = s.patternReasons := by simp [State.releaseCourse]
@[simp] theorem State.releaseCourse_driveReasons : s.releaseCourse.driveReasons = s.driveReasons := by simp [State.releaseCourse]
@[simp] theorem State.releaseCourse_reasonCounts : s.releaseCourse.reasonCounts = s.reasonCounts := by simp [State.releaseCourse]
@[simp] theorem State.releaseCourse_freeIndex : s.releaseCourse.freeIndex = s.freeIndex := by simp [State.releaseCourse]
@[simp] theorem State.releaseCourse_pending : s.releaseCourse.pending = s.pending := by simp [State.releaseCourse]
@[simp] theorem State.raiseFault_phase : s.raiseFault.phase = s.phase := by simp [State.raiseFault]
@[simp] theorem State.raiseFault_pins : s.raiseFault.pins = s.pins := by simp [State.raiseFault]
@[simp] theorem State.raiseFault_geo : s.raiseFault.geo = s.geo := by simp [State.raiseFault]
@[simp] theorem State.raiseFault_pos : s.raiseFault.pos = s.pos := by simp [State.raiseFault]
@[simp] theorem State.raiseFault_mem : s.raiseFault.mem = s.mem := by simp [State.raiseFault]
@[simp] theorem State.raiseFault_load : s.raiseFault.load = s.load := by simp [State.raiseFault]
@[simp] theorem State.raiseFault_tech : s.raiseFault.tech = s.tech := by simp [State.raiseFault]
@[simp] theorem State.raiseFault_ptrs : s.raiseFault.ptrs = s.ptrs := by simp [State.raiseFault]
@[simp] theorem State.raiseFault_queue : s.raiseFault.queue = s.queue := by simp [State.raiseFault]
@[simp] theorem State.raiseFault_arm : s.raiseFault.arm = s.arm := by simp [State.raiseFault]
@[simp] theorem State.raiseFault_image : s.raiseFault.image = s.image := by simp [State.raiseFault]
@[simp] theorem State.raiseFault_heads : s.raiseFault.heads = s.heads := by simp [State.raiseFault]
@[simp] theorem State.raiseFault_catchers : s.raiseFault.catchers = s.catchers := by simp [State.raiseFault]
@[simp] theorem State.raiseFault_carriers : s.raiseFault.carriers = s.carriers := by simp [State.raiseFault]
@[simp] theorem State.raiseFault_retained : s.raiseFault.retained = s.retained := by simp [State.raiseFault]
@[simp] theorem State.raiseFault_supply : s.raiseFault.supply = s.supply := by simp [State.raiseFault]
@[simp] theorem State.raiseFault_stops : s.raiseFault.stops = s.stops := by simp [State.raiseFault]
@[simp] theorem State.raiseFault_patternPort : s.raiseFault.patternPort = s.patternPort := by simp [State.raiseFault]
@[simp] theorem State.raiseFault_drivePort : s.raiseFault.drivePort = s.drivePort := by simp [State.raiseFault]
@[simp] theorem State.raiseFault_freeIndex : s.raiseFault.freeIndex = s.freeIndex := by simp [State.raiseFault]
@[simp] theorem State.raiseFault_pending : s.raiseFault.pending = s.pending := by simp [State.raiseFault]
@[simp] theorem State.raiseGrantWithdrawn_phase : s.raiseGrantWithdrawn.phase = s.phase := by simp [State.raiseGrantWithdrawn]
@[simp] theorem State.raiseGrantWithdrawn_pins : s.raiseGrantWithdrawn.pins = s.pins := by simp [State.raiseGrantWithdrawn]
@[simp] theorem State.raiseGrantWithdrawn_geo : s.raiseGrantWithdrawn.geo = s.geo := by simp [State.raiseGrantWithdrawn]
@[simp] theorem State.raiseGrantWithdrawn_pos : s.raiseGrantWithdrawn.pos = s.pos := by simp [State.raiseGrantWithdrawn]
@[simp] theorem State.raiseGrantWithdrawn_mem : s.raiseGrantWithdrawn.mem = s.mem := by simp [State.raiseGrantWithdrawn]
@[simp] theorem State.raiseGrantWithdrawn_load : s.raiseGrantWithdrawn.load = s.load := by simp [State.raiseGrantWithdrawn]
@[simp] theorem State.raiseGrantWithdrawn_tech : s.raiseGrantWithdrawn.tech = s.tech := by simp [State.raiseGrantWithdrawn]
@[simp] theorem State.raiseGrantWithdrawn_ptrs : s.raiseGrantWithdrawn.ptrs = s.ptrs := by simp [State.raiseGrantWithdrawn]
@[simp] theorem State.raiseGrantWithdrawn_queue : s.raiseGrantWithdrawn.queue = s.queue := by simp [State.raiseGrantWithdrawn]
@[simp] theorem State.raiseGrantWithdrawn_arm : s.raiseGrantWithdrawn.arm = s.arm := by simp [State.raiseGrantWithdrawn]
@[simp] theorem State.raiseGrantWithdrawn_image : s.raiseGrantWithdrawn.image = s.image := by simp [State.raiseGrantWithdrawn]
@[simp] theorem State.raiseGrantWithdrawn_heads : s.raiseGrantWithdrawn.heads = s.heads := by simp [State.raiseGrantWithdrawn]
@[simp] theorem State.raiseGrantWithdrawn_catchers : s.raiseGrantWithdrawn.catchers = s.catchers := by simp [State.raiseGrantWithdrawn]
@[simp] theorem State.raiseGrantWithdrawn_carriers : s.raiseGrantWithdrawn.carriers = s.carriers := by simp [State.raiseGrantWithdrawn]
@[simp] theorem State.raiseGrantWithdrawn_retained : s.raiseGrantWithdrawn.retained = s.retained := by simp [State.raiseGrantWithdrawn]
@[simp] theorem State.raiseGrantWithdrawn_supply : s.raiseGrantWithdrawn.supply = s.supply := by simp [State.raiseGrantWithdrawn]
@[simp] theorem State.raiseGrantWithdrawn_stops : s.raiseGrantWithdrawn.stops = s.stops := by simp [State.raiseGrantWithdrawn]
@[simp] theorem State.raiseGrantWithdrawn_patternPort : s.raiseGrantWithdrawn.patternPort = s.patternPort := by simp [State.raiseGrantWithdrawn]
@[simp] theorem State.raiseGrantWithdrawn_drivePort : s.raiseGrantWithdrawn.drivePort = s.drivePort := by simp [State.raiseGrantWithdrawn]
@[simp] theorem State.raiseGrantWithdrawn_patternReasons : s.raiseGrantWithdrawn.patternReasons = s.patternReasons := by simp [State.raiseGrantWithdrawn]
@[simp] theorem State.raiseGrantWithdrawn_freeIndex : s.raiseGrantWithdrawn.freeIndex = s.freeIndex := by simp [State.raiseGrantWithdrawn]
@[simp] theorem State.raiseGrantWithdrawn_pending : s.raiseGrantWithdrawn.pending = s.pending := by simp [State.raiseGrantWithdrawn]
@[simp] theorem State.raiseStrokeDone_phase : s.raiseStrokeDone.phase = s.phase := by simp [State.raiseStrokeDone]
@[simp] theorem State.raiseStrokeDone_pins : s.raiseStrokeDone.pins = s.pins := by simp [State.raiseStrokeDone]
@[simp] theorem State.raiseStrokeDone_geo : s.raiseStrokeDone.geo = s.geo := by simp [State.raiseStrokeDone]
@[simp] theorem State.raiseStrokeDone_pos : s.raiseStrokeDone.pos = s.pos := by simp [State.raiseStrokeDone]
@[simp] theorem State.raiseStrokeDone_mem : s.raiseStrokeDone.mem = s.mem := by simp [State.raiseStrokeDone]
@[simp] theorem State.raiseStrokeDone_load : s.raiseStrokeDone.load = s.load := by simp [State.raiseStrokeDone]
@[simp] theorem State.raiseStrokeDone_tech : s.raiseStrokeDone.tech = s.tech := by simp [State.raiseStrokeDone]
@[simp] theorem State.raiseStrokeDone_ptrs : s.raiseStrokeDone.ptrs = s.ptrs := by simp [State.raiseStrokeDone]
@[simp] theorem State.raiseStrokeDone_queue : s.raiseStrokeDone.queue = s.queue := by simp [State.raiseStrokeDone]
@[simp] theorem State.raiseStrokeDone_arm : s.raiseStrokeDone.arm = s.arm := by simp [State.raiseStrokeDone]
@[simp] theorem State.raiseStrokeDone_image : s.raiseStrokeDone.image = s.image := by simp [State.raiseStrokeDone]
@[simp] theorem State.raiseStrokeDone_heads : s.raiseStrokeDone.heads = s.heads := by simp [State.raiseStrokeDone]
@[simp] theorem State.raiseStrokeDone_catchers : s.raiseStrokeDone.catchers = s.catchers := by simp [State.raiseStrokeDone]
@[simp] theorem State.raiseStrokeDone_carriers : s.raiseStrokeDone.carriers = s.carriers := by simp [State.raiseStrokeDone]
@[simp] theorem State.raiseStrokeDone_retained : s.raiseStrokeDone.retained = s.retained := by simp [State.raiseStrokeDone]
@[simp] theorem State.raiseStrokeDone_supply : s.raiseStrokeDone.supply = s.supply := by simp [State.raiseStrokeDone]
@[simp] theorem State.raiseStrokeDone_stops : s.raiseStrokeDone.stops = s.stops := by simp [State.raiseStrokeDone]
@[simp] theorem State.raiseStrokeDone_patternPort : s.raiseStrokeDone.patternPort = s.patternPort := by simp [State.raiseStrokeDone]
@[simp] theorem State.raiseStrokeDone_drivePort : s.raiseStrokeDone.drivePort = s.drivePort := by simp [State.raiseStrokeDone]
@[simp] theorem State.raiseStrokeDone_patternReasons : s.raiseStrokeDone.patternReasons = s.patternReasons := by simp [State.raiseStrokeDone]
@[simp] theorem State.raiseStrokeDone_freeIndex : s.raiseStrokeDone.freeIndex = s.freeIndex := by simp [State.raiseStrokeDone]
@[simp] theorem State.raiseStrokeDone_pending : s.raiseStrokeDone.pending = s.pending := by simp [State.raiseStrokeDone]
@[simp] theorem State.raiseWakeDone_phase : s.raiseWakeDone.phase = s.phase := by simp [State.raiseWakeDone]
@[simp] theorem State.raiseWakeDone_pins : s.raiseWakeDone.pins = s.pins := by simp [State.raiseWakeDone]
@[simp] theorem State.raiseWakeDone_geo : s.raiseWakeDone.geo = s.geo := by simp [State.raiseWakeDone]
@[simp] theorem State.raiseWakeDone_pos : s.raiseWakeDone.pos = s.pos := by simp [State.raiseWakeDone]
@[simp] theorem State.raiseWakeDone_mem : s.raiseWakeDone.mem = s.mem := by simp [State.raiseWakeDone]
@[simp] theorem State.raiseWakeDone_load : s.raiseWakeDone.load = s.load := by simp [State.raiseWakeDone]
@[simp] theorem State.raiseWakeDone_tech : s.raiseWakeDone.tech = s.tech := by simp [State.raiseWakeDone]
@[simp] theorem State.raiseWakeDone_ptrs : s.raiseWakeDone.ptrs = s.ptrs := by simp [State.raiseWakeDone]
@[simp] theorem State.raiseWakeDone_queue : s.raiseWakeDone.queue = s.queue := by simp [State.raiseWakeDone]
@[simp] theorem State.raiseWakeDone_arm : s.raiseWakeDone.arm = s.arm := by simp [State.raiseWakeDone]
@[simp] theorem State.raiseWakeDone_image : s.raiseWakeDone.image = s.image := by simp [State.raiseWakeDone]
@[simp] theorem State.raiseWakeDone_heads : s.raiseWakeDone.heads = s.heads := by simp [State.raiseWakeDone]
@[simp] theorem State.raiseWakeDone_catchers : s.raiseWakeDone.catchers = s.catchers := by simp [State.raiseWakeDone]
@[simp] theorem State.raiseWakeDone_carriers : s.raiseWakeDone.carriers = s.carriers := by simp [State.raiseWakeDone]
@[simp] theorem State.raiseWakeDone_retained : s.raiseWakeDone.retained = s.retained := by simp [State.raiseWakeDone]
@[simp] theorem State.raiseWakeDone_supply : s.raiseWakeDone.supply = s.supply := by simp [State.raiseWakeDone]
@[simp] theorem State.raiseWakeDone_stops : s.raiseWakeDone.stops = s.stops := by simp [State.raiseWakeDone]
@[simp] theorem State.raiseWakeDone_patternPort : s.raiseWakeDone.patternPort = s.patternPort := by simp [State.raiseWakeDone]
@[simp] theorem State.raiseWakeDone_drivePort : s.raiseWakeDone.drivePort = s.drivePort := by simp [State.raiseWakeDone]
@[simp] theorem State.raiseWakeDone_patternReasons : s.raiseWakeDone.patternReasons = s.patternReasons := by simp [State.raiseWakeDone]
@[simp] theorem State.raiseWakeDone_freeIndex : s.raiseWakeDone.freeIndex = s.freeIndex := by simp [State.raiseWakeDone]
@[simp] theorem State.raiseWakeDone_pending : s.raiseWakeDone.pending = s.pending := by simp [State.raiseWakeDone]
@[simp] theorem State.raiseOutcome_phase (granted : Bool) : (s.raiseOutcome granted).phase = s.phase := by simp [State.raiseOutcome]
@[simp] theorem State.raiseOutcome_pins (granted : Bool) : (s.raiseOutcome granted).pins = s.pins := by simp [State.raiseOutcome]
@[simp] theorem State.raiseOutcome_geo (granted : Bool) : (s.raiseOutcome granted).geo = s.geo := by simp [State.raiseOutcome]
@[simp] theorem State.raiseOutcome_pos (granted : Bool) : (s.raiseOutcome granted).pos = s.pos := by simp [State.raiseOutcome]
@[simp] theorem State.raiseOutcome_mem (granted : Bool) : (s.raiseOutcome granted).mem = s.mem := by simp [State.raiseOutcome]
@[simp] theorem State.raiseOutcome_load (granted : Bool) : (s.raiseOutcome granted).load = s.load := by simp [State.raiseOutcome]
@[simp] theorem State.raiseOutcome_tech (granted : Bool) : (s.raiseOutcome granted).tech = s.tech := by simp [State.raiseOutcome]
@[simp] theorem State.raiseOutcome_ptrs (granted : Bool) : (s.raiseOutcome granted).ptrs = s.ptrs := by simp [State.raiseOutcome]
@[simp] theorem State.raiseOutcome_queue (granted : Bool) : (s.raiseOutcome granted).queue = s.queue := by simp [State.raiseOutcome]
@[simp] theorem State.raiseOutcome_arm (granted : Bool) : (s.raiseOutcome granted).arm = s.arm := by simp [State.raiseOutcome]
@[simp] theorem State.raiseOutcome_image (granted : Bool) : (s.raiseOutcome granted).image = s.image := by simp [State.raiseOutcome]
@[simp] theorem State.raiseOutcome_heads (granted : Bool) : (s.raiseOutcome granted).heads = s.heads := by simp [State.raiseOutcome]
@[simp] theorem State.raiseOutcome_catchers (granted : Bool) : (s.raiseOutcome granted).catchers = s.catchers := by simp [State.raiseOutcome]
@[simp] theorem State.raiseOutcome_carriers (granted : Bool) : (s.raiseOutcome granted).carriers = s.carriers := by simp [State.raiseOutcome]
@[simp] theorem State.raiseOutcome_retained (granted : Bool) : (s.raiseOutcome granted).retained = s.retained := by simp [State.raiseOutcome]
@[simp] theorem State.raiseOutcome_supply (granted : Bool) : (s.raiseOutcome granted).supply = s.supply := by simp [State.raiseOutcome]
@[simp] theorem State.raiseOutcome_stops (granted : Bool) : (s.raiseOutcome granted).stops = s.stops := by simp [State.raiseOutcome]
@[simp] theorem State.raiseOutcome_patternPort (granted : Bool) : (s.raiseOutcome granted).patternPort = s.patternPort := by simp [State.raiseOutcome]
@[simp] theorem State.raiseOutcome_drivePort (granted : Bool) : (s.raiseOutcome granted).drivePort = s.drivePort := by simp [State.raiseOutcome]
@[simp] theorem State.raiseOutcome_freeIndex (granted : Bool) : (s.raiseOutcome granted).freeIndex = s.freeIndex := by simp [State.raiseOutcome]
@[simp] theorem State.raiseOutcome_pending (granted : Bool) : (s.raiseOutcome granted).pending = s.pending := by simp [State.raiseOutcome]
@[simp] theorem State.setLatch_phase : s.setLatch.phase = s.phase := by unfold State.setLatch; dsimp only; split <;> simp
@[simp] theorem State.setLatch_pins : s.setLatch.pins = s.pins := by unfold State.setLatch; dsimp only; split <;> simp
@[simp] theorem State.setLatch_geo : s.setLatch.geo = s.geo := by unfold State.setLatch; dsimp only; split <;> simp
@[simp] theorem State.setLatch_pos : s.setLatch.pos = s.pos := by unfold State.setLatch; dsimp only; split <;> simp
@[simp] theorem State.setLatch_mem : s.setLatch.mem = s.mem := by unfold State.setLatch; dsimp only; split <;> simp
@[simp] theorem State.setLatch_load : s.setLatch.load = s.load := by unfold State.setLatch; dsimp only; split <;> simp
@[simp] theorem State.setLatch_tech : s.setLatch.tech = s.tech := by unfold State.setLatch; dsimp only; split <;> simp
@[simp] theorem State.setLatch_ptrs : s.setLatch.ptrs = s.ptrs := by unfold State.setLatch; dsimp only; split <;> simp
@[simp] theorem State.setLatch_queue : s.setLatch.queue = s.queue := by unfold State.setLatch; dsimp only; split <;> simp
@[simp] theorem State.setLatch_image : s.setLatch.image = s.image := by unfold State.setLatch; dsimp only; split <;> simp
@[simp] theorem State.setLatch_heads : s.setLatch.heads = s.heads := by unfold State.setLatch; dsimp only; split <;> simp
@[simp] theorem State.setLatch_catchers : s.setLatch.catchers = s.catchers := by unfold State.setLatch; dsimp only; split <;> simp
@[simp] theorem State.setLatch_carriers : s.setLatch.carriers = s.carriers := by unfold State.setLatch; dsimp only; split <;> simp
@[simp] theorem State.setLatch_retained : s.setLatch.retained = s.retained := by unfold State.setLatch; dsimp only; split <;> simp
@[simp] theorem State.setLatch_supply : s.setLatch.supply = s.supply := by unfold State.setLatch; dsimp only; split <;> simp
@[simp] theorem State.setLatch_patternPort : s.setLatch.patternPort = s.patternPort := by unfold State.setLatch; dsimp only; split <;> simp
@[simp] theorem State.setLatch_drivePort : s.setLatch.drivePort = s.drivePort := by unfold State.setLatch; dsimp only; split <;> simp
@[simp] theorem State.setLatch_patternReasons : s.setLatch.patternReasons = s.patternReasons := by unfold State.setLatch; dsimp only; split <;> simp
@[simp] theorem State.setLatch_driveReasons : s.setLatch.driveReasons = s.driveReasons := by unfold State.setLatch; dsimp only; split <;> simp
@[simp] theorem State.setLatch_reasonCounts : s.setLatch.reasonCounts = s.reasonCounts := by unfold State.setLatch; dsimp only; split <;> simp
@[simp] theorem State.setLatch_freeIndex : s.setLatch.freeIndex = s.freeIndex := by unfold State.setLatch; dsimp only; split <;> simp
@[simp] theorem State.setLatch_pending : s.setLatch.pending = s.pending := by unfold State.setLatch; dsimp only; split <;> simp
@[simp] theorem State.returnToQueued_phase : s.returnToQueued.phase = s.phase := by unfold State.returnToQueued; dsimp only; split <;> simp
@[simp] theorem State.returnToQueued_pins : s.returnToQueued.pins = s.pins := by unfold State.returnToQueued; dsimp only; split <;> simp
@[simp] theorem State.returnToQueued_geo : s.returnToQueued.geo = s.geo := by unfold State.returnToQueued; dsimp only; split <;> simp
@[simp] theorem State.returnToQueued_pos : s.returnToQueued.pos = s.pos := by unfold State.returnToQueued; dsimp only; split <;> simp
@[simp] theorem State.returnToQueued_load : s.returnToQueued.load = s.load := by unfold State.returnToQueued; dsimp only; split <;> simp
@[simp] theorem State.returnToQueued_ptrs : s.returnToQueued.ptrs = s.ptrs := by unfold State.returnToQueued; dsimp only; split <;> simp
@[simp] theorem State.returnToQueued_heads : s.returnToQueued.heads = s.heads := by unfold State.returnToQueued; dsimp only; split <;> simp
@[simp] theorem State.returnToQueued_catchers : s.returnToQueued.catchers = s.catchers := by unfold State.returnToQueued; dsimp only; split <;> simp
@[simp] theorem State.returnToQueued_carriers : s.returnToQueued.carriers = s.carriers := by unfold State.returnToQueued; dsimp only; split <;> simp
@[simp] theorem State.returnToQueued_retained : s.returnToQueued.retained = s.retained := by unfold State.returnToQueued; dsimp only; split <;> simp
@[simp] theorem State.returnToQueued_supply : s.returnToQueued.supply = s.supply := by unfold State.returnToQueued; dsimp only; split <;> simp
@[simp] theorem State.returnToQueued_stops : s.returnToQueued.stops = s.stops := by unfold State.returnToQueued; dsimp only; split <;> simp
@[simp] theorem State.returnToQueued_patternPort : s.returnToQueued.patternPort = s.patternPort := by unfold State.returnToQueued; dsimp only; split <;> simp
@[simp] theorem State.returnToQueued_drivePort : s.returnToQueued.drivePort = s.drivePort := by unfold State.returnToQueued; dsimp only; split <;> simp
@[simp] theorem State.returnToQueued_patternReasons : s.returnToQueued.patternReasons = s.patternReasons := by unfold State.returnToQueued; dsimp only; split <;> simp
@[simp] theorem State.returnToQueued_reasonCounts : s.returnToQueued.reasonCounts = s.reasonCounts := by unfold State.returnToQueued; dsimp only; split <;> simp
@[simp] theorem State.returnToQueued_freeIndex : s.returnToQueued.freeIndex = s.freeIndex := by unfold State.returnToQueued; dsimp only; split <;> simp
@[simp] theorem State.returnToQueued_pending : s.returnToQueued.pending = s.pending := by unfold State.returnToQueued; dsimp only; split <;> simp
@[simp] theorem State.strokeFault_phase (r : FaultReason) (k : Option Carrier) (h : Option Head) : (s.strokeFault r k h).phase = s.phase := by unfold State.strokeFault; split <;> [rfl; (split <;> simp)]
@[simp] theorem State.strokeFault_pins (r : FaultReason) (k : Option Carrier) (h : Option Head) : (s.strokeFault r k h).pins = s.pins := by unfold State.strokeFault; split <;> [rfl; (split <;> simp)]
@[simp] theorem State.strokeFault_geo (r : FaultReason) (k : Option Carrier) (h : Option Head) : (s.strokeFault r k h).geo = s.geo := by unfold State.strokeFault; split <;> [rfl; (split <;> simp)]
@[simp] theorem State.strokeFault_pos (r : FaultReason) (k : Option Carrier) (h : Option Head) : (s.strokeFault r k h).pos = s.pos := by unfold State.strokeFault; split <;> [rfl; (split <;> simp)]
@[simp] theorem State.strokeFault_mem (r : FaultReason) (k : Option Carrier) (h : Option Head) : (s.strokeFault r k h).mem = s.mem := by unfold State.strokeFault; split <;> [rfl; (split <;> simp)]
@[simp] theorem State.strokeFault_load (r : FaultReason) (k : Option Carrier) (h : Option Head) : (s.strokeFault r k h).load = s.load := by unfold State.strokeFault; split <;> [rfl; (split <;> simp)]
@[simp] theorem State.strokeFault_tech (r : FaultReason) (k : Option Carrier) (h : Option Head) : (s.strokeFault r k h).tech = s.tech := by unfold State.strokeFault; split <;> [rfl; (split <;> simp)]
@[simp] theorem State.strokeFault_ptrs (r : FaultReason) (k : Option Carrier) (h : Option Head) : (s.strokeFault r k h).ptrs = s.ptrs := by unfold State.strokeFault; split <;> [rfl; (split <;> simp)]
@[simp] theorem State.strokeFault_arm (r : FaultReason) (k : Option Carrier) (h : Option Head) : (s.strokeFault r k h).arm = s.arm := by unfold State.strokeFault; split <;> [rfl; (split <;> simp)]
@[simp] theorem State.strokeFault_image (r : FaultReason) (k : Option Carrier) (h : Option Head) : (s.strokeFault r k h).image = s.image := by unfold State.strokeFault; split <;> [rfl; (split <;> simp)]
@[simp] theorem State.strokeFault_catchers (r : FaultReason) (k : Option Carrier) (h : Option Head) : (s.strokeFault r k h).catchers = s.catchers := by unfold State.strokeFault; split <;> [rfl; (split <;> simp)]
@[simp] theorem State.strokeFault_supply (r : FaultReason) (k : Option Carrier) (h : Option Head) : (s.strokeFault r k h).supply = s.supply := by unfold State.strokeFault; split <;> [rfl; (split <;> simp)]
@[simp] theorem State.strokeFault_patternPort (r : FaultReason) (k : Option Carrier) (h : Option Head) : (s.strokeFault r k h).patternPort = s.patternPort := by unfold State.strokeFault; split <;> [rfl; (split <;> simp)]
@[simp] theorem State.strokeFault_drivePort (r : FaultReason) (k : Option Carrier) (h : Option Head) : (s.strokeFault r k h).drivePort = s.drivePort := by unfold State.strokeFault; split <;> [rfl; (split <;> simp)]
@[simp] theorem State.strokeFault_freeIndex (r : FaultReason) (k : Option Carrier) (h : Option Head) : (s.strokeFault r k h).freeIndex = s.freeIndex := by unfold State.strokeFault; split <;> [rfl; (split <;> simp)]
@[simp] theorem State.strokeFault_pending (r : FaultReason) (k : Option Carrier) (h : Option Head) : (s.strokeFault r k h).pending = s.pending := by unfold State.strokeFault; split <;> [rfl; (split <;> simp)]
@[simp] theorem State.losePosition_phase : s.losePosition.phase = s.phase := by unfold State.losePosition; dsimp only; split <;> simp
@[simp] theorem State.losePosition_pins : s.losePosition.pins = s.pins := by unfold State.losePosition; dsimp only; split <;> simp
@[simp] theorem State.losePosition_geo : s.losePosition.geo = s.geo := by unfold State.losePosition; dsimp only; split <;> simp
@[simp] theorem State.losePosition_load : s.losePosition.load = s.load := by unfold State.losePosition; dsimp only; split <;> simp
@[simp] theorem State.losePosition_ptrs : s.losePosition.ptrs = s.ptrs := by unfold State.losePosition; dsimp only; split <;> simp
@[simp] theorem State.losePosition_catchers : s.losePosition.catchers = s.catchers := by unfold State.losePosition; dsimp only; split <;> simp
@[simp] theorem State.losePosition_supply : s.losePosition.supply = s.supply := by unfold State.losePosition; dsimp only; split <;> simp
@[simp] theorem State.losePosition_patternPort : s.losePosition.patternPort = s.patternPort := by unfold State.losePosition; dsimp only; split <;> simp
@[simp] theorem State.losePosition_drivePort : s.losePosition.drivePort = s.drivePort := by unfold State.losePosition; dsimp only; split <;> simp
@[simp] theorem State.losePosition_freeIndex : s.losePosition.freeIndex = s.freeIndex := by unfold State.losePosition; dsimp only; split <;> simp
@[simp] theorem State.losePosition_pending : s.losePosition.pending = s.pending := by unfold State.losePosition; dsimp only; split <;> simp
@[simp] theorem State.retire_phase (o : CourseOutcome) : (s.retire o).phase = s.phase := by unfold State.retire; split <;> simp
@[simp] theorem State.retire_pins (o : CourseOutcome) : (s.retire o).pins = s.pins := by unfold State.retire; split <;> simp
@[simp] theorem State.retire_geo (o : CourseOutcome) : (s.retire o).geo = s.geo := by unfold State.retire; split <;> simp
@[simp] theorem State.retire_pos (o : CourseOutcome) : (s.retire o).pos = s.pos := by unfold State.retire; split <;> simp
@[simp] theorem State.retire_load (o : CourseOutcome) : (s.retire o).load = s.load := by unfold State.retire; split <;> simp
@[simp] theorem State.retire_ptrs (o : CourseOutcome) : (s.retire o).ptrs = s.ptrs := by unfold State.retire; split <;> simp
@[simp] theorem State.retire_arm (o : CourseOutcome) : (s.retire o).arm = s.arm := by unfold State.retire; split <;> simp
@[simp] theorem State.retire_catchers (o : CourseOutcome) : (s.retire o).catchers = s.catchers := by unfold State.retire; split <;> simp
@[simp] theorem State.retire_carriers (o : CourseOutcome) : (s.retire o).carriers = s.carriers := by unfold State.retire; split <;> simp
@[simp] theorem State.retire_retained (o : CourseOutcome) : (s.retire o).retained = s.retained := by unfold State.retire; split <;> simp
@[simp] theorem State.retire_supply (o : CourseOutcome) : (s.retire o).supply = s.supply := by unfold State.retire; split <;> simp
@[simp] theorem State.retire_stops (o : CourseOutcome) : (s.retire o).stops = s.stops := by unfold State.retire; split <;> simp
@[simp] theorem State.retire_patternPort (o : CourseOutcome) : (s.retire o).patternPort = s.patternPort := by unfold State.retire; split <;> simp
@[simp] theorem State.retire_drivePort (o : CourseOutcome) : (s.retire o).drivePort = s.drivePort := by unfold State.retire; split <;> simp
@[simp] theorem State.retire_driveReasons (o : CourseOutcome) : (s.retire o).driveReasons = s.driveReasons := by unfold State.retire; split <;> simp
@[simp] theorem State.retire_reasonCounts (o : CourseOutcome) : (s.retire o).reasonCounts = s.reasonCounts := by unfold State.retire; split <;> simp
@[simp] theorem State.retire_freeIndex (o : CourseOutcome) : (s.retire o).freeIndex = s.freeIndex := by unfold State.retire; split <;> simp
@[simp] theorem State.retire_pending (o : CourseOutcome) : (s.retire o).pending = s.pending := by unfold State.retire; split <;> simp
@[simp] theorem State.discardFaulted_phase : s.discardFaulted.phase = s.phase := by simp [State.discardFaulted]
@[simp] theorem State.discardFaulted_pins : s.discardFaulted.pins = s.pins := by simp [State.discardFaulted]
@[simp] theorem State.discardFaulted_geo : s.discardFaulted.geo = s.geo := by simp [State.discardFaulted]
@[simp] theorem State.discardFaulted_pos : s.discardFaulted.pos = s.pos := by simp [State.discardFaulted]
@[simp] theorem State.discardFaulted_load : s.discardFaulted.load = s.load := by simp [State.discardFaulted]
@[simp] theorem State.discardFaulted_ptrs : s.discardFaulted.ptrs = s.ptrs := by simp [State.discardFaulted]
@[simp] theorem State.discardFaulted_arm : s.discardFaulted.arm = s.arm := by simp [State.discardFaulted]
@[simp] theorem State.discardFaulted_supply : s.discardFaulted.supply = s.supply := by simp [State.discardFaulted]
@[simp] theorem State.discardFaulted_stops : s.discardFaulted.stops = s.stops := by simp [State.discardFaulted]
@[simp] theorem State.discardFaulted_patternPort : s.discardFaulted.patternPort = s.patternPort := by simp [State.discardFaulted]
@[simp] theorem State.discardFaulted_drivePort : s.discardFaulted.drivePort = s.drivePort := by simp [State.discardFaulted]
@[simp] theorem State.discardFaulted_driveReasons : s.discardFaulted.driveReasons = s.driveReasons := by simp [State.discardFaulted]
@[simp] theorem State.discardFaulted_reasonCounts : s.discardFaulted.reasonCounts = s.reasonCounts := by simp [State.discardFaulted]
@[simp] theorem State.discardFaulted_freeIndex : s.discardFaulted.freeIndex = s.freeIndex := by simp [State.discardFaulted]
@[simp] theorem State.discardFaulted_pending : s.discardFaulted.pending = s.pending := by simp [State.discardFaulted]
@[simp] theorem State.catchCarrier_phase (k : Carrier) (c : Int) : (s.catchCarrier k c).phase = s.phase := by unfold State.catchCarrier; dsimp only; split <;> simp
@[simp] theorem State.catchCarrier_pins (k : Carrier) (c : Int) : (s.catchCarrier k c).pins = s.pins := by unfold State.catchCarrier; dsimp only; split <;> simp
@[simp] theorem State.catchCarrier_geo (k : Carrier) (c : Int) : (s.catchCarrier k c).geo = s.geo := by unfold State.catchCarrier; dsimp only; split <;> simp
@[simp] theorem State.catchCarrier_pos (k : Carrier) (c : Int) : (s.catchCarrier k c).pos = s.pos := by unfold State.catchCarrier; dsimp only; split <;> simp
@[simp] theorem State.catchCarrier_mem (k : Carrier) (c : Int) : (s.catchCarrier k c).mem = s.mem := by unfold State.catchCarrier; dsimp only; split <;> simp
@[simp] theorem State.catchCarrier_load (k : Carrier) (c : Int) : (s.catchCarrier k c).load = s.load := by unfold State.catchCarrier; dsimp only; split <;> simp
@[simp] theorem State.catchCarrier_tech (k : Carrier) (c : Int) : (s.catchCarrier k c).tech = s.tech := by unfold State.catchCarrier; dsimp only; split <;> simp
@[simp] theorem State.catchCarrier_ptrs (k : Carrier) (c : Int) : (s.catchCarrier k c).ptrs = s.ptrs := by unfold State.catchCarrier; dsimp only; split <;> simp
@[simp] theorem State.catchCarrier_arm (k : Carrier) (c : Int) : (s.catchCarrier k c).arm = s.arm := by unfold State.catchCarrier; dsimp only; split <;> simp
@[simp] theorem State.catchCarrier_image (k : Carrier) (c : Int) : (s.catchCarrier k c).image = s.image := by unfold State.catchCarrier; dsimp only; split <;> simp
@[simp] theorem State.catchCarrier_supply (k : Carrier) (c : Int) : (s.catchCarrier k c).supply = s.supply := by unfold State.catchCarrier; dsimp only; split <;> simp
@[simp] theorem State.catchCarrier_patternPort (k : Carrier) (c : Int) : (s.catchCarrier k c).patternPort = s.patternPort := by unfold State.catchCarrier; dsimp only; split <;> simp
@[simp] theorem State.catchCarrier_drivePort (k : Carrier) (c : Int) : (s.catchCarrier k c).drivePort = s.drivePort := by unfold State.catchCarrier; dsimp only; split <;> simp
@[simp] theorem State.catchCarrier_freeIndex (k : Carrier) (c : Int) : (s.catchCarrier k c).freeIndex = s.freeIndex := by unfold State.catchCarrier; dsimp only; split <;> simp
@[simp] theorem State.catchCarrier_pending (k : Carrier) (c : Int) : (s.catchCarrier k c).pending = s.pending := by unfold State.catchCarrier; dsimp only; split <;> simp
@[simp] theorem State.releaseCarrier_phase (k : Carrier) (q : Int) : (s.releaseCarrier k q).phase = s.phase := by simp [State.releaseCarrier]
@[simp] theorem State.releaseCarrier_pins (k : Carrier) (q : Int) : (s.releaseCarrier k q).pins = s.pins := by simp [State.releaseCarrier]
@[simp] theorem State.releaseCarrier_geo (k : Carrier) (q : Int) : (s.releaseCarrier k q).geo = s.geo := by simp [State.releaseCarrier]
@[simp] theorem State.releaseCarrier_pos (k : Carrier) (q : Int) : (s.releaseCarrier k q).pos = s.pos := by simp [State.releaseCarrier]
@[simp] theorem State.releaseCarrier_mem (k : Carrier) (q : Int) : (s.releaseCarrier k q).mem = s.mem := by simp [State.releaseCarrier]
@[simp] theorem State.releaseCarrier_load (k : Carrier) (q : Int) : (s.releaseCarrier k q).load = s.load := by simp [State.releaseCarrier]
@[simp] theorem State.releaseCarrier_tech (k : Carrier) (q : Int) : (s.releaseCarrier k q).tech = s.tech := by simp [State.releaseCarrier]
@[simp] theorem State.releaseCarrier_ptrs (k : Carrier) (q : Int) : (s.releaseCarrier k q).ptrs = s.ptrs := by simp [State.releaseCarrier]
@[simp] theorem State.releaseCarrier_arm (k : Carrier) (q : Int) : (s.releaseCarrier k q).arm = s.arm := by simp [State.releaseCarrier]
@[simp] theorem State.releaseCarrier_image (k : Carrier) (q : Int) : (s.releaseCarrier k q).image = s.image := by simp [State.releaseCarrier]
@[simp] theorem State.releaseCarrier_heads (k : Carrier) (q : Int) : (s.releaseCarrier k q).heads = s.heads := by simp [State.releaseCarrier]
@[simp] theorem State.releaseCarrier_supply (k : Carrier) (q : Int) : (s.releaseCarrier k q).supply = s.supply := by simp [State.releaseCarrier]
@[simp] theorem State.releaseCarrier_stops (k : Carrier) (q : Int) : (s.releaseCarrier k q).stops = s.stops := by simp [State.releaseCarrier]
@[simp] theorem State.releaseCarrier_patternPort (k : Carrier) (q : Int) : (s.releaseCarrier k q).patternPort = s.patternPort := by simp [State.releaseCarrier]
@[simp] theorem State.releaseCarrier_drivePort (k : Carrier) (q : Int) : (s.releaseCarrier k q).drivePort = s.drivePort := by simp [State.releaseCarrier]
@[simp] theorem State.releaseCarrier_patternReasons (k : Carrier) (q : Int) : (s.releaseCarrier k q).patternReasons = s.patternReasons := by simp [State.releaseCarrier]
@[simp] theorem State.releaseCarrier_driveReasons (k : Carrier) (q : Int) : (s.releaseCarrier k q).driveReasons = s.driveReasons := by simp [State.releaseCarrier]
@[simp] theorem State.releaseCarrier_reasonCounts (k : Carrier) (q : Int) : (s.releaseCarrier k q).reasonCounts = s.reasonCounts := by simp [State.releaseCarrier]
@[simp] theorem State.releaseCarrier_freeIndex (k : Carrier) (q : Int) : (s.releaseCarrier k q).freeIndex = s.freeIndex := by simp [State.releaseCarrier]
@[simp] theorem State.releaseCarrier_pending (k : Carrier) (q : Int) : (s.releaseCarrier k q).pending = s.pending := by simp [State.releaseCarrier]
@[simp] theorem catcherEvent_phase (d : Direction) (c0 c : Int) (e : PlanEntry) : (catcherEvent d c0 c e s).2.phase = s.phase := by
  unfold catcherEvent; split <;> [rfl; (split <;> [simp; (split <;> simp)])]
@[simp] theorem catcherEvents_phase (d : Direction) (c0 c : Int) (l : List PlanEntry) :
    (catcherEvents d c0 c l s).2.phase = s.phase := by
  induction l generalizing s with
  | nil => rfl
  | cons e es ih => simp [catcherEvents, ih]
@[simp] theorem catcherEvent_pins (d : Direction) (c0 c : Int) (e : PlanEntry) : (catcherEvent d c0 c e s).2.pins = s.pins := by
  unfold catcherEvent; split <;> [rfl; (split <;> [simp; (split <;> simp)])]
@[simp] theorem catcherEvents_pins (d : Direction) (c0 c : Int) (l : List PlanEntry) :
    (catcherEvents d c0 c l s).2.pins = s.pins := by
  induction l generalizing s with
  | nil => rfl
  | cons e es ih => simp [catcherEvents, ih]
@[simp] theorem catcherEvent_geo (d : Direction) (c0 c : Int) (e : PlanEntry) : (catcherEvent d c0 c e s).2.geo = s.geo := by
  unfold catcherEvent; split <;> [rfl; (split <;> [simp; (split <;> simp)])]
@[simp] theorem catcherEvents_geo (d : Direction) (c0 c : Int) (l : List PlanEntry) :
    (catcherEvents d c0 c l s).2.geo = s.geo := by
  induction l generalizing s with
  | nil => rfl
  | cons e es ih => simp [catcherEvents, ih]
@[simp] theorem catcherEvent_pos (d : Direction) (c0 c : Int) (e : PlanEntry) : (catcherEvent d c0 c e s).2.pos = s.pos := by
  unfold catcherEvent; split <;> [rfl; (split <;> [simp; (split <;> simp)])]
@[simp] theorem catcherEvents_pos (d : Direction) (c0 c : Int) (l : List PlanEntry) :
    (catcherEvents d c0 c l s).2.pos = s.pos := by
  induction l generalizing s with
  | nil => rfl
  | cons e es ih => simp [catcherEvents, ih]
@[simp] theorem catcherEvent_mem (d : Direction) (c0 c : Int) (e : PlanEntry) : (catcherEvent d c0 c e s).2.mem = s.mem := by
  unfold catcherEvent; split <;> [rfl; (split <;> [simp; (split <;> simp)])]
@[simp] theorem catcherEvents_mem (d : Direction) (c0 c : Int) (l : List PlanEntry) :
    (catcherEvents d c0 c l s).2.mem = s.mem := by
  induction l generalizing s with
  | nil => rfl
  | cons e es ih => simp [catcherEvents, ih]
@[simp] theorem catcherEvent_load (d : Direction) (c0 c : Int) (e : PlanEntry) : (catcherEvent d c0 c e s).2.load = s.load := by
  unfold catcherEvent; split <;> [rfl; (split <;> [simp; (split <;> simp)])]
@[simp] theorem catcherEvents_load (d : Direction) (c0 c : Int) (l : List PlanEntry) :
    (catcherEvents d c0 c l s).2.load = s.load := by
  induction l generalizing s with
  | nil => rfl
  | cons e es ih => simp [catcherEvents, ih]
@[simp] theorem catcherEvent_tech (d : Direction) (c0 c : Int) (e : PlanEntry) : (catcherEvent d c0 c e s).2.tech = s.tech := by
  unfold catcherEvent; split <;> [rfl; (split <;> [simp; (split <;> simp)])]
@[simp] theorem catcherEvents_tech (d : Direction) (c0 c : Int) (l : List PlanEntry) :
    (catcherEvents d c0 c l s).2.tech = s.tech := by
  induction l generalizing s with
  | nil => rfl
  | cons e es ih => simp [catcherEvents, ih]
@[simp] theorem catcherEvent_ptrs (d : Direction) (c0 c : Int) (e : PlanEntry) : (catcherEvent d c0 c e s).2.ptrs = s.ptrs := by
  unfold catcherEvent; split <;> [rfl; (split <;> [simp; (split <;> simp)])]
@[simp] theorem catcherEvents_ptrs (d : Direction) (c0 c : Int) (l : List PlanEntry) :
    (catcherEvents d c0 c l s).2.ptrs = s.ptrs := by
  induction l generalizing s with
  | nil => rfl
  | cons e es ih => simp [catcherEvents, ih]
@[simp] theorem catcherEvent_arm (d : Direction) (c0 c : Int) (e : PlanEntry) : (catcherEvent d c0 c e s).2.arm = s.arm := by
  unfold catcherEvent; split <;> [rfl; (split <;> [simp; (split <;> simp)])]
@[simp] theorem catcherEvents_arm (d : Direction) (c0 c : Int) (l : List PlanEntry) :
    (catcherEvents d c0 c l s).2.arm = s.arm := by
  induction l generalizing s with
  | nil => rfl
  | cons e es ih => simp [catcherEvents, ih]
@[simp] theorem catcherEvent_image (d : Direction) (c0 c : Int) (e : PlanEntry) : (catcherEvent d c0 c e s).2.image = s.image := by
  unfold catcherEvent; split <;> [rfl; (split <;> [simp; (split <;> simp)])]
@[simp] theorem catcherEvents_image (d : Direction) (c0 c : Int) (l : List PlanEntry) :
    (catcherEvents d c0 c l s).2.image = s.image := by
  induction l generalizing s with
  | nil => rfl
  | cons e es ih => simp [catcherEvents, ih]
@[simp] theorem catcherEvent_supply (d : Direction) (c0 c : Int) (e : PlanEntry) : (catcherEvent d c0 c e s).2.supply = s.supply := by
  unfold catcherEvent; split <;> [rfl; (split <;> [simp; (split <;> simp)])]
@[simp] theorem catcherEvents_supply (d : Direction) (c0 c : Int) (l : List PlanEntry) :
    (catcherEvents d c0 c l s).2.supply = s.supply := by
  induction l generalizing s with
  | nil => rfl
  | cons e es ih => simp [catcherEvents, ih]
@[simp] theorem catcherEvent_patternPort (d : Direction) (c0 c : Int) (e : PlanEntry) : (catcherEvent d c0 c e s).2.patternPort = s.patternPort := by
  unfold catcherEvent; split <;> [rfl; (split <;> [simp; (split <;> simp)])]
@[simp] theorem catcherEvents_patternPort (d : Direction) (c0 c : Int) (l : List PlanEntry) :
    (catcherEvents d c0 c l s).2.patternPort = s.patternPort := by
  induction l generalizing s with
  | nil => rfl
  | cons e es ih => simp [catcherEvents, ih]
@[simp] theorem catcherEvent_drivePort (d : Direction) (c0 c : Int) (e : PlanEntry) : (catcherEvent d c0 c e s).2.drivePort = s.drivePort := by
  unfold catcherEvent; split <;> [rfl; (split <;> [simp; (split <;> simp)])]
@[simp] theorem catcherEvents_drivePort (d : Direction) (c0 c : Int) (l : List PlanEntry) :
    (catcherEvents d c0 c l s).2.drivePort = s.drivePort := by
  induction l generalizing s with
  | nil => rfl
  | cons e es ih => simp [catcherEvents, ih]
@[simp] theorem catcherEvent_freeIndex (d : Direction) (c0 c : Int) (e : PlanEntry) : (catcherEvent d c0 c e s).2.freeIndex = s.freeIndex := by
  unfold catcherEvent; split <;> [rfl; (split <;> [simp; (split <;> simp)])]
@[simp] theorem catcherEvents_freeIndex (d : Direction) (c0 c : Int) (l : List PlanEntry) :
    (catcherEvents d c0 c l s).2.freeIndex = s.freeIndex := by
  induction l generalizing s with
  | nil => rfl
  | cons e es ih => simp [catcherEvents, ih]
@[simp] theorem catcherEvent_pending (d : Direction) (c0 c : Int) (e : PlanEntry) : (catcherEvent d c0 c e s).2.pending = s.pending := by
  unfold catcherEvent; split <;> [rfl; (split <;> [simp; (split <;> simp)])]
@[simp] theorem catcherEvents_pending (d : Direction) (c0 c : Int) (l : List PlanEntry) :
    (catcherEvents d c0 c l s).2.pending = s.pending := by
  induction l generalizing s with
  | nil => rfl
  | cons e es ih => simp [catcherEvents, ih]
@[simp] theorem State.runCatchers_phase (d : Direction) (c0 c : Int) : (s.runCatchers d c0 c).phase = s.phase := by simp [State.runCatchers]
@[simp] theorem State.runCatchers_pins (d : Direction) (c0 c : Int) : (s.runCatchers d c0 c).pins = s.pins := by simp [State.runCatchers]
@[simp] theorem State.runCatchers_geo (d : Direction) (c0 c : Int) : (s.runCatchers d c0 c).geo = s.geo := by simp [State.runCatchers]
@[simp] theorem State.runCatchers_pos (d : Direction) (c0 c : Int) : (s.runCatchers d c0 c).pos = s.pos := by simp [State.runCatchers]
@[simp] theorem State.runCatchers_mem (d : Direction) (c0 c : Int) : (s.runCatchers d c0 c).mem = s.mem := by simp [State.runCatchers]
@[simp] theorem State.runCatchers_load (d : Direction) (c0 c : Int) : (s.runCatchers d c0 c).load = s.load := by simp [State.runCatchers]
@[simp] theorem State.runCatchers_tech (d : Direction) (c0 c : Int) : (s.runCatchers d c0 c).tech = s.tech := by simp [State.runCatchers]
@[simp] theorem State.runCatchers_ptrs (d : Direction) (c0 c : Int) : (s.runCatchers d c0 c).ptrs = s.ptrs := by simp [State.runCatchers]
@[simp] theorem State.runCatchers_arm (d : Direction) (c0 c : Int) : (s.runCatchers d c0 c).arm = s.arm := by simp [State.runCatchers]
@[simp] theorem State.runCatchers_supply (d : Direction) (c0 c : Int) : (s.runCatchers d c0 c).supply = s.supply := by simp [State.runCatchers]
@[simp] theorem State.runCatchers_patternPort (d : Direction) (c0 c : Int) : (s.runCatchers d c0 c).patternPort = s.patternPort := by simp [State.runCatchers]
@[simp] theorem State.runCatchers_drivePort (d : Direction) (c0 c : Int) : (s.runCatchers d c0 c).drivePort = s.drivePort := by simp [State.runCatchers]
@[simp] theorem State.runCatchers_freeIndex (d : Direction) (c0 c : Int) : (s.runCatchers d c0 c).freeIndex = s.freeIndex := by simp [State.runCatchers]
@[simp] theorem State.runCatchers_pending (d : Direction) (c0 c : Int) : (s.runCatchers d c0 c).pending = s.pending := by simp [State.runCatchers]
@[simp] theorem State.select_phase (h : Head) : (s.select h).phase = s.phase := by unfold State.select; split <;> [rfl; (dsimp only; split <;> [rfl; (split <;> simp)])]
@[simp] theorem State.select_pins (h : Head) : (s.select h).pins = s.pins := by unfold State.select; split <;> [rfl; (dsimp only; split <;> [rfl; (split <;> simp)])]
@[simp] theorem State.select_geo (h : Head) : (s.select h).geo = s.geo := by unfold State.select; split <;> [rfl; (dsimp only; split <;> [rfl; (split <;> simp)])]
@[simp] theorem State.select_pos (h : Head) : (s.select h).pos = s.pos := by unfold State.select; split <;> [rfl; (dsimp only; split <;> [rfl; (split <;> simp)])]
@[simp] theorem State.select_mem (h : Head) : (s.select h).mem = s.mem := by unfold State.select; split <;> [rfl; (dsimp only; split <;> [rfl; (split <;> simp)])]
@[simp] theorem State.select_load (h : Head) : (s.select h).load = s.load := by unfold State.select; split <;> [rfl; (dsimp only; split <;> [rfl; (split <;> simp)])]
@[simp] theorem State.select_tech (h : Head) : (s.select h).tech = s.tech := by unfold State.select; split <;> [rfl; (dsimp only; split <;> [rfl; (split <;> simp)])]
@[simp] theorem State.select_ptrs (h : Head) : (s.select h).ptrs = s.ptrs := by unfold State.select; split <;> [rfl; (dsimp only; split <;> [rfl; (split <;> simp)])]
@[simp] theorem State.select_arm (h : Head) : (s.select h).arm = s.arm := by unfold State.select; split <;> [rfl; (dsimp only; split <;> [rfl; (split <;> simp)])]
@[simp] theorem State.select_image (h : Head) : (s.select h).image = s.image := by unfold State.select; split <;> [rfl; (dsimp only; split <;> [rfl; (split <;> simp)])]
@[simp] theorem State.select_catchers (h : Head) : (s.select h).catchers = s.catchers := by unfold State.select; split <;> [rfl; (dsimp only; split <;> [rfl; (split <;> simp)])]
@[simp] theorem State.select_supply (h : Head) : (s.select h).supply = s.supply := by unfold State.select; split <;> [rfl; (dsimp only; split <;> [rfl; (split <;> simp)])]
@[simp] theorem State.select_patternPort (h : Head) : (s.select h).patternPort = s.patternPort := by unfold State.select; split <;> [rfl; (dsimp only; split <;> [rfl; (split <;> simp)])]
@[simp] theorem State.select_drivePort (h : Head) : (s.select h).drivePort = s.drivePort := by unfold State.select; split <;> [rfl; (dsimp only; split <;> [rfl; (split <;> simp)])]
@[simp] theorem State.select_freeIndex (h : Head) : (s.select h).freeIndex = s.freeIndex := by unfold State.select; split <;> [rfl; (dsimp only; split <;> [rfl; (split <;> simp)])]
@[simp] theorem State.select_pending (h : Head) : (s.select h).pending = s.pending := by unfold State.select; split <;> [rfl; (dsimp only; split <;> [rfl; (split <;> simp)])]
theorem releaseFold_phase (l : List PlanEntry) (t : State) :
    (l.foldl (fun t e => if e.progress = .carrying then t.releaseCarrier e.carrier e.release else t) t).phase = t.phase := by
  induction l generalizing t with
  | nil => rfl
  | cons e es ih => rw [List.foldl_cons, ih]; split <;> simp
theorem releaseFold_pins (l : List PlanEntry) (t : State) :
    (l.foldl (fun t e => if e.progress = .carrying then t.releaseCarrier e.carrier e.release else t) t).pins = t.pins := by
  induction l generalizing t with
  | nil => rfl
  | cons e es ih => rw [List.foldl_cons, ih]; split <;> simp
theorem releaseFold_geo (l : List PlanEntry) (t : State) :
    (l.foldl (fun t e => if e.progress = .carrying then t.releaseCarrier e.carrier e.release else t) t).geo = t.geo := by
  induction l generalizing t with
  | nil => rfl
  | cons e es ih => rw [List.foldl_cons, ih]; split <;> simp
theorem releaseFold_pos (l : List PlanEntry) (t : State) :
    (l.foldl (fun t e => if e.progress = .carrying then t.releaseCarrier e.carrier e.release else t) t).pos = t.pos := by
  induction l generalizing t with
  | nil => rfl
  | cons e es ih => rw [List.foldl_cons, ih]; split <;> simp
theorem releaseFold_mem (l : List PlanEntry) (t : State) :
    (l.foldl (fun t e => if e.progress = .carrying then t.releaseCarrier e.carrier e.release else t) t).mem = t.mem := by
  induction l generalizing t with
  | nil => rfl
  | cons e es ih => rw [List.foldl_cons, ih]; split <;> simp
theorem releaseFold_load (l : List PlanEntry) (t : State) :
    (l.foldl (fun t e => if e.progress = .carrying then t.releaseCarrier e.carrier e.release else t) t).load = t.load := by
  induction l generalizing t with
  | nil => rfl
  | cons e es ih => rw [List.foldl_cons, ih]; split <;> simp
theorem releaseFold_tech (l : List PlanEntry) (t : State) :
    (l.foldl (fun t e => if e.progress = .carrying then t.releaseCarrier e.carrier e.release else t) t).tech = t.tech := by
  induction l generalizing t with
  | nil => rfl
  | cons e es ih => rw [List.foldl_cons, ih]; split <;> simp
theorem releaseFold_ptrs (l : List PlanEntry) (t : State) :
    (l.foldl (fun t e => if e.progress = .carrying then t.releaseCarrier e.carrier e.release else t) t).ptrs = t.ptrs := by
  induction l generalizing t with
  | nil => rfl
  | cons e es ih => rw [List.foldl_cons, ih]; split <;> simp
theorem releaseFold_arm (l : List PlanEntry) (t : State) :
    (l.foldl (fun t e => if e.progress = .carrying then t.releaseCarrier e.carrier e.release else t) t).arm = t.arm := by
  induction l generalizing t with
  | nil => rfl
  | cons e es ih => rw [List.foldl_cons, ih]; split <;> simp
theorem releaseFold_image (l : List PlanEntry) (t : State) :
    (l.foldl (fun t e => if e.progress = .carrying then t.releaseCarrier e.carrier e.release else t) t).image = t.image := by
  induction l generalizing t with
  | nil => rfl
  | cons e es ih => rw [List.foldl_cons, ih]; split <;> simp
theorem releaseFold_heads (l : List PlanEntry) (t : State) :
    (l.foldl (fun t e => if e.progress = .carrying then t.releaseCarrier e.carrier e.release else t) t).heads = t.heads := by
  induction l generalizing t with
  | nil => rfl
  | cons e es ih => rw [List.foldl_cons, ih]; split <;> simp
theorem releaseFold_supply (l : List PlanEntry) (t : State) :
    (l.foldl (fun t e => if e.progress = .carrying then t.releaseCarrier e.carrier e.release else t) t).supply = t.supply := by
  induction l generalizing t with
  | nil => rfl
  | cons e es ih => rw [List.foldl_cons, ih]; split <;> simp
theorem releaseFold_stops (l : List PlanEntry) (t : State) :
    (l.foldl (fun t e => if e.progress = .carrying then t.releaseCarrier e.carrier e.release else t) t).stops = t.stops := by
  induction l generalizing t with
  | nil => rfl
  | cons e es ih => rw [List.foldl_cons, ih]; split <;> simp
theorem releaseFold_patternPort (l : List PlanEntry) (t : State) :
    (l.foldl (fun t e => if e.progress = .carrying then t.releaseCarrier e.carrier e.release else t) t).patternPort = t.patternPort := by
  induction l generalizing t with
  | nil => rfl
  | cons e es ih => rw [List.foldl_cons, ih]; split <;> simp
theorem releaseFold_drivePort (l : List PlanEntry) (t : State) :
    (l.foldl (fun t e => if e.progress = .carrying then t.releaseCarrier e.carrier e.release else t) t).drivePort = t.drivePort := by
  induction l generalizing t with
  | nil => rfl
  | cons e es ih => rw [List.foldl_cons, ih]; split <;> simp
theorem releaseFold_patternReasons (l : List PlanEntry) (t : State) :
    (l.foldl (fun t e => if e.progress = .carrying then t.releaseCarrier e.carrier e.release else t) t).patternReasons = t.patternReasons := by
  induction l generalizing t with
  | nil => rfl
  | cons e es ih => rw [List.foldl_cons, ih]; split <;> simp
theorem releaseFold_driveReasons (l : List PlanEntry) (t : State) :
    (l.foldl (fun t e => if e.progress = .carrying then t.releaseCarrier e.carrier e.release else t) t).driveReasons = t.driveReasons := by
  induction l generalizing t with
  | nil => rfl
  | cons e es ih => rw [List.foldl_cons, ih]; split <;> simp
theorem releaseFold_reasonCounts (l : List PlanEntry) (t : State) :
    (l.foldl (fun t e => if e.progress = .carrying then t.releaseCarrier e.carrier e.release else t) t).reasonCounts = t.reasonCounts := by
  induction l generalizing t with
  | nil => rfl
  | cons e es ih => rw [List.foldl_cons, ih]; split <;> simp
theorem releaseFold_freeIndex (l : List PlanEntry) (t : State) :
    (l.foldl (fun t e => if e.progress = .carrying then t.releaseCarrier e.carrier e.release else t) t).freeIndex = t.freeIndex := by
  induction l generalizing t with
  | nil => rfl
  | cons e es ih => rw [List.foldl_cons, ih]; split <;> simp
theorem releaseFold_pending (l : List PlanEntry) (t : State) :
    (l.foldl (fun t e => if e.progress = .carrying then t.releaseCarrier e.carrier e.release else t) t).pending = t.pending := by
  induction l generalizing t with
  | nil => rfl
  | cons e es ih => rw [List.foldl_cons, ih]; split <;> simp
@[simp] theorem State.releaseCarrying_phase : s.releaseCarrying.phase = s.phase := by unfold State.releaseCarrying; exact releaseFold_phase _ _
@[simp] theorem State.releaseCarrying_pins : s.releaseCarrying.pins = s.pins := by unfold State.releaseCarrying; exact releaseFold_pins _ _
@[simp] theorem State.releaseCarrying_geo : s.releaseCarrying.geo = s.geo := by unfold State.releaseCarrying; exact releaseFold_geo _ _
@[simp] theorem State.releaseCarrying_pos : s.releaseCarrying.pos = s.pos := by unfold State.releaseCarrying; exact releaseFold_pos _ _
@[simp] theorem State.releaseCarrying_mem : s.releaseCarrying.mem = s.mem := by unfold State.releaseCarrying; exact releaseFold_mem _ _
@[simp] theorem State.releaseCarrying_load : s.releaseCarrying.load = s.load := by unfold State.releaseCarrying; exact releaseFold_load _ _
@[simp] theorem State.releaseCarrying_tech : s.releaseCarrying.tech = s.tech := by unfold State.releaseCarrying; exact releaseFold_tech _ _
@[simp] theorem State.releaseCarrying_ptrs : s.releaseCarrying.ptrs = s.ptrs := by unfold State.releaseCarrying; exact releaseFold_ptrs _ _
@[simp] theorem State.releaseCarrying_arm : s.releaseCarrying.arm = s.arm := by unfold State.releaseCarrying; exact releaseFold_arm _ _
@[simp] theorem State.releaseCarrying_image : s.releaseCarrying.image = s.image := by unfold State.releaseCarrying; exact releaseFold_image _ _
@[simp] theorem State.releaseCarrying_heads : s.releaseCarrying.heads = s.heads := by unfold State.releaseCarrying; exact releaseFold_heads _ _
@[simp] theorem State.releaseCarrying_supply : s.releaseCarrying.supply = s.supply := by unfold State.releaseCarrying; exact releaseFold_supply _ _
@[simp] theorem State.releaseCarrying_stops : s.releaseCarrying.stops = s.stops := by unfold State.releaseCarrying; exact releaseFold_stops _ _
@[simp] theorem State.releaseCarrying_patternPort : s.releaseCarrying.patternPort = s.patternPort := by unfold State.releaseCarrying; exact releaseFold_patternPort _ _
@[simp] theorem State.releaseCarrying_drivePort : s.releaseCarrying.drivePort = s.drivePort := by unfold State.releaseCarrying; exact releaseFold_drivePort _ _
@[simp] theorem State.releaseCarrying_patternReasons : s.releaseCarrying.patternReasons = s.patternReasons := by unfold State.releaseCarrying; exact releaseFold_patternReasons _ _
@[simp] theorem State.releaseCarrying_driveReasons : s.releaseCarrying.driveReasons = s.driveReasons := by unfold State.releaseCarrying; exact releaseFold_driveReasons _ _
@[simp] theorem State.releaseCarrying_reasonCounts : s.releaseCarrying.reasonCounts = s.reasonCounts := by unfold State.releaseCarrying; exact releaseFold_reasonCounts _ _
@[simp] theorem State.releaseCarrying_freeIndex : s.releaseCarrying.freeIndex = s.freeIndex := by unfold State.releaseCarrying; exact releaseFold_freeIndex _ _
@[simp] theorem State.releaseCarrying_pending : s.releaseCarrying.pending = s.pending := by unfold State.releaseCarrying; exact releaseFold_pending _ _
@[simp] theorem State.completeStroke_phase : s.completeStroke.phase = s.phase := by simp [State.completeStroke]
@[simp] theorem State.completeStroke_pins : s.completeStroke.pins = s.pins := by simp [State.completeStroke]
@[simp] theorem State.completeStroke_geo : s.completeStroke.geo = s.geo := by simp [State.completeStroke]
@[simp] theorem State.completeStroke_pos : s.completeStroke.pos = s.pos := by simp [State.completeStroke]
@[simp] theorem State.completeStroke_load : s.completeStroke.load = s.load := by simp [State.completeStroke]
@[simp] theorem State.completeStroke_ptrs : s.completeStroke.ptrs = s.ptrs := by simp [State.completeStroke]
@[simp] theorem State.completeStroke_arm : s.completeStroke.arm = s.arm := by simp [State.completeStroke]
@[simp] theorem State.completeStroke_supply : s.completeStroke.supply = s.supply := by simp [State.completeStroke]
@[simp] theorem State.completeStroke_stops : s.completeStroke.stops = s.stops := by simp [State.completeStroke]
@[simp] theorem State.completeStroke_patternPort : s.completeStroke.patternPort = s.patternPort := by simp [State.completeStroke]
@[simp] theorem State.completeStroke_drivePort : s.completeStroke.drivePort = s.drivePort := by simp [State.completeStroke]
@[simp] theorem State.completeStroke_freeIndex : s.completeStroke.freeIndex = s.freeIndex := by simp [State.completeStroke]
@[simp] theorem State.completeStroke_pending : s.completeStroke.pending = s.pending := by simp [State.completeStroke]
@[simp] theorem State.examineCompletion_phase : s.examineCompletion.phase = s.phase := by unfold State.examineCompletion; split <;> [(split <;> simp); rfl]
@[simp] theorem State.examineCompletion_pins : s.examineCompletion.pins = s.pins := by unfold State.examineCompletion; split <;> [(split <;> simp); rfl]
@[simp] theorem State.examineCompletion_geo : s.examineCompletion.geo = s.geo := by unfold State.examineCompletion; split <;> [(split <;> simp); rfl]
@[simp] theorem State.examineCompletion_pos : s.examineCompletion.pos = s.pos := by unfold State.examineCompletion; split <;> [(split <;> simp); rfl]
@[simp] theorem State.examineCompletion_load : s.examineCompletion.load = s.load := by unfold State.examineCompletion; split <;> [(split <;> simp); rfl]
@[simp] theorem State.examineCompletion_ptrs : s.examineCompletion.ptrs = s.ptrs := by unfold State.examineCompletion; split <;> [(split <;> simp); rfl]
@[simp] theorem State.examineCompletion_arm : s.examineCompletion.arm = s.arm := by unfold State.examineCompletion; split <;> [(split <;> simp); rfl]
@[simp] theorem State.examineCompletion_supply : s.examineCompletion.supply = s.supply := by unfold State.examineCompletion; split <;> [(split <;> simp); rfl]
@[simp] theorem State.examineCompletion_stops : s.examineCompletion.stops = s.stops := by unfold State.examineCompletion; split <;> [(split <;> simp); rfl]
@[simp] theorem State.examineCompletion_patternPort : s.examineCompletion.patternPort = s.patternPort := by unfold State.examineCompletion; split <;> [(split <;> simp); rfl]
@[simp] theorem State.examineCompletion_drivePort : s.examineCompletion.drivePort = s.drivePort := by unfold State.examineCompletion; split <;> [(split <;> simp); rfl]
@[simp] theorem State.examineCompletion_freeIndex : s.examineCompletion.freeIndex = s.freeIndex := by unfold State.examineCompletion; split <;> [(split <;> simp); rfl]
@[simp] theorem State.examineCompletion_pending : s.examineCompletion.pending = s.pending := by unfold State.examineCompletion; split <;> [(split <;> simp); rfl]
@[simp] theorem State.runWork_phase (p0 : Nat) (w : CountWork) : (s.runWork p0 w).phase = s.phase := by unfold State.runWork; split <;> [(split <;> [simp; (split <;> simp); simp; simp]); rfl]
@[simp] theorem State.runWork_pins (p0 : Nat) (w : CountWork) : (s.runWork p0 w).pins = s.pins := by unfold State.runWork; split <;> [(split <;> [simp; (split <;> simp); simp; simp]); rfl]
@[simp] theorem State.runWork_geo (p0 : Nat) (w : CountWork) : (s.runWork p0 w).geo = s.geo := by unfold State.runWork; split <;> [(split <;> [simp; (split <;> simp); simp; simp]); rfl]
@[simp] theorem State.runWork_pos (p0 : Nat) (w : CountWork) : (s.runWork p0 w).pos = s.pos := by unfold State.runWork; split <;> [(split <;> [simp; (split <;> simp); simp; simp]); rfl]
@[simp] theorem State.runWork_load (p0 : Nat) (w : CountWork) : (s.runWork p0 w).load = s.load := by unfold State.runWork; split <;> [(split <;> [simp; (split <;> simp); simp; simp]); rfl]
@[simp] theorem State.runWork_ptrs (p0 : Nat) (w : CountWork) : (s.runWork p0 w).ptrs = s.ptrs := by unfold State.runWork; split <;> [(split <;> [simp; (split <;> simp); simp; simp]); rfl]
@[simp] theorem State.runWork_arm (p0 : Nat) (w : CountWork) : (s.runWork p0 w).arm = s.arm := by unfold State.runWork; split <;> [(split <;> [simp; (split <;> simp); simp; simp]); rfl]
@[simp] theorem State.runWork_supply (p0 : Nat) (w : CountWork) : (s.runWork p0 w).supply = s.supply := by unfold State.runWork; split <;> [(split <;> [simp; (split <;> simp); simp; simp]); rfl]
@[simp] theorem State.runWork_patternPort (p0 : Nat) (w : CountWork) : (s.runWork p0 w).patternPort = s.patternPort := by unfold State.runWork; split <;> [(split <;> [simp; (split <;> simp); simp; simp]); rfl]
@[simp] theorem State.runWork_drivePort (p0 : Nat) (w : CountWork) : (s.runWork p0 w).drivePort = s.drivePort := by unfold State.runWork; split <;> [(split <;> [simp; (split <;> simp); simp; simp]); rfl]
@[simp] theorem State.runWork_freeIndex (p0 : Nat) (w : CountWork) : (s.runWork p0 w).freeIndex = s.freeIndex := by unfold State.runWork; split <;> [(split <;> [simp; (split <;> simp); simp; simp]); rfl]
@[simp] theorem State.runWork_pending (p0 : Nat) (w : CountWork) : (s.runWork p0 w).pending = s.pending := by unfold State.runWork; split <;> [(split <;> [simp; (split <;> simp); simp; simp]); rfl]
@[simp] theorem State.followCatchers_phase (d : Direction) (p0 : Nat) : (s.followCatchers d p0).phase = s.phase := by unfold State.followCatchers; dsimp only; split <;> simp
@[simp] theorem State.followCatchers_pins (d : Direction) (p0 : Nat) : (s.followCatchers d p0).pins = s.pins := by unfold State.followCatchers; dsimp only; split <;> simp
@[simp] theorem State.followCatchers_geo (d : Direction) (p0 : Nat) : (s.followCatchers d p0).geo = s.geo := by unfold State.followCatchers; dsimp only; split <;> simp
@[simp] theorem State.followCatchers_pos (d : Direction) (p0 : Nat) : (s.followCatchers d p0).pos = s.pos := by unfold State.followCatchers; dsimp only; split <;> simp
@[simp] theorem State.followCatchers_mem (d : Direction) (p0 : Nat) : (s.followCatchers d p0).mem = s.mem := by unfold State.followCatchers; dsimp only; split <;> simp
@[simp] theorem State.followCatchers_load (d : Direction) (p0 : Nat) : (s.followCatchers d p0).load = s.load := by unfold State.followCatchers; dsimp only; split <;> simp
@[simp] theorem State.followCatchers_tech (d : Direction) (p0 : Nat) : (s.followCatchers d p0).tech = s.tech := by unfold State.followCatchers; dsimp only; split <;> simp
@[simp] theorem State.followCatchers_ptrs (d : Direction) (p0 : Nat) : (s.followCatchers d p0).ptrs = s.ptrs := by unfold State.followCatchers; dsimp only; split <;> simp
@[simp] theorem State.followCatchers_queue (d : Direction) (p0 : Nat) : (s.followCatchers d p0).queue = s.queue := by unfold State.followCatchers; dsimp only; split <;> simp
@[simp] theorem State.followCatchers_arm (d : Direction) (p0 : Nat) : (s.followCatchers d p0).arm = s.arm := by unfold State.followCatchers; dsimp only; split <;> simp
@[simp] theorem State.followCatchers_image (d : Direction) (p0 : Nat) : (s.followCatchers d p0).image = s.image := by unfold State.followCatchers; dsimp only; split <;> simp
@[simp] theorem State.followCatchers_heads (d : Direction) (p0 : Nat) : (s.followCatchers d p0).heads = s.heads := by unfold State.followCatchers; dsimp only; split <;> simp
@[simp] theorem State.followCatchers_catchers (d : Direction) (p0 : Nat) : (s.followCatchers d p0).catchers = s.catchers := by unfold State.followCatchers; dsimp only; split <;> simp
@[simp] theorem State.followCatchers_supply (d : Direction) (p0 : Nat) : (s.followCatchers d p0).supply = s.supply := by unfold State.followCatchers; dsimp only; split <;> simp
@[simp] theorem State.followCatchers_stops (d : Direction) (p0 : Nat) : (s.followCatchers d p0).stops = s.stops := by unfold State.followCatchers; dsimp only; split <;> simp
@[simp] theorem State.followCatchers_patternPort (d : Direction) (p0 : Nat) : (s.followCatchers d p0).patternPort = s.patternPort := by unfold State.followCatchers; dsimp only; split <;> simp
@[simp] theorem State.followCatchers_drivePort (d : Direction) (p0 : Nat) : (s.followCatchers d p0).drivePort = s.drivePort := by unfold State.followCatchers; dsimp only; split <;> simp
@[simp] theorem State.followCatchers_patternReasons (d : Direction) (p0 : Nat) : (s.followCatchers d p0).patternReasons = s.patternReasons := by unfold State.followCatchers; dsimp only; split <;> simp
@[simp] theorem State.followCatchers_driveReasons (d : Direction) (p0 : Nat) : (s.followCatchers d p0).driveReasons = s.driveReasons := by unfold State.followCatchers; dsimp only; split <;> simp
@[simp] theorem State.followCatchers_reasonCounts (d : Direction) (p0 : Nat) : (s.followCatchers d p0).reasonCounts = s.reasonCounts := by unfold State.followCatchers; dsimp only; split <;> simp
@[simp] theorem State.followCatchers_freeIndex (d : Direction) (p0 : Nat) : (s.followCatchers d p0).freeIndex = s.freeIndex := by unfold State.followCatchers; dsimp only; split <;> simp
@[simp] theorem State.followCatchers_pending (d : Direction) (p0 : Nat) : (s.followCatchers d p0).pending = s.pending := by unfold State.followCatchers; dsimp only; split <;> simp
@[simp] theorem runFold_phase (p0 : Nat) (l : List CountWork) :
    (l.foldl (fun u w => u.runWork p0 w) s).phase = s.phase := by
  induction l generalizing s with
  | nil => rfl
  | cons w ws ih => rw [List.foldl_cons, ih]; simp
@[simp] theorem runFold_pins (p0 : Nat) (l : List CountWork) :
    (l.foldl (fun u w => u.runWork p0 w) s).pins = s.pins := by
  induction l generalizing s with
  | nil => rfl
  | cons w ws ih => rw [List.foldl_cons, ih]; simp
@[simp] theorem runFold_geo (p0 : Nat) (l : List CountWork) :
    (l.foldl (fun u w => u.runWork p0 w) s).geo = s.geo := by
  induction l generalizing s with
  | nil => rfl
  | cons w ws ih => rw [List.foldl_cons, ih]; simp
@[simp] theorem runFold_pos (p0 : Nat) (l : List CountWork) :
    (l.foldl (fun u w => u.runWork p0 w) s).pos = s.pos := by
  induction l generalizing s with
  | nil => rfl
  | cons w ws ih => rw [List.foldl_cons, ih]; simp
@[simp] theorem runFold_load (p0 : Nat) (l : List CountWork) :
    (l.foldl (fun u w => u.runWork p0 w) s).load = s.load := by
  induction l generalizing s with
  | nil => rfl
  | cons w ws ih => rw [List.foldl_cons, ih]; simp
@[simp] theorem runFold_ptrs (p0 : Nat) (l : List CountWork) :
    (l.foldl (fun u w => u.runWork p0 w) s).ptrs = s.ptrs := by
  induction l generalizing s with
  | nil => rfl
  | cons w ws ih => rw [List.foldl_cons, ih]; simp
@[simp] theorem runFold_arm (p0 : Nat) (l : List CountWork) :
    (l.foldl (fun u w => u.runWork p0 w) s).arm = s.arm := by
  induction l generalizing s with
  | nil => rfl
  | cons w ws ih => rw [List.foldl_cons, ih]; simp
@[simp] theorem runFold_supply (p0 : Nat) (l : List CountWork) :
    (l.foldl (fun u w => u.runWork p0 w) s).supply = s.supply := by
  induction l generalizing s with
  | nil => rfl
  | cons w ws ih => rw [List.foldl_cons, ih]; simp
@[simp] theorem runFold_patternPort (p0 : Nat) (l : List CountWork) :
    (l.foldl (fun u w => u.runWork p0 w) s).patternPort = s.patternPort := by
  induction l generalizing s with
  | nil => rfl
  | cons w ws ih => rw [List.foldl_cons, ih]; simp
@[simp] theorem runFold_drivePort (p0 : Nat) (l : List CountWork) :
    (l.foldl (fun u w => u.runWork p0 w) s).drivePort = s.drivePort := by
  induction l generalizing s with
  | nil => rfl
  | cons w ws ih => rw [List.foldl_cons, ih]; simp
@[simp] theorem runFold_freeIndex (p0 : Nat) (l : List CountWork) :
    (l.foldl (fun u w => u.runWork p0 w) s).freeIndex = s.freeIndex := by
  induction l generalizing s with
  | nil => rfl
  | cons w ws ih => rw [List.foldl_cons, ih]; simp
@[simp] theorem runFold_pending (p0 : Nat) (l : List CountWork) :
    (l.foldl (fun u w => u.runWork p0 w) s).pending = s.pending := by
  induction l generalizing s with
  | nil => rfl
  | cons w ws ih => rw [List.foldl_cons, ih]; simp
@[simp] theorem State.strokeWork_phase (p0 : Nat) : (s.strokeWork p0).phase = s.phase := by unfold State.strokeWork; split <;> [rfl; (dsimp only; split <;> simp)]
@[simp] theorem State.strokeWork_pins (p0 : Nat) : (s.strokeWork p0).pins = s.pins := by unfold State.strokeWork; split <;> [rfl; (dsimp only; split <;> simp)]
@[simp] theorem State.strokeWork_geo (p0 : Nat) : (s.strokeWork p0).geo = s.geo := by unfold State.strokeWork; split <;> [rfl; (dsimp only; split <;> simp)]
@[simp] theorem State.strokeWork_pos (p0 : Nat) : (s.strokeWork p0).pos = s.pos := by unfold State.strokeWork; split <;> [rfl; (dsimp only; split <;> simp)]
@[simp] theorem State.strokeWork_load (p0 : Nat) : (s.strokeWork p0).load = s.load := by unfold State.strokeWork; split <;> [rfl; (dsimp only; split <;> simp)]
@[simp] theorem State.strokeWork_ptrs (p0 : Nat) : (s.strokeWork p0).ptrs = s.ptrs := by unfold State.strokeWork; split <;> [rfl; (dsimp only; split <;> simp)]
@[simp] theorem State.strokeWork_arm (p0 : Nat) : (s.strokeWork p0).arm = s.arm := by unfold State.strokeWork; split <;> [rfl; (dsimp only; split <;> simp)]
@[simp] theorem State.strokeWork_supply (p0 : Nat) : (s.strokeWork p0).supply = s.supply := by unfold State.strokeWork; split <;> [rfl; (dsimp only; split <;> simp)]
@[simp] theorem State.strokeWork_patternPort (p0 : Nat) : (s.strokeWork p0).patternPort = s.patternPort := by unfold State.strokeWork; split <;> [rfl; (dsimp only; split <;> simp)]
@[simp] theorem State.strokeWork_drivePort (p0 : Nat) : (s.strokeWork p0).drivePort = s.drivePort := by unfold State.strokeWork; split <;> [rfl; (dsimp only; split <;> simp)]
@[simp] theorem State.strokeWork_pending (p0 : Nat) : (s.strokeWork p0).pending = s.pending := by unfold State.strokeWork; split <;> [rfl; (dsimp only; split <;> simp)]
@[simp] theorem State.countChanged_phase (p0 : Nat) : (s.countChanged p0).phase = s.phase := by unfold State.countChanged; split <;> [rfl; (split <;> [rfl; (split <;> simp)])]
@[simp] theorem State.countChanged_pins (p0 : Nat) : (s.countChanged p0).pins = s.pins := by unfold State.countChanged; split <;> [rfl; (split <;> [rfl; (split <;> simp)])]
@[simp] theorem State.countChanged_geo (p0 : Nat) : (s.countChanged p0).geo = s.geo := by unfold State.countChanged; split <;> [rfl; (split <;> [rfl; (split <;> simp)])]
@[simp] theorem State.countChanged_pos (p0 : Nat) : (s.countChanged p0).pos = s.pos := by unfold State.countChanged; split <;> [rfl; (split <;> [rfl; (split <;> simp)])]
@[simp] theorem State.countChanged_load (p0 : Nat) : (s.countChanged p0).load = s.load := by unfold State.countChanged; split <;> [rfl; (split <;> [rfl; (split <;> simp)])]
@[simp] theorem State.countChanged_ptrs (p0 : Nat) : (s.countChanged p0).ptrs = s.ptrs := by unfold State.countChanged; split <;> [rfl; (split <;> [rfl; (split <;> simp)])]
@[simp] theorem State.countChanged_arm (p0 : Nat) : (s.countChanged p0).arm = s.arm := by unfold State.countChanged; split <;> [rfl; (split <;> [rfl; (split <;> simp)])]
@[simp] theorem State.countChanged_supply (p0 : Nat) : (s.countChanged p0).supply = s.supply := by unfold State.countChanged; split <;> [rfl; (split <;> [rfl; (split <;> simp)])]
@[simp] theorem State.countChanged_patternPort (p0 : Nat) : (s.countChanged p0).patternPort = s.patternPort := by unfold State.countChanged; split <;> [rfl; (split <;> [rfl; (split <;> simp)])]
@[simp] theorem State.countChanged_drivePort (p0 : Nat) : (s.countChanged p0).drivePort = s.drivePort := by unfold State.countChanged; split <;> [rfl; (split <;> [rfl; (split <;> simp)])]
@[simp] theorem State.countChanged_pending (p0 : Nat) : (s.countChanged p0).pending = s.pending := by unfold State.countChanged; split <;> [rfl; (split <;> [rfl; (split <;> simp)])]
@[simp] theorem State.takeCount_phase (d : Int) : (s.takeCount d).phase = s.phase := by unfold State.takeCount; dsimp only; split <;> simp
@[simp] theorem State.takeCount_pins (d : Int) : (s.takeCount d).pins = s.pins := by unfold State.takeCount; dsimp only; split <;> simp
@[simp] theorem State.takeCount_geo (d : Int) : (s.takeCount d).geo = s.geo := by unfold State.takeCount; dsimp only; split <;> simp
@[simp] theorem State.takeCount_load (d : Int) : (s.takeCount d).load = s.load := by unfold State.takeCount; dsimp only; split <;> simp
@[simp] theorem State.takeCount_ptrs (d : Int) : (s.takeCount d).ptrs = s.ptrs := by unfold State.takeCount; dsimp only; split <;> simp
@[simp] theorem State.takeCount_supply (d : Int) : (s.takeCount d).supply = s.supply := by unfold State.takeCount; dsimp only; split <;> simp
@[simp] theorem State.takeCount_patternPort (d : Int) : (s.takeCount d).patternPort = s.patternPort := by unfold State.takeCount; dsimp only; split <;> simp
@[simp] theorem State.takeCount_drivePort (d : Int) : (s.takeCount d).drivePort = s.drivePort := by unfold State.takeCount; dsimp only; split <;> simp
@[simp] theorem State.takeCount_pending (d : Int) : (s.takeCount d).pending = s.pending := by unfold State.takeCount; dsimp only; split <;> simp
@[simp] theorem State.reportBroken_phase (l : List Carrier) : (s.reportBroken l).phase = s.phase := by unfold State.reportBroken; split <;> simp
@[simp] theorem State.reportBroken_pins (l : List Carrier) : (s.reportBroken l).pins = s.pins := by unfold State.reportBroken; split <;> simp
@[simp] theorem State.reportBroken_geo (l : List Carrier) : (s.reportBroken l).geo = s.geo := by unfold State.reportBroken; split <;> simp
@[simp] theorem State.reportBroken_pos (l : List Carrier) : (s.reportBroken l).pos = s.pos := by unfold State.reportBroken; split <;> simp
@[simp] theorem State.reportBroken_mem (l : List Carrier) : (s.reportBroken l).mem = s.mem := by unfold State.reportBroken; split <;> simp
@[simp] theorem State.reportBroken_load (l : List Carrier) : (s.reportBroken l).load = s.load := by unfold State.reportBroken; split <;> simp
@[simp] theorem State.reportBroken_tech (l : List Carrier) : (s.reportBroken l).tech = s.tech := by unfold State.reportBroken; split <;> simp
@[simp] theorem State.reportBroken_ptrs (l : List Carrier) : (s.reportBroken l).ptrs = s.ptrs := by unfold State.reportBroken; split <;> simp
@[simp] theorem State.reportBroken_arm (l : List Carrier) : (s.reportBroken l).arm = s.arm := by unfold State.reportBroken; split <;> simp
@[simp] theorem State.reportBroken_image (l : List Carrier) : (s.reportBroken l).image = s.image := by unfold State.reportBroken; split <;> simp
@[simp] theorem State.reportBroken_catchers (l : List Carrier) : (s.reportBroken l).catchers = s.catchers := by unfold State.reportBroken; split <;> simp
@[simp] theorem State.reportBroken_supply (l : List Carrier) : (s.reportBroken l).supply = s.supply := by unfold State.reportBroken; split <;> simp
@[simp] theorem State.reportBroken_patternPort (l : List Carrier) : (s.reportBroken l).patternPort = s.patternPort := by unfold State.reportBroken; split <;> simp
@[simp] theorem State.reportBroken_drivePort (l : List Carrier) : (s.reportBroken l).drivePort = s.drivePort := by unfold State.reportBroken; split <;> simp
@[simp] theorem State.reportBroken_pending (l : List Carrier) : (s.reportBroken l).pending = s.pending := by unfold State.reportBroken; split <;> simp
@[simp] theorem State.resume_phase (r : StrokeRecord) : (s.resume r).phase = s.phase := by simp [State.resume]
@[simp] theorem State.resume_pins (r : StrokeRecord) : (s.resume r).pins = s.pins := by simp [State.resume]
@[simp] theorem State.resume_geo (r : StrokeRecord) : (s.resume r).geo = s.geo := by simp [State.resume]
@[simp] theorem State.resume_load (r : StrokeRecord) : (s.resume r).load = s.load := by simp [State.resume]
@[simp] theorem State.resume_ptrs (r : StrokeRecord) : (s.resume r).ptrs = s.ptrs := by simp [State.resume]
@[simp] theorem State.resume_arm (r : StrokeRecord) : (s.resume r).arm = s.arm := by simp [State.resume]
@[simp] theorem State.resume_supply (r : StrokeRecord) : (s.resume r).supply = s.supply := by simp [State.resume]
@[simp] theorem State.resume_patternPort (r : StrokeRecord) : (s.resume r).patternPort = s.patternPort := by simp [State.resume]
@[simp] theorem State.resume_drivePort (r : StrokeRecord) : (s.resume r).drivePort = s.drivePort := by simp [State.resume]
@[simp] theorem State.resume_pending (r : StrokeRecord) : (s.resume r).pending = s.pending := by simp [State.resume]
@[simp] theorem State.refuseArming_phase (tag : BitVec 16) (r : ArmingRefusal) (n : Nat) : (s.refuseArming tag r n).phase = s.phase := by simp [State.refuseArming]
@[simp] theorem State.refuseArming_pins (tag : BitVec 16) (r : ArmingRefusal) (n : Nat) : (s.refuseArming tag r n).pins = s.pins := by simp [State.refuseArming]
@[simp] theorem State.refuseArming_geo (tag : BitVec 16) (r : ArmingRefusal) (n : Nat) : (s.refuseArming tag r n).geo = s.geo := by simp [State.refuseArming]
@[simp] theorem State.refuseArming_pos (tag : BitVec 16) (r : ArmingRefusal) (n : Nat) : (s.refuseArming tag r n).pos = s.pos := by simp [State.refuseArming]
@[simp] theorem State.refuseArming_load (tag : BitVec 16) (r : ArmingRefusal) (n : Nat) : (s.refuseArming tag r n).load = s.load := by simp [State.refuseArming]
@[simp] theorem State.refuseArming_ptrs (tag : BitVec 16) (r : ArmingRefusal) (n : Nat) : (s.refuseArming tag r n).ptrs = s.ptrs := by simp [State.refuseArming]
@[simp] theorem State.refuseArming_heads (tag : BitVec 16) (r : ArmingRefusal) (n : Nat) : (s.refuseArming tag r n).heads = s.heads := by simp [State.refuseArming]
@[simp] theorem State.refuseArming_catchers (tag : BitVec 16) (r : ArmingRefusal) (n : Nat) : (s.refuseArming tag r n).catchers = s.catchers := by simp [State.refuseArming]
@[simp] theorem State.refuseArming_carriers (tag : BitVec 16) (r : ArmingRefusal) (n : Nat) : (s.refuseArming tag r n).carriers = s.carriers := by simp [State.refuseArming]
@[simp] theorem State.refuseArming_retained (tag : BitVec 16) (r : ArmingRefusal) (n : Nat) : (s.refuseArming tag r n).retained = s.retained := by simp [State.refuseArming]
@[simp] theorem State.refuseArming_supply (tag : BitVec 16) (r : ArmingRefusal) (n : Nat) : (s.refuseArming tag r n).supply = s.supply := by simp [State.refuseArming]
@[simp] theorem State.refuseArming_stops (tag : BitVec 16) (r : ArmingRefusal) (n : Nat) : (s.refuseArming tag r n).stops = s.stops := by simp [State.refuseArming]
@[simp] theorem State.refuseArming_patternPort (tag : BitVec 16) (r : ArmingRefusal) (n : Nat) : (s.refuseArming tag r n).patternPort = s.patternPort := by simp [State.refuseArming]
@[simp] theorem State.refuseArming_drivePort (tag : BitVec 16) (r : ArmingRefusal) (n : Nat) : (s.refuseArming tag r n).drivePort = s.drivePort := by simp [State.refuseArming]
@[simp] theorem State.refuseArming_freeIndex (tag : BitVec 16) (r : ArmingRefusal) (n : Nat) : (s.refuseArming tag r n).freeIndex = s.freeIndex := by simp [State.refuseArming]
@[simp] theorem State.refuseArming_pending (tag : BitVec 16) (r : ArmingRefusal) (n : Nat) : (s.refuseArming tag r n).pending = s.pending := by simp [State.refuseArming]
@[simp] theorem State.grantStroke_phase (c : Course) : (s.grantStroke c).phase = s.phase := by simp [State.grantStroke]
@[simp] theorem State.grantStroke_pins (c : Course) : (s.grantStroke c).pins = s.pins := by simp [State.grantStroke]
@[simp] theorem State.grantStroke_geo (c : Course) : (s.grantStroke c).geo = s.geo := by simp [State.grantStroke]
@[simp] theorem State.grantStroke_pos (c : Course) : (s.grantStroke c).pos = s.pos := by simp [State.grantStroke]
@[simp] theorem State.grantStroke_mem (c : Course) : (s.grantStroke c).mem = s.mem := by simp [State.grantStroke]
@[simp] theorem State.grantStroke_load (c : Course) : (s.grantStroke c).load = s.load := by simp [State.grantStroke]
@[simp] theorem State.grantStroke_tech (c : Course) : (s.grantStroke c).tech = s.tech := by simp [State.grantStroke]
@[simp] theorem State.grantStroke_ptrs (c : Course) : (s.grantStroke c).ptrs = s.ptrs := by simp [State.grantStroke]
@[simp] theorem State.grantStroke_image (c : Course) : (s.grantStroke c).image = s.image := by simp [State.grantStroke]
@[simp] theorem State.grantStroke_heads (c : Course) : (s.grantStroke c).heads = s.heads := by simp [State.grantStroke]
@[simp] theorem State.grantStroke_catchers (c : Course) : (s.grantStroke c).catchers = s.catchers := by simp [State.grantStroke]
@[simp] theorem State.grantStroke_carriers (c : Course) : (s.grantStroke c).carriers = s.carriers := by simp [State.grantStroke]
@[simp] theorem State.grantStroke_retained (c : Course) : (s.grantStroke c).retained = s.retained := by simp [State.grantStroke]
@[simp] theorem State.grantStroke_supply (c : Course) : (s.grantStroke c).supply = s.supply := by simp [State.grantStroke]
@[simp] theorem State.grantStroke_stops (c : Course) : (s.grantStroke c).stops = s.stops := by simp [State.grantStroke]
@[simp] theorem State.grantStroke_patternPort (c : Course) : (s.grantStroke c).patternPort = s.patternPort := by simp [State.grantStroke]
@[simp] theorem State.grantStroke_drivePort (c : Course) : (s.grantStroke c).drivePort = s.drivePort := by simp [State.grantStroke]
@[simp] theorem State.grantStroke_freeIndex (c : Course) : (s.grantStroke c).freeIndex = s.freeIndex := by simp [State.grantStroke]
@[simp] theorem State.grantStroke_pending (c : Course) : (s.grantStroke c).pending = s.pending := by simp [State.grantStroke]
@[simp] theorem State.enterArming_phase : s.enterArming.phase = s.phase := by simp [State.enterArming]
@[simp] theorem State.enterArming_pins : s.enterArming.pins = s.pins := by simp [State.enterArming]
@[simp] theorem State.enterArming_geo : s.enterArming.geo = s.geo := by simp [State.enterArming]
@[simp] theorem State.enterArming_pos : s.enterArming.pos = s.pos := by simp [State.enterArming]
@[simp] theorem State.enterArming_mem : s.enterArming.mem = s.mem := by simp [State.enterArming]
@[simp] theorem State.enterArming_load : s.enterArming.load = s.load := by simp [State.enterArming]
@[simp] theorem State.enterArming_tech : s.enterArming.tech = s.tech := by simp [State.enterArming]
@[simp] theorem State.enterArming_ptrs : s.enterArming.ptrs = s.ptrs := by simp [State.enterArming]
@[simp] theorem State.enterArming_image : s.enterArming.image = s.image := by simp [State.enterArming]
@[simp] theorem State.enterArming_heads : s.enterArming.heads = s.heads := by simp [State.enterArming]
@[simp] theorem State.enterArming_catchers : s.enterArming.catchers = s.catchers := by simp [State.enterArming]
@[simp] theorem State.enterArming_carriers : s.enterArming.carriers = s.carriers := by simp [State.enterArming]
@[simp] theorem State.enterArming_retained : s.enterArming.retained = s.retained := by simp [State.enterArming]
@[simp] theorem State.enterArming_supply : s.enterArming.supply = s.supply := by simp [State.enterArming]
@[simp] theorem State.enterArming_stops : s.enterArming.stops = s.stops := by simp [State.enterArming]
@[simp] theorem State.enterArming_patternPort : s.enterArming.patternPort = s.patternPort := by simp [State.enterArming]
@[simp] theorem State.enterArming_drivePort : s.enterArming.drivePort = s.drivePort := by simp [State.enterArming]
@[simp] theorem State.enterArming_patternReasons : s.enterArming.patternReasons = s.patternReasons := by simp [State.enterArming]
@[simp] theorem State.enterArming_reasonCounts : s.enterArming.reasonCounts = s.reasonCounts := by simp [State.enterArming]
@[simp] theorem State.enterArming_freeIndex : s.enterArming.freeIndex = s.freeIndex := by simp [State.enterArming]
@[simp] theorem State.enterArming_pending : s.enterArming.pending = s.pending := by simp [State.enterArming]
@[simp] theorem State.nextStage_phase (st : ArmingStage) : (s.nextStage st).phase = s.phase := by simp [State.nextStage]
@[simp] theorem State.nextStage_pins (st : ArmingStage) : (s.nextStage st).pins = s.pins := by simp [State.nextStage]
@[simp] theorem State.nextStage_geo (st : ArmingStage) : (s.nextStage st).geo = s.geo := by simp [State.nextStage]
@[simp] theorem State.nextStage_pos (st : ArmingStage) : (s.nextStage st).pos = s.pos := by simp [State.nextStage]
@[simp] theorem State.nextStage_mem (st : ArmingStage) : (s.nextStage st).mem = s.mem := by simp [State.nextStage]
@[simp] theorem State.nextStage_load (st : ArmingStage) : (s.nextStage st).load = s.load := by simp [State.nextStage]
@[simp] theorem State.nextStage_tech (st : ArmingStage) : (s.nextStage st).tech = s.tech := by simp [State.nextStage]
@[simp] theorem State.nextStage_ptrs (st : ArmingStage) : (s.nextStage st).ptrs = s.ptrs := by simp [State.nextStage]
@[simp] theorem State.nextStage_queue (st : ArmingStage) : (s.nextStage st).queue = s.queue := by simp [State.nextStage]
@[simp] theorem State.nextStage_image (st : ArmingStage) : (s.nextStage st).image = s.image := by simp [State.nextStage]
@[simp] theorem State.nextStage_heads (st : ArmingStage) : (s.nextStage st).heads = s.heads := by simp [State.nextStage]
@[simp] theorem State.nextStage_catchers (st : ArmingStage) : (s.nextStage st).catchers = s.catchers := by simp [State.nextStage]
@[simp] theorem State.nextStage_carriers (st : ArmingStage) : (s.nextStage st).carriers = s.carriers := by simp [State.nextStage]
@[simp] theorem State.nextStage_retained (st : ArmingStage) : (s.nextStage st).retained = s.retained := by simp [State.nextStage]
@[simp] theorem State.nextStage_supply (st : ArmingStage) : (s.nextStage st).supply = s.supply := by simp [State.nextStage]
@[simp] theorem State.nextStage_stops (st : ArmingStage) : (s.nextStage st).stops = s.stops := by simp [State.nextStage]
@[simp] theorem State.nextStage_patternPort (st : ArmingStage) : (s.nextStage st).patternPort = s.patternPort := by simp [State.nextStage]
@[simp] theorem State.nextStage_drivePort (st : ArmingStage) : (s.nextStage st).drivePort = s.drivePort := by simp [State.nextStage]
@[simp] theorem State.nextStage_patternReasons (st : ArmingStage) : (s.nextStage st).patternReasons = s.patternReasons := by simp [State.nextStage]
@[simp] theorem State.nextStage_driveReasons (st : ArmingStage) : (s.nextStage st).driveReasons = s.driveReasons := by simp [State.nextStage]
@[simp] theorem State.nextStage_reasonCounts (st : ArmingStage) : (s.nextStage st).reasonCounts = s.reasonCounts := by simp [State.nextStage]
@[simp] theorem State.nextStage_freeIndex (st : ArmingStage) : (s.nextStage st).freeIndex = s.freeIndex := by simp [State.nextStage]
@[simp] theorem State.nextStage_pending (st : ArmingStage) : (s.nextStage st).pending = s.pending := by simp [State.nextStage]
@[simp] theorem State.lockAndResolve_phase (c : Course) : (s.lockAndResolve c).phase = s.phase := by simp [State.lockAndResolve]
@[simp] theorem State.lockAndResolve_pins (c : Course) : (s.lockAndResolve c).pins = s.pins := by simp [State.lockAndResolve]
@[simp] theorem State.lockAndResolve_geo (c : Course) : (s.lockAndResolve c).geo = s.geo := by simp [State.lockAndResolve]
@[simp] theorem State.lockAndResolve_pos (c : Course) : (s.lockAndResolve c).pos = s.pos := by simp [State.lockAndResolve]
@[simp] theorem State.lockAndResolve_load (c : Course) : (s.lockAndResolve c).load = s.load := by simp [State.lockAndResolve]
@[simp] theorem State.lockAndResolve_image (c : Course) : (s.lockAndResolve c).image = s.image := by simp [State.lockAndResolve]
@[simp] theorem State.lockAndResolve_heads (c : Course) : (s.lockAndResolve c).heads = s.heads := by simp [State.lockAndResolve]
@[simp] theorem State.lockAndResolve_catchers (c : Course) : (s.lockAndResolve c).catchers = s.catchers := by simp [State.lockAndResolve]
@[simp] theorem State.lockAndResolve_carriers (c : Course) : (s.lockAndResolve c).carriers = s.carriers := by simp [State.lockAndResolve]
@[simp] theorem State.lockAndResolve_retained (c : Course) : (s.lockAndResolve c).retained = s.retained := by simp [State.lockAndResolve]
@[simp] theorem State.lockAndResolve_supply (c : Course) : (s.lockAndResolve c).supply = s.supply := by simp [State.lockAndResolve]
@[simp] theorem State.lockAndResolve_stops (c : Course) : (s.lockAndResolve c).stops = s.stops := by simp [State.lockAndResolve]
@[simp] theorem State.lockAndResolve_patternPort (c : Course) : (s.lockAndResolve c).patternPort = s.patternPort := by simp [State.lockAndResolve]
@[simp] theorem State.lockAndResolve_drivePort (c : Course) : (s.lockAndResolve c).drivePort = s.drivePort := by simp [State.lockAndResolve]
@[simp] theorem State.lockAndResolve_patternReasons (c : Course) : (s.lockAndResolve c).patternReasons = s.patternReasons := by simp [State.lockAndResolve]
@[simp] theorem State.lockAndResolve_driveReasons (c : Course) : (s.lockAndResolve c).driveReasons = s.driveReasons := by simp [State.lockAndResolve]
@[simp] theorem State.lockAndResolve_reasonCounts (c : Course) : (s.lockAndResolve c).reasonCounts = s.reasonCounts := by simp [State.lockAndResolve]
@[simp] theorem State.lockAndResolve_freeIndex (c : Course) : (s.lockAndResolve c).freeIndex = s.freeIndex := by simp [State.lockAndResolve]
@[simp] theorem State.lockAndResolve_pending (c : Course) : (s.lockAndResolve c).pending = s.pending := by simp [State.lockAndResolve]
@[simp] theorem State.clampZone_phase (c : Course) : (s.clampZone c).phase = s.phase := by unfold State.clampZone; dsimp only; split <;> simp
@[simp] theorem State.clampZone_pins (c : Course) : (s.clampZone c).pins = s.pins := by unfold State.clampZone; dsimp only; split <;> simp
@[simp] theorem State.clampZone_geo (c : Course) : (s.clampZone c).geo = s.geo := by unfold State.clampZone; dsimp only; split <;> simp
@[simp] theorem State.clampZone_pos (c : Course) : (s.clampZone c).pos = s.pos := by unfold State.clampZone; dsimp only; split <;> simp
@[simp] theorem State.clampZone_load (c : Course) : (s.clampZone c).load = s.load := by unfold State.clampZone; dsimp only; split <;> simp
@[simp] theorem State.clampZone_ptrs (c : Course) : (s.clampZone c).ptrs = s.ptrs := by unfold State.clampZone; dsimp only; split <;> simp
@[simp] theorem State.clampZone_heads (c : Course) : (s.clampZone c).heads = s.heads := by unfold State.clampZone; dsimp only; split <;> simp
@[simp] theorem State.clampZone_catchers (c : Course) : (s.clampZone c).catchers = s.catchers := by unfold State.clampZone; dsimp only; split <;> simp
@[simp] theorem State.clampZone_carriers (c : Course) : (s.clampZone c).carriers = s.carriers := by unfold State.clampZone; dsimp only; split <;> simp
@[simp] theorem State.clampZone_retained (c : Course) : (s.clampZone c).retained = s.retained := by unfold State.clampZone; dsimp only; split <;> simp
@[simp] theorem State.clampZone_supply (c : Course) : (s.clampZone c).supply = s.supply := by unfold State.clampZone; dsimp only; split <;> simp
@[simp] theorem State.clampZone_stops (c : Course) : (s.clampZone c).stops = s.stops := by unfold State.clampZone; dsimp only; split <;> simp
@[simp] theorem State.clampZone_patternPort (c : Course) : (s.clampZone c).patternPort = s.patternPort := by unfold State.clampZone; dsimp only; split <;> simp
@[simp] theorem State.clampZone_drivePort (c : Course) : (s.clampZone c).drivePort = s.drivePort := by unfold State.clampZone; dsimp only; split <;> simp
@[simp] theorem State.clampZone_freeIndex (c : Course) : (s.clampZone c).freeIndex = s.freeIndex := by unfold State.clampZone; dsimp only; split <;> simp
@[simp] theorem State.clampZone_pending (c : Course) : (s.clampZone c).pending = s.pending := by unfold State.clampZone; dsimp only; split <;> simp
@[simp] theorem State.buildImage_phase (c : Course) : (s.buildImage c).phase = s.phase := by simp [State.buildImage]
@[simp] theorem State.buildImage_pins (c : Course) : (s.buildImage c).pins = s.pins := by simp [State.buildImage]
@[simp] theorem State.buildImage_geo (c : Course) : (s.buildImage c).geo = s.geo := by simp [State.buildImage]
@[simp] theorem State.buildImage_pos (c : Course) : (s.buildImage c).pos = s.pos := by simp [State.buildImage]
@[simp] theorem State.buildImage_mem (c : Course) : (s.buildImage c).mem = s.mem := by simp [State.buildImage]
@[simp] theorem State.buildImage_load (c : Course) : (s.buildImage c).load = s.load := by simp [State.buildImage]
@[simp] theorem State.buildImage_tech (c : Course) : (s.buildImage c).tech = s.tech := by simp [State.buildImage]
@[simp] theorem State.buildImage_ptrs (c : Course) : (s.buildImage c).ptrs = s.ptrs := by simp [State.buildImage]
@[simp] theorem State.buildImage_queue (c : Course) : (s.buildImage c).queue = s.queue := by simp [State.buildImage]
@[simp] theorem State.buildImage_heads (c : Course) : (s.buildImage c).heads = s.heads := by simp [State.buildImage]
@[simp] theorem State.buildImage_catchers (c : Course) : (s.buildImage c).catchers = s.catchers := by simp [State.buildImage]
@[simp] theorem State.buildImage_carriers (c : Course) : (s.buildImage c).carriers = s.carriers := by simp [State.buildImage]
@[simp] theorem State.buildImage_retained (c : Course) : (s.buildImage c).retained = s.retained := by simp [State.buildImage]
@[simp] theorem State.buildImage_supply (c : Course) : (s.buildImage c).supply = s.supply := by simp [State.buildImage]
@[simp] theorem State.buildImage_stops (c : Course) : (s.buildImage c).stops = s.stops := by simp [State.buildImage]
@[simp] theorem State.buildImage_patternPort (c : Course) : (s.buildImage c).patternPort = s.patternPort := by simp [State.buildImage]
@[simp] theorem State.buildImage_drivePort (c : Course) : (s.buildImage c).drivePort = s.drivePort := by simp [State.buildImage]
@[simp] theorem State.buildImage_patternReasons (c : Course) : (s.buildImage c).patternReasons = s.patternReasons := by simp [State.buildImage]
@[simp] theorem State.buildImage_driveReasons (c : Course) : (s.buildImage c).driveReasons = s.driveReasons := by simp [State.buildImage]
@[simp] theorem State.buildImage_reasonCounts (c : Course) : (s.buildImage c).reasonCounts = s.reasonCounts := by simp [State.buildImage]
@[simp] theorem State.buildImage_freeIndex (c : Course) : (s.buildImage c).freeIndex = s.freeIndex := by simp [State.buildImage]
@[simp] theorem State.buildImage_pending (c : Course) : (s.buildImage c).pending = s.pending := by simp [State.buildImage]
@[simp] theorem State.checkPairs_phase (c : Course) : (s.checkPairs c).phase = s.phase := by unfold State.checkPairs; split <;> simp
@[simp] theorem State.checkPairs_pins (c : Course) : (s.checkPairs c).pins = s.pins := by unfold State.checkPairs; split <;> simp
@[simp] theorem State.checkPairs_geo (c : Course) : (s.checkPairs c).geo = s.geo := by unfold State.checkPairs; split <;> simp
@[simp] theorem State.checkPairs_pos (c : Course) : (s.checkPairs c).pos = s.pos := by unfold State.checkPairs; split <;> simp
@[simp] theorem State.checkPairs_load (c : Course) : (s.checkPairs c).load = s.load := by unfold State.checkPairs; split <;> simp
@[simp] theorem State.checkPairs_ptrs (c : Course) : (s.checkPairs c).ptrs = s.ptrs := by unfold State.checkPairs; split <;> simp
@[simp] theorem State.checkPairs_heads (c : Course) : (s.checkPairs c).heads = s.heads := by unfold State.checkPairs; split <;> simp
@[simp] theorem State.checkPairs_catchers (c : Course) : (s.checkPairs c).catchers = s.catchers := by unfold State.checkPairs; split <;> simp
@[simp] theorem State.checkPairs_carriers (c : Course) : (s.checkPairs c).carriers = s.carriers := by unfold State.checkPairs; split <;> simp
@[simp] theorem State.checkPairs_retained (c : Course) : (s.checkPairs c).retained = s.retained := by unfold State.checkPairs; split <;> simp
@[simp] theorem State.checkPairs_supply (c : Course) : (s.checkPairs c).supply = s.supply := by unfold State.checkPairs; split <;> simp
@[simp] theorem State.checkPairs_stops (c : Course) : (s.checkPairs c).stops = s.stops := by unfold State.checkPairs; split <;> simp
@[simp] theorem State.checkPairs_patternPort (c : Course) : (s.checkPairs c).patternPort = s.patternPort := by unfold State.checkPairs; split <;> simp
@[simp] theorem State.checkPairs_drivePort (c : Course) : (s.checkPairs c).drivePort = s.drivePort := by unfold State.checkPairs; split <;> simp
@[simp] theorem State.checkPairs_freeIndex (c : Course) : (s.checkPairs c).freeIndex = s.freeIndex := by unfold State.checkPairs; split <;> simp
@[simp] theorem State.checkPairs_pending (c : Course) : (s.checkPairs c).pending = s.pending := by unfold State.checkPairs; split <;> simp
@[simp] theorem State.planCarriers_phase (c : Course) : (s.planCarriers c).phase = s.phase := by unfold State.planCarriers; split <;> simp
@[simp] theorem State.planCarriers_pins (c : Course) : (s.planCarriers c).pins = s.pins := by unfold State.planCarriers; split <;> simp
@[simp] theorem State.planCarriers_geo (c : Course) : (s.planCarriers c).geo = s.geo := by unfold State.planCarriers; split <;> simp
@[simp] theorem State.planCarriers_pos (c : Course) : (s.planCarriers c).pos = s.pos := by unfold State.planCarriers; split <;> simp
@[simp] theorem State.planCarriers_load (c : Course) : (s.planCarriers c).load = s.load := by unfold State.planCarriers; split <;> simp
@[simp] theorem State.planCarriers_ptrs (c : Course) : (s.planCarriers c).ptrs = s.ptrs := by unfold State.planCarriers; split <;> simp
@[simp] theorem State.planCarriers_heads (c : Course) : (s.planCarriers c).heads = s.heads := by unfold State.planCarriers; split <;> simp
@[simp] theorem State.planCarriers_catchers (c : Course) : (s.planCarriers c).catchers = s.catchers := by unfold State.planCarriers; split <;> simp
@[simp] theorem State.planCarriers_carriers (c : Course) : (s.planCarriers c).carriers = s.carriers := by unfold State.planCarriers; split <;> simp
@[simp] theorem State.planCarriers_retained (c : Course) : (s.planCarriers c).retained = s.retained := by unfold State.planCarriers; split <;> simp
@[simp] theorem State.planCarriers_supply (c : Course) : (s.planCarriers c).supply = s.supply := by unfold State.planCarriers; split <;> simp
@[simp] theorem State.planCarriers_stops (c : Course) : (s.planCarriers c).stops = s.stops := by unfold State.planCarriers; split <;> simp
@[simp] theorem State.planCarriers_patternPort (c : Course) : (s.planCarriers c).patternPort = s.patternPort := by unfold State.planCarriers; split <;> simp
@[simp] theorem State.planCarriers_drivePort (c : Course) : (s.planCarriers c).drivePort = s.drivePort := by unfold State.planCarriers; split <;> simp
@[simp] theorem State.planCarriers_freeIndex (c : Course) : (s.planCarriers c).freeIndex = s.freeIndex := by unfold State.planCarriers; split <;> simp
@[simp] theorem State.planCarriers_pending (c : Course) : (s.planCarriers c).pending = s.pending := by unfold State.planCarriers; split <;> simp
@[simp] theorem State.findTurningPoints_phase (c : Course) : (s.findTurningPoints c).phase = s.phase := by unfold State.findTurningPoints; dsimp only; split <;> [simp; (split <;> simp)]
@[simp] theorem State.findTurningPoints_pins (c : Course) : (s.findTurningPoints c).pins = s.pins := by unfold State.findTurningPoints; dsimp only; split <;> [simp; (split <;> simp)]
@[simp] theorem State.findTurningPoints_geo (c : Course) : (s.findTurningPoints c).geo = s.geo := by unfold State.findTurningPoints; dsimp only; split <;> [simp; (split <;> simp)]
@[simp] theorem State.findTurningPoints_pos (c : Course) : (s.findTurningPoints c).pos = s.pos := by unfold State.findTurningPoints; dsimp only; split <;> [simp; (split <;> simp)]
@[simp] theorem State.findTurningPoints_load (c : Course) : (s.findTurningPoints c).load = s.load := by unfold State.findTurningPoints; dsimp only; split <;> [simp; (split <;> simp)]
@[simp] theorem State.findTurningPoints_ptrs (c : Course) : (s.findTurningPoints c).ptrs = s.ptrs := by unfold State.findTurningPoints; dsimp only; split <;> [simp; (split <;> simp)]
@[simp] theorem State.findTurningPoints_heads (c : Course) : (s.findTurningPoints c).heads = s.heads := by unfold State.findTurningPoints; dsimp only; split <;> [simp; (split <;> simp)]
@[simp] theorem State.findTurningPoints_catchers (c : Course) : (s.findTurningPoints c).catchers = s.catchers := by unfold State.findTurningPoints; dsimp only; split <;> [simp; (split <;> simp)]
@[simp] theorem State.findTurningPoints_carriers (c : Course) : (s.findTurningPoints c).carriers = s.carriers := by unfold State.findTurningPoints; dsimp only; split <;> [simp; (split <;> simp)]
@[simp] theorem State.findTurningPoints_retained (c : Course) : (s.findTurningPoints c).retained = s.retained := by unfold State.findTurningPoints; dsimp only; split <;> [simp; (split <;> simp)]
@[simp] theorem State.findTurningPoints_supply (c : Course) : (s.findTurningPoints c).supply = s.supply := by unfold State.findTurningPoints; dsimp only; split <;> [simp; (split <;> simp)]
@[simp] theorem State.findTurningPoints_stops (c : Course) : (s.findTurningPoints c).stops = s.stops := by unfold State.findTurningPoints; dsimp only; split <;> [simp; (split <;> simp)]
@[simp] theorem State.findTurningPoints_patternPort (c : Course) : (s.findTurningPoints c).patternPort = s.patternPort := by unfold State.findTurningPoints; dsimp only; split <;> [simp; (split <;> simp)]
@[simp] theorem State.findTurningPoints_drivePort (c : Course) : (s.findTurningPoints c).drivePort = s.drivePort := by unfold State.findTurningPoints; dsimp only; split <;> [simp; (split <;> simp)]
@[simp] theorem State.findTurningPoints_freeIndex (c : Course) : (s.findTurningPoints c).freeIndex = s.freeIndex := by unfold State.findTurningPoints; dsimp only; split <;> [simp; (split <;> simp)]
@[simp] theorem State.findTurningPoints_pending (c : Course) : (s.findTurningPoints c).pending = s.pending := by unfold State.findTurningPoints; dsimp only; split <;> [simp; (split <;> simp)]
@[simp] theorem State.findSpeed_phase (c : Course) : (s.findSpeed c).phase = s.phase := by simp [State.findSpeed]
@[simp] theorem State.findSpeed_pins (c : Course) : (s.findSpeed c).pins = s.pins := by simp [State.findSpeed]
@[simp] theorem State.findSpeed_geo (c : Course) : (s.findSpeed c).geo = s.geo := by simp [State.findSpeed]
@[simp] theorem State.findSpeed_pos (c : Course) : (s.findSpeed c).pos = s.pos := by simp [State.findSpeed]
@[simp] theorem State.findSpeed_mem (c : Course) : (s.findSpeed c).mem = s.mem := by simp [State.findSpeed]
@[simp] theorem State.findSpeed_load (c : Course) : (s.findSpeed c).load = s.load := by simp [State.findSpeed]
@[simp] theorem State.findSpeed_tech (c : Course) : (s.findSpeed c).tech = s.tech := by simp [State.findSpeed]
@[simp] theorem State.findSpeed_ptrs (c : Course) : (s.findSpeed c).ptrs = s.ptrs := by simp [State.findSpeed]
@[simp] theorem State.findSpeed_queue (c : Course) : (s.findSpeed c).queue = s.queue := by simp [State.findSpeed]
@[simp] theorem State.findSpeed_image (c : Course) : (s.findSpeed c).image = s.image := by simp [State.findSpeed]
@[simp] theorem State.findSpeed_heads (c : Course) : (s.findSpeed c).heads = s.heads := by simp [State.findSpeed]
@[simp] theorem State.findSpeed_catchers (c : Course) : (s.findSpeed c).catchers = s.catchers := by simp [State.findSpeed]
@[simp] theorem State.findSpeed_carriers (c : Course) : (s.findSpeed c).carriers = s.carriers := by simp [State.findSpeed]
@[simp] theorem State.findSpeed_retained (c : Course) : (s.findSpeed c).retained = s.retained := by simp [State.findSpeed]
@[simp] theorem State.findSpeed_supply (c : Course) : (s.findSpeed c).supply = s.supply := by simp [State.findSpeed]
@[simp] theorem State.findSpeed_stops (c : Course) : (s.findSpeed c).stops = s.stops := by simp [State.findSpeed]
@[simp] theorem State.findSpeed_patternPort (c : Course) : (s.findSpeed c).patternPort = s.patternPort := by simp [State.findSpeed]
@[simp] theorem State.findSpeed_drivePort (c : Course) : (s.findSpeed c).drivePort = s.drivePort := by simp [State.findSpeed]
@[simp] theorem State.findSpeed_patternReasons (c : Course) : (s.findSpeed c).patternReasons = s.patternReasons := by simp [State.findSpeed]
@[simp] theorem State.findSpeed_driveReasons (c : Course) : (s.findSpeed c).driveReasons = s.driveReasons := by simp [State.findSpeed]
@[simp] theorem State.findSpeed_reasonCounts (c : Course) : (s.findSpeed c).reasonCounts = s.reasonCounts := by simp [State.findSpeed]
@[simp] theorem State.findSpeed_freeIndex (c : Course) : (s.findSpeed c).freeIndex = s.freeIndex := by simp [State.findSpeed]
@[simp] theorem State.findSpeed_pending (c : Course) : (s.findSpeed c).pending = s.pending := by simp [State.findSpeed]
@[simp] theorem State.completeArming_phase (c : Course) : (s.completeArming c).phase = s.phase := by unfold State.completeArming; split <;> [simp; (split <;> simp)]
@[simp] theorem State.completeArming_pins (c : Course) : (s.completeArming c).pins = s.pins := by unfold State.completeArming; split <;> [simp; (split <;> simp)]
@[simp] theorem State.completeArming_geo (c : Course) : (s.completeArming c).geo = s.geo := by unfold State.completeArming; split <;> [simp; (split <;> simp)]
@[simp] theorem State.completeArming_pos (c : Course) : (s.completeArming c).pos = s.pos := by unfold State.completeArming; split <;> [simp; (split <;> simp)]
@[simp] theorem State.completeArming_load (c : Course) : (s.completeArming c).load = s.load := by unfold State.completeArming; split <;> [simp; (split <;> simp)]
@[simp] theorem State.completeArming_ptrs (c : Course) : (s.completeArming c).ptrs = s.ptrs := by unfold State.completeArming; split <;> [simp; (split <;> simp)]
@[simp] theorem State.completeArming_heads (c : Course) : (s.completeArming c).heads = s.heads := by unfold State.completeArming; split <;> [simp; (split <;> simp)]
@[simp] theorem State.completeArming_catchers (c : Course) : (s.completeArming c).catchers = s.catchers := by unfold State.completeArming; split <;> [simp; (split <;> simp)]
@[simp] theorem State.completeArming_carriers (c : Course) : (s.completeArming c).carriers = s.carriers := by unfold State.completeArming; split <;> [simp; (split <;> simp)]
@[simp] theorem State.completeArming_retained (c : Course) : (s.completeArming c).retained = s.retained := by unfold State.completeArming; split <;> [simp; (split <;> simp)]
@[simp] theorem State.completeArming_supply (c : Course) : (s.completeArming c).supply = s.supply := by unfold State.completeArming; split <;> [simp; (split <;> simp)]
@[simp] theorem State.completeArming_stops (c : Course) : (s.completeArming c).stops = s.stops := by unfold State.completeArming; split <;> [simp; (split <;> simp)]
@[simp] theorem State.completeArming_patternPort (c : Course) : (s.completeArming c).patternPort = s.patternPort := by unfold State.completeArming; split <;> [simp; (split <;> simp)]
@[simp] theorem State.completeArming_drivePort (c : Course) : (s.completeArming c).drivePort = s.drivePort := by unfold State.completeArming; split <;> [simp; (split <;> simp)]
@[simp] theorem State.completeArming_freeIndex (c : Course) : (s.completeArming c).freeIndex = s.freeIndex := by unfold State.completeArming; split <;> [simp; (split <;> simp)]
@[simp] theorem State.completeArming_pending (c : Course) : (s.completeArming c).pending = s.pending := by unfold State.completeArming; split <;> [simp; (split <;> simp)]
@[simp] theorem State.takeStopIn_phase : s.takeStopIn.phase = s.phase := by simp [State.takeStopIn]
@[simp] theorem State.takeStopIn_pins : s.takeStopIn.pins = s.pins := by simp [State.takeStopIn]
@[simp] theorem State.takeStopIn_geo : s.takeStopIn.geo = s.geo := by simp [State.takeStopIn]
@[simp] theorem State.takeStopIn_pos : s.takeStopIn.pos = s.pos := by simp [State.takeStopIn]
@[simp] theorem State.takeStopIn_mem : s.takeStopIn.mem = s.mem := by simp [State.takeStopIn]
@[simp] theorem State.takeStopIn_load : s.takeStopIn.load = s.load := by simp [State.takeStopIn]
@[simp] theorem State.takeStopIn_tech : s.takeStopIn.tech = s.tech := by simp [State.takeStopIn]
@[simp] theorem State.takeStopIn_ptrs : s.takeStopIn.ptrs = s.ptrs := by simp [State.takeStopIn]
@[simp] theorem State.takeStopIn_image : s.takeStopIn.image = s.image := by simp [State.takeStopIn]
@[simp] theorem State.takeStopIn_catchers : s.takeStopIn.catchers = s.catchers := by simp [State.takeStopIn]
@[simp] theorem State.takeStopIn_supply : s.takeStopIn.supply = s.supply := by simp [State.takeStopIn]
@[simp] theorem State.takeStopIn_patternPort : s.takeStopIn.patternPort = s.patternPort := by simp [State.takeStopIn]
@[simp] theorem State.takeStopIn_drivePort : s.takeStopIn.drivePort = s.drivePort := by simp [State.takeStopIn]
@[simp] theorem State.takeStopIn_freeIndex : s.takeStopIn.freeIndex = s.freeIndex := by simp [State.takeStopIn]
@[simp] theorem State.takeStopIn_pending : s.takeStopIn.pending = s.pending := by simp [State.takeStopIn]
@[simp] theorem State.warnCourse_phase : s.warnCourse.phase = s.phase := by unfold State.warnCourse; split <;> simp
@[simp] theorem State.warnCourse_pins : s.warnCourse.pins = s.pins := by unfold State.warnCourse; split <;> simp
@[simp] theorem State.warnCourse_geo : s.warnCourse.geo = s.geo := by unfold State.warnCourse; split <;> simp
@[simp] theorem State.warnCourse_pos : s.warnCourse.pos = s.pos := by unfold State.warnCourse; split <;> simp
@[simp] theorem State.warnCourse_load : s.warnCourse.load = s.load := by unfold State.warnCourse; split <;> simp
@[simp] theorem State.warnCourse_ptrs : s.warnCourse.ptrs = s.ptrs := by unfold State.warnCourse; split <;> simp
@[simp] theorem State.warnCourse_catchers : s.warnCourse.catchers = s.catchers := by unfold State.warnCourse; split <;> simp
@[simp] theorem State.warnCourse_supply : s.warnCourse.supply = s.supply := by unfold State.warnCourse; split <;> simp
@[simp] theorem State.warnCourse_patternPort : s.warnCourse.patternPort = s.patternPort := by unfold State.warnCourse; split <;> simp
@[simp] theorem State.warnCourse_drivePort : s.warnCourse.drivePort = s.drivePort := by unfold State.warnCourse; split <;> simp
@[simp] theorem State.warnCourse_freeIndex : s.warnCourse.freeIndex = s.freeIndex := by unfold State.warnCourse; split <;> simp
@[simp] theorem State.warnCourse_pending : s.warnCourse.pending = s.pending := by unfold State.warnCourse; split <;> simp
@[simp] theorem State.takePfw_phase : s.takePfw.phase = s.phase := by simp [State.takePfw]
@[simp] theorem State.takePfw_pins : s.takePfw.pins = s.pins := by simp [State.takePfw]
@[simp] theorem State.takePfw_geo : s.takePfw.geo = s.geo := by simp [State.takePfw]
@[simp] theorem State.takePfw_pos : s.takePfw.pos = s.pos := by simp [State.takePfw]
@[simp] theorem State.takePfw_load : s.takePfw.load = s.load := by simp [State.takePfw]
@[simp] theorem State.takePfw_ptrs : s.takePfw.ptrs = s.ptrs := by simp [State.takePfw]
@[simp] theorem State.takePfw_catchers : s.takePfw.catchers = s.catchers := by simp [State.takePfw]
@[simp] theorem State.takePfw_patternPort : s.takePfw.patternPort = s.patternPort := by simp [State.takePfw]
@[simp] theorem State.takePfw_drivePort : s.takePfw.drivePort = s.drivePort := by simp [State.takePfw]
@[simp] theorem State.takePfw_freeIndex : s.takePfw.freeIndex = s.freeIndex := by simp [State.takePfw]
@[simp] theorem State.takePfw_pending : s.takePfw.pending = s.pending := by simp [State.takePfw]
@[simp] theorem State.geometryChanged_phase (g : Geometry) : (s.geometryChanged g).phase = s.phase := by simp [State.geometryChanged]
@[simp] theorem State.geometryChanged_pins (g : Geometry) : (s.geometryChanged g).pins = s.pins := by simp [State.geometryChanged]
@[simp] theorem State.geometryChanged_geo (g : Geometry) : (s.geometryChanged g).geo = s.geo := by simp [State.geometryChanged]
@[simp] theorem State.geometryChanged_pos (g : Geometry) : (s.geometryChanged g).pos = s.pos := by simp [State.geometryChanged]
@[simp] theorem State.geometryChanged_mem (g : Geometry) : (s.geometryChanged g).mem = s.mem := by simp [State.geometryChanged]
@[simp] theorem State.geometryChanged_load (g : Geometry) : (s.geometryChanged g).load = s.load := by simp [State.geometryChanged]
@[simp] theorem State.geometryChanged_tech (g : Geometry) : (s.geometryChanged g).tech = s.tech := by simp [State.geometryChanged]
@[simp] theorem State.geometryChanged_ptrs (g : Geometry) : (s.geometryChanged g).ptrs = s.ptrs := by simp [State.geometryChanged]
@[simp] theorem State.geometryChanged_queue (g : Geometry) : (s.geometryChanged g).queue = s.queue := by simp [State.geometryChanged]
@[simp] theorem State.geometryChanged_arm (g : Geometry) : (s.geometryChanged g).arm = s.arm := by simp [State.geometryChanged]
@[simp] theorem State.geometryChanged_image (g : Geometry) : (s.geometryChanged g).image = s.image := by simp [State.geometryChanged]
@[simp] theorem State.geometryChanged_heads (g : Geometry) : (s.geometryChanged g).heads = s.heads := by simp [State.geometryChanged]
@[simp] theorem State.geometryChanged_catchers (g : Geometry) : (s.geometryChanged g).catchers = s.catchers := by simp [State.geometryChanged]
@[simp] theorem State.geometryChanged_supply (g : Geometry) : (s.geometryChanged g).supply = s.supply := by simp [State.geometryChanged]
@[simp] theorem State.geometryChanged_stops (g : Geometry) : (s.geometryChanged g).stops = s.stops := by simp [State.geometryChanged]
@[simp] theorem State.geometryChanged_patternPort (g : Geometry) : (s.geometryChanged g).patternPort = s.patternPort := by simp [State.geometryChanged]
@[simp] theorem State.geometryChanged_drivePort (g : Geometry) : (s.geometryChanged g).drivePort = s.drivePort := by simp [State.geometryChanged]
@[simp] theorem State.geometryChanged_patternReasons (g : Geometry) : (s.geometryChanged g).patternReasons = s.patternReasons := by simp [State.geometryChanged]
@[simp] theorem State.geometryChanged_driveReasons (g : Geometry) : (s.geometryChanged g).driveReasons = s.driveReasons := by simp [State.geometryChanged]
@[simp] theorem State.geometryChanged_reasonCounts (g : Geometry) : (s.geometryChanged g).reasonCounts = s.reasonCounts := by simp [State.geometryChanged]
@[simp] theorem State.geometryChanged_freeIndex (g : Geometry) : (s.geometryChanged g).freeIndex = s.freeIndex := by simp [State.geometryChanged]
@[simp] theorem State.geometryChanged_pending (g : Geometry) : (s.geometryChanged g).pending = s.pending := by simp [State.geometryChanged]
@[simp] theorem State.reviewCarriers_phase : s.reviewCarriers.phase = s.phase := by simp [State.reviewCarriers]
@[simp] theorem State.reviewCarriers_pins : s.reviewCarriers.pins = s.pins := by simp [State.reviewCarriers]
@[simp] theorem State.reviewCarriers_geo : s.reviewCarriers.geo = s.geo := by simp [State.reviewCarriers]
@[simp] theorem State.reviewCarriers_pos : s.reviewCarriers.pos = s.pos := by simp [State.reviewCarriers]
@[simp] theorem State.reviewCarriers_mem : s.reviewCarriers.mem = s.mem := by simp [State.reviewCarriers]
@[simp] theorem State.reviewCarriers_load : s.reviewCarriers.load = s.load := by simp [State.reviewCarriers]
@[simp] theorem State.reviewCarriers_tech : s.reviewCarriers.tech = s.tech := by simp [State.reviewCarriers]
@[simp] theorem State.reviewCarriers_ptrs : s.reviewCarriers.ptrs = s.ptrs := by simp [State.reviewCarriers]
@[simp] theorem State.reviewCarriers_queue : s.reviewCarriers.queue = s.queue := by simp [State.reviewCarriers]
@[simp] theorem State.reviewCarriers_arm : s.reviewCarriers.arm = s.arm := by simp [State.reviewCarriers]
@[simp] theorem State.reviewCarriers_image : s.reviewCarriers.image = s.image := by simp [State.reviewCarriers]
@[simp] theorem State.reviewCarriers_heads : s.reviewCarriers.heads = s.heads := by simp [State.reviewCarriers]
@[simp] theorem State.reviewCarriers_catchers : s.reviewCarriers.catchers = s.catchers := by simp [State.reviewCarriers]
@[simp] theorem State.reviewCarriers_supply : s.reviewCarriers.supply = s.supply := by simp [State.reviewCarriers]
@[simp] theorem State.reviewCarriers_stops : s.reviewCarriers.stops = s.stops := by simp [State.reviewCarriers]
@[simp] theorem State.reviewCarriers_patternPort : s.reviewCarriers.patternPort = s.patternPort := by simp [State.reviewCarriers]
@[simp] theorem State.reviewCarriers_drivePort : s.reviewCarriers.drivePort = s.drivePort := by simp [State.reviewCarriers]
@[simp] theorem State.reviewCarriers_patternReasons : s.reviewCarriers.patternReasons = s.patternReasons := by simp [State.reviewCarriers]
@[simp] theorem State.reviewCarriers_driveReasons : s.reviewCarriers.driveReasons = s.driveReasons := by simp [State.reviewCarriers]
@[simp] theorem State.reviewCarriers_reasonCounts : s.reviewCarriers.reasonCounts = s.reasonCounts := by simp [State.reviewCarriers]
@[simp] theorem State.reviewCarriers_freeIndex : s.reviewCarriers.freeIndex = s.freeIndex := by simp [State.reviewCarriers]
@[simp] theorem State.reviewCarriers_pending : s.reviewCarriers.pending = s.pending := by simp [State.reviewCarriers]
@[simp] theorem State.breakLoad_phase (b : Bool) : (s.breakLoad b).phase = s.phase := by unfold State.breakLoad; split <;> rfl
@[simp] theorem State.breakLoad_pins (b : Bool) : (s.breakLoad b).pins = s.pins := by unfold State.breakLoad; split <;> rfl
@[simp] theorem State.breakLoad_geo (b : Bool) : (s.breakLoad b).geo = s.geo := by unfold State.breakLoad; split <;> rfl
@[simp] theorem State.breakLoad_pos (b : Bool) : (s.breakLoad b).pos = s.pos := by unfold State.breakLoad; split <;> rfl
@[simp] theorem State.breakLoad_mem (b : Bool) : (s.breakLoad b).mem = s.mem := by unfold State.breakLoad; split <;> rfl
@[simp] theorem State.breakLoad_tech (b : Bool) : (s.breakLoad b).tech = s.tech := by unfold State.breakLoad; split <;> rfl
@[simp] theorem State.breakLoad_ptrs (b : Bool) : (s.breakLoad b).ptrs = s.ptrs := by unfold State.breakLoad; split <;> rfl
@[simp] theorem State.breakLoad_queue (b : Bool) : (s.breakLoad b).queue = s.queue := by unfold State.breakLoad; split <;> rfl
@[simp] theorem State.breakLoad_arm (b : Bool) : (s.breakLoad b).arm = s.arm := by unfold State.breakLoad; split <;> rfl
@[simp] theorem State.breakLoad_image (b : Bool) : (s.breakLoad b).image = s.image := by unfold State.breakLoad; split <;> rfl
@[simp] theorem State.breakLoad_heads (b : Bool) : (s.breakLoad b).heads = s.heads := by unfold State.breakLoad; split <;> rfl
@[simp] theorem State.breakLoad_catchers (b : Bool) : (s.breakLoad b).catchers = s.catchers := by unfold State.breakLoad; split <;> rfl
@[simp] theorem State.breakLoad_carriers (b : Bool) : (s.breakLoad b).carriers = s.carriers := by unfold State.breakLoad; split <;> rfl
@[simp] theorem State.breakLoad_retained (b : Bool) : (s.breakLoad b).retained = s.retained := by unfold State.breakLoad; split <;> rfl
@[simp] theorem State.breakLoad_supply (b : Bool) : (s.breakLoad b).supply = s.supply := by unfold State.breakLoad; split <;> rfl
@[simp] theorem State.breakLoad_stops (b : Bool) : (s.breakLoad b).stops = s.stops := by unfold State.breakLoad; split <;> rfl
@[simp] theorem State.breakLoad_patternPort (b : Bool) : (s.breakLoad b).patternPort = s.patternPort := by unfold State.breakLoad; split <;> rfl
@[simp] theorem State.breakLoad_drivePort (b : Bool) : (s.breakLoad b).drivePort = s.drivePort := by unfold State.breakLoad; split <;> rfl
@[simp] theorem State.breakLoad_patternReasons (b : Bool) : (s.breakLoad b).patternReasons = s.patternReasons := by unfold State.breakLoad; split <;> rfl
@[simp] theorem State.breakLoad_driveReasons (b : Bool) : (s.breakLoad b).driveReasons = s.driveReasons := by unfold State.breakLoad; split <;> rfl
@[simp] theorem State.breakLoad_reasonCounts (b : Bool) : (s.breakLoad b).reasonCounts = s.reasonCounts := by unfold State.breakLoad; split <;> rfl
@[simp] theorem State.breakLoad_freeIndex (b : Bool) : (s.breakLoad b).freeIndex = s.freeIndex := by unfold State.breakLoad; split <;> rfl
@[simp] theorem State.breakLoad_pending (b : Bool) : (s.breakLoad b).pending = s.pending := by unfold State.breakLoad; split <;> rfl
@[simp] theorem State.withPort_phase (p : Port) (x : PortState) : (s.withPort p x).phase = s.phase := by cases p <;> rfl
@[simp] theorem State.withPort_pins (p : Port) (x : PortState) : (s.withPort p x).pins = s.pins := by cases p <;> rfl
@[simp] theorem State.withPort_geo (p : Port) (x : PortState) : (s.withPort p x).geo = s.geo := by cases p <;> rfl
@[simp] theorem State.withPort_pos (p : Port) (x : PortState) : (s.withPort p x).pos = s.pos := by cases p <;> rfl
@[simp] theorem State.withPort_mem (p : Port) (x : PortState) : (s.withPort p x).mem = s.mem := by cases p <;> rfl
@[simp] theorem State.withPort_load (p : Port) (x : PortState) : (s.withPort p x).load = s.load := by cases p <;> rfl
@[simp] theorem State.withPort_tech (p : Port) (x : PortState) : (s.withPort p x).tech = s.tech := by cases p <;> rfl
@[simp] theorem State.withPort_ptrs (p : Port) (x : PortState) : (s.withPort p x).ptrs = s.ptrs := by cases p <;> rfl
@[simp] theorem State.withPort_queue (p : Port) (x : PortState) : (s.withPort p x).queue = s.queue := by cases p <;> rfl
@[simp] theorem State.withPort_arm (p : Port) (x : PortState) : (s.withPort p x).arm = s.arm := by cases p <;> rfl
@[simp] theorem State.withPort_image (p : Port) (x : PortState) : (s.withPort p x).image = s.image := by cases p <;> rfl
@[simp] theorem State.withPort_heads (p : Port) (x : PortState) : (s.withPort p x).heads = s.heads := by cases p <;> rfl
@[simp] theorem State.withPort_catchers (p : Port) (x : PortState) : (s.withPort p x).catchers = s.catchers := by cases p <;> rfl
@[simp] theorem State.withPort_carriers (p : Port) (x : PortState) : (s.withPort p x).carriers = s.carriers := by cases p <;> rfl
@[simp] theorem State.withPort_retained (p : Port) (x : PortState) : (s.withPort p x).retained = s.retained := by cases p <;> rfl
@[simp] theorem State.withPort_supply (p : Port) (x : PortState) : (s.withPort p x).supply = s.supply := by cases p <;> rfl
@[simp] theorem State.withPort_stops (p : Port) (x : PortState) : (s.withPort p x).stops = s.stops := by cases p <;> rfl
@[simp] theorem State.withPort_patternReasons (p : Port) (x : PortState) : (s.withPort p x).patternReasons = s.patternReasons := by cases p <;> rfl
@[simp] theorem State.withPort_driveReasons (p : Port) (x : PortState) : (s.withPort p x).driveReasons = s.driveReasons := by cases p <;> rfl
@[simp] theorem State.withPort_reasonCounts (p : Port) (x : PortState) : (s.withPort p x).reasonCounts = s.reasonCounts := by cases p <;> rfl
@[simp] theorem State.withPort_freeIndex (p : Port) (x : PortState) : (s.withPort p x).freeIndex = s.freeIndex := by cases p <;> rfl
@[simp] theorem State.withPort_pending (p : Port) (x : PortState) : (s.withPort p x).pending = s.pending := by cases p <;> rfl
@[simp] theorem State.closeFrame_phase (p : Port) (r : ResultCode) (l : List Byte) : (s.closeFrame p r l).phase = s.phase := by simp [State.closeFrame]
@[simp] theorem State.closeFrame_pins (p : Port) (r : ResultCode) (l : List Byte) : (s.closeFrame p r l).pins = s.pins := by simp [State.closeFrame]
@[simp] theorem State.closeFrame_geo (p : Port) (r : ResultCode) (l : List Byte) : (s.closeFrame p r l).geo = s.geo := by simp [State.closeFrame]
@[simp] theorem State.closeFrame_pos (p : Port) (r : ResultCode) (l : List Byte) : (s.closeFrame p r l).pos = s.pos := by simp [State.closeFrame]
@[simp] theorem State.closeFrame_mem (p : Port) (r : ResultCode) (l : List Byte) : (s.closeFrame p r l).mem = s.mem := by simp [State.closeFrame]
@[simp] theorem State.closeFrame_load (p : Port) (r : ResultCode) (l : List Byte) : (s.closeFrame p r l).load = s.load := by simp [State.closeFrame]
@[simp] theorem State.closeFrame_tech (p : Port) (r : ResultCode) (l : List Byte) : (s.closeFrame p r l).tech = s.tech := by simp [State.closeFrame]
@[simp] theorem State.closeFrame_ptrs (p : Port) (r : ResultCode) (l : List Byte) : (s.closeFrame p r l).ptrs = s.ptrs := by simp [State.closeFrame]
@[simp] theorem State.closeFrame_queue (p : Port) (r : ResultCode) (l : List Byte) : (s.closeFrame p r l).queue = s.queue := by simp [State.closeFrame]
@[simp] theorem State.closeFrame_arm (p : Port) (r : ResultCode) (l : List Byte) : (s.closeFrame p r l).arm = s.arm := by simp [State.closeFrame]
@[simp] theorem State.closeFrame_image (p : Port) (r : ResultCode) (l : List Byte) : (s.closeFrame p r l).image = s.image := by simp [State.closeFrame]
@[simp] theorem State.closeFrame_heads (p : Port) (r : ResultCode) (l : List Byte) : (s.closeFrame p r l).heads = s.heads := by simp [State.closeFrame]
@[simp] theorem State.closeFrame_catchers (p : Port) (r : ResultCode) (l : List Byte) : (s.closeFrame p r l).catchers = s.catchers := by simp [State.closeFrame]
@[simp] theorem State.closeFrame_carriers (p : Port) (r : ResultCode) (l : List Byte) : (s.closeFrame p r l).carriers = s.carriers := by simp [State.closeFrame]
@[simp] theorem State.closeFrame_retained (p : Port) (r : ResultCode) (l : List Byte) : (s.closeFrame p r l).retained = s.retained := by simp [State.closeFrame]
@[simp] theorem State.closeFrame_supply (p : Port) (r : ResultCode) (l : List Byte) : (s.closeFrame p r l).supply = s.supply := by simp [State.closeFrame]
@[simp] theorem State.closeFrame_stops (p : Port) (r : ResultCode) (l : List Byte) : (s.closeFrame p r l).stops = s.stops := by simp [State.closeFrame]
@[simp] theorem State.closeFrame_patternReasons (p : Port) (r : ResultCode) (l : List Byte) : (s.closeFrame p r l).patternReasons = s.patternReasons := by simp [State.closeFrame]
@[simp] theorem State.closeFrame_driveReasons (p : Port) (r : ResultCode) (l : List Byte) : (s.closeFrame p r l).driveReasons = s.driveReasons := by simp [State.closeFrame]
@[simp] theorem State.closeFrame_reasonCounts (p : Port) (r : ResultCode) (l : List Byte) : (s.closeFrame p r l).reasonCounts = s.reasonCounts := by simp [State.closeFrame]
@[simp] theorem State.closeFrame_freeIndex (p : Port) (r : ResultCode) (l : List Byte) : (s.closeFrame p r l).freeIndex = s.freeIndex := by simp [State.closeFrame]
@[simp] theorem State.closeFrame_pending (p : Port) (r : ResultCode) (l : List Byte) : (s.closeFrame p r l).pending = s.pending := by simp [State.closeFrame]
@[simp] theorem State.ignoreFrame_phase (p : Port) : (s.ignoreFrame p).phase = s.phase := by simp [State.ignoreFrame]
@[simp] theorem State.ignoreFrame_pins (p : Port) : (s.ignoreFrame p).pins = s.pins := by simp [State.ignoreFrame]
@[simp] theorem State.ignoreFrame_geo (p : Port) : (s.ignoreFrame p).geo = s.geo := by simp [State.ignoreFrame]
@[simp] theorem State.ignoreFrame_pos (p : Port) : (s.ignoreFrame p).pos = s.pos := by simp [State.ignoreFrame]
@[simp] theorem State.ignoreFrame_mem (p : Port) : (s.ignoreFrame p).mem = s.mem := by simp [State.ignoreFrame]
@[simp] theorem State.ignoreFrame_load (p : Port) : (s.ignoreFrame p).load = s.load := by simp [State.ignoreFrame]
@[simp] theorem State.ignoreFrame_tech (p : Port) : (s.ignoreFrame p).tech = s.tech := by simp [State.ignoreFrame]
@[simp] theorem State.ignoreFrame_ptrs (p : Port) : (s.ignoreFrame p).ptrs = s.ptrs := by simp [State.ignoreFrame]
@[simp] theorem State.ignoreFrame_queue (p : Port) : (s.ignoreFrame p).queue = s.queue := by simp [State.ignoreFrame]
@[simp] theorem State.ignoreFrame_arm (p : Port) : (s.ignoreFrame p).arm = s.arm := by simp [State.ignoreFrame]
@[simp] theorem State.ignoreFrame_image (p : Port) : (s.ignoreFrame p).image = s.image := by simp [State.ignoreFrame]
@[simp] theorem State.ignoreFrame_heads (p : Port) : (s.ignoreFrame p).heads = s.heads := by simp [State.ignoreFrame]
@[simp] theorem State.ignoreFrame_catchers (p : Port) : (s.ignoreFrame p).catchers = s.catchers := by simp [State.ignoreFrame]
@[simp] theorem State.ignoreFrame_carriers (p : Port) : (s.ignoreFrame p).carriers = s.carriers := by simp [State.ignoreFrame]
@[simp] theorem State.ignoreFrame_retained (p : Port) : (s.ignoreFrame p).retained = s.retained := by simp [State.ignoreFrame]
@[simp] theorem State.ignoreFrame_supply (p : Port) : (s.ignoreFrame p).supply = s.supply := by simp [State.ignoreFrame]
@[simp] theorem State.ignoreFrame_stops (p : Port) : (s.ignoreFrame p).stops = s.stops := by simp [State.ignoreFrame]
@[simp] theorem State.ignoreFrame_patternReasons (p : Port) : (s.ignoreFrame p).patternReasons = s.patternReasons := by simp [State.ignoreFrame]
@[simp] theorem State.ignoreFrame_driveReasons (p : Port) : (s.ignoreFrame p).driveReasons = s.driveReasons := by simp [State.ignoreFrame]
@[simp] theorem State.ignoreFrame_reasonCounts (p : Port) : (s.ignoreFrame p).reasonCounts = s.reasonCounts := by simp [State.ignoreFrame]
@[simp] theorem State.ignoreFrame_freeIndex (p : Port) : (s.ignoreFrame p).freeIndex = s.freeIndex := by simp [State.ignoreFrame]
@[simp] theorem State.ignoreFrame_pending (p : Port) : (s.ignoreFrame p).pending = s.pending := by simp [State.ignoreFrame]
@[simp] theorem State.missFrame_phase (p : Port) (n : Nat) : (s.missFrame p n).phase = s.phase := by simp [State.missFrame]
@[simp] theorem State.missFrame_pins (p : Port) (n : Nat) : (s.missFrame p n).pins = s.pins := by simp [State.missFrame]
@[simp] theorem State.missFrame_geo (p : Port) (n : Nat) : (s.missFrame p n).geo = s.geo := by simp [State.missFrame]
@[simp] theorem State.missFrame_pos (p : Port) (n : Nat) : (s.missFrame p n).pos = s.pos := by simp [State.missFrame]
@[simp] theorem State.missFrame_mem (p : Port) (n : Nat) : (s.missFrame p n).mem = s.mem := by simp [State.missFrame]
@[simp] theorem State.missFrame_load (p : Port) (n : Nat) : (s.missFrame p n).load = s.load := by simp [State.missFrame]
@[simp] theorem State.missFrame_tech (p : Port) (n : Nat) : (s.missFrame p n).tech = s.tech := by simp [State.missFrame]
@[simp] theorem State.missFrame_ptrs (p : Port) (n : Nat) : (s.missFrame p n).ptrs = s.ptrs := by simp [State.missFrame]
@[simp] theorem State.missFrame_queue (p : Port) (n : Nat) : (s.missFrame p n).queue = s.queue := by simp [State.missFrame]
@[simp] theorem State.missFrame_arm (p : Port) (n : Nat) : (s.missFrame p n).arm = s.arm := by simp [State.missFrame]
@[simp] theorem State.missFrame_image (p : Port) (n : Nat) : (s.missFrame p n).image = s.image := by simp [State.missFrame]
@[simp] theorem State.missFrame_heads (p : Port) (n : Nat) : (s.missFrame p n).heads = s.heads := by simp [State.missFrame]
@[simp] theorem State.missFrame_catchers (p : Port) (n : Nat) : (s.missFrame p n).catchers = s.catchers := by simp [State.missFrame]
@[simp] theorem State.missFrame_carriers (p : Port) (n : Nat) : (s.missFrame p n).carriers = s.carriers := by simp [State.missFrame]
@[simp] theorem State.missFrame_retained (p : Port) (n : Nat) : (s.missFrame p n).retained = s.retained := by simp [State.missFrame]
@[simp] theorem State.missFrame_supply (p : Port) (n : Nat) : (s.missFrame p n).supply = s.supply := by simp [State.missFrame]
@[simp] theorem State.missFrame_stops (p : Port) (n : Nat) : (s.missFrame p n).stops = s.stops := by simp [State.missFrame]
@[simp] theorem State.missFrame_patternReasons (p : Port) (n : Nat) : (s.missFrame p n).patternReasons = s.patternReasons := by simp [State.missFrame]
@[simp] theorem State.missFrame_driveReasons (p : Port) (n : Nat) : (s.missFrame p n).driveReasons = s.driveReasons := by simp [State.missFrame]
@[simp] theorem State.missFrame_reasonCounts (p : Port) (n : Nat) : (s.missFrame p n).reasonCounts = s.reasonCounts := by simp [State.missFrame]
@[simp] theorem State.missFrame_freeIndex (p : Port) (n : Nat) : (s.missFrame p n).freeIndex = s.freeIndex := by simp [State.missFrame]
@[simp] theorem State.missFrame_pending (p : Port) (n : Nat) : (s.missFrame p n).pending = s.pending := by simp [State.missFrame]
@[simp] theorem State.softReset_phase : s.softReset.phase = s.phase := by simp [State.softReset]
@[simp] theorem State.softReset_pins : s.softReset.pins = s.pins := by simp [State.softReset]
@[simp] theorem State.softReset_drivePort : s.softReset.drivePort = s.drivePort := by simp [State.softReset]
@[simp] theorem State.softReset_reasonCounts : s.softReset.reasonCounts = s.reasonCounts := by simp [State.softReset]
@[simp] theorem State.softReset_freeIndex : s.softReset.freeIndex = s.freeIndex := by simp [State.softReset]
@[simp] theorem State.softReset_pending : s.softReset.pending = s.pending := by simp [State.softReset]

end Sys2Proof.Machine
end

