-- ==== Sys2Proof/Laws/Answers.lean ====
section
/-! SUPPORT. What a frame answers: a whole frame of a write and of a read command, once the part carries frames out. -/

namespace Sys2Proof.Machine

variable {s : State}

theorem State.open_live (h : s.open) : s.live = true := by simp [State.live, h.1]

theorem State.open_busy (h : s.open) (exempt : Bool) : s.busy exempt = false := by simp [State.busy, h.1, h.2]

@[simp] theorem State.breakLoad_true (s : State) : s.breakLoad true = s.loadBroken := rfl
@[simp] theorem State.breakLoad_false (s : State) : s.breakLoad false = s := rfl

/-- A whole frame of a command without a reply is its own rule, then the end of the frame (R173, R174). -/
theorem takeWrite_fits (h : s.open) (f : FrameShape) (breaks : Bool) (own : State → ResultCode × State) :
    takeWrite f breaks own .fits s =
      (own (s.breakLoad breaks)).2.closeFrame f.port (own (s.breakLoad breaks)).1 (zeros f.params) := by
  simp [takeWrite, State.open_live h, State.open_busy h]

/-- A whole frame of a command with a reply: the reply is formed, the command is carried out at the end (R176). -/
theorem takeRead_whole (h : s.open) (f : FrameShape) (exempt breaks : Bool) (form : State → Formed)
    (finish : Formed → State → ResultCode × State) :
    takeRead f exempt breaks form finish (.whole .fits) s =
      ((finish (form s) s).2.breakLoad (breaks && decide ((finish (form s) s).1 ≠ .busy))).closeFrame f.port
        (finish (form s) s).1 (zeros f.params ++ (form s).reply) := by
  simp [takeRead, endRead, State.formReply, State.open_live h, State.open_busy h]

/-- Between its own reply and its own end a command that only reads has one result (R176). -/
@[simp] theorem finishRead_self (form : State → Formed) (effect : Carried → State → State) (s : State) :
    finishRead form effect (form s) s = ((form s).result, effect (form s).carried s) := by
  simp [finishRead]

@[simp] theorem noEffect_eq (c : Carried) (s : State) : noEffect c s = s := rfl

@[simp] theorem State.closeFrame_pattern (s : State) (r : ResultCode) (l : List Byte) :
    s.closeFrame .pattern r l = s.withPatternPort ⟨r, none, s.patternPort.lastResult.code :: l⟩ := rfl
@[simp] theorem State.closeFrame_drive (s : State) (r : ResultCode) (l : List Byte) :
    s.closeFrame .drive r l = s.withDrivePort ⟨r, none, s.drivePort.lastResult.code :: l⟩ := rfl

end Sys2Proof.Machine
end

