-- ==== Sys2Proof/Laws/Effects.lean ====
section
/-! SUPPORT. What each shared operation on the carriers, the head course, the locks and the stop unit does, said once. -/

namespace Sys2Proof.Machine

variable {s : State}

/-! ## The carrier table and what waits to be written -/

@[simp] theorem State.changeCarriers_get (f : Carrier → CarrierEntry → CarrierEntry) (k : Carrier) :
    (s.changeCarriers f).carriers[k] = f k s.carriers[k] := by
  simp [State.changeCarriers]

@[simp] theorem State.changeCarriers_getNat (f : Carrier → CarrierEntry → CarrierEntry) (k : Nat) (h : k < 16) :
    (s.changeCarriers f).carriers[k] = f ⟨k, h⟩ s.carriers[k] := by
  simp [State.changeCarriers]

/-- A change of carriers only adds to the changes waiting for retained memory. -/
theorem State.changeCarriers_retained (f : Carrier → CarrierEntry → CarrierEntry) :
    ∃ l, (s.changeCarriers f).retained = { s.retained with writes := s.retained.writes ++ l } :=
  ⟨_, rfl⟩

/-- A change of carriers touches the carrier table and retained memory alone. -/
theorem State.changeCarriers_sameBut (f : Carrier → CarrierEntry → CarrierEntry) :
    (s.changeCarriers f).sameBut s [.carriers, .retained] := by
  intro b hb
  cases b <;> simp_all [Block.same]

@[simp] theorem State.changeCarrier_get (f : CarrierEntry → CarrierEntry) (j k : Carrier) :
    (s.changeCarrier j f).carriers[k] = if k = j then f s.carriers[k] else s.carriers[k] := by
  simp only [State.changeCarrier, State.changeCarriers_get]

/-! ## The head of the queue -/

/-- What the head is, by the queue. -/
theorem State.head?_cons {c : Course} {cs : List Course} (h : s.queue.courses = c :: cs) : s.head? = some c := by
  simp [State.head?, h]

theorem State.headIs_cons {c : Course} {cs : List Course} (h : s.queue.courses = c :: cs) (st : CourseState) :
    s.headIs st = decide (c.state = st) := by
  simp [State.headIs, State.head?, h]

theorem State.headIs_nil (h : s.queue.courses = []) (st : CourseState) : s.headIs st = false := by
  simp [State.headIs, State.head?, h]

/-- A head course that is in no state past QUEUED is QUEUED, or there is none. -/
theorem State.pastQueued_eq_false : s.pastQueued = false ↔ ∀ c, s.head? = some c → c.state = .queued := by
  simp only [State.pastQueued, State.headIs]
  rcases s.head? with _ | c
  · simp
  · rcases h : c.state <;> simp [h]

theorem State.changeHead_courses {c : Course} {cs : List Course} (h : s.queue.courses = c :: cs)
    (f : Course → Course) : (s.changeHead f).queue = { s.queue with courses := f c :: cs } := by
  simp [State.changeHead, h]

/-- Returning to QUEUED: the course's place, rows and fields stay; locks, image and stage go; a pending GRANT_READY goes
on a return from ARMED. -/
theorem State.returnToQueued_effect {c : Course} {cs : List Course} (h : s.queue.courses = c :: cs) :
    s.returnToQueued.queue = { s.queue with courses := { c with state := .queued } :: cs } ∧
    s.returnToQueued.mem = ⟨s.mem.cells, []⟩ ∧ s.returnToQueued.tech = ⟨s.tech.tables, []⟩ ∧
    s.returnToQueued.image = .cleared ∧ s.returnToQueued.arm = { s.arm with stage := none } ∧
    s.returnToQueued.driveReasons = { s.driveReasons with
      grantReady := s.driveReasons.grantReady && !decide (c.state = .armed) } := by
  by_cases ha : c.state = .armed <;>
    simp [State.returnToQueued, State.headIs_cons h, ha, State.changeHead, h, State.releaseCourse]

/-- A retirement: the record of the head course joins the list, the next course is the head, locks and image go. -/
theorem State.retire_effect {c : Course} {cs : List Course} (h : s.queue.courses = c :: cs) (o : CourseOutcome) :
    (s.retire o).queue = { s.queue with courses := cs, completions := s.queue.completions ++ [c.completion o] } ∧
    (s.retire o).mem = ⟨s.mem.cells, []⟩ ∧ (s.retire o).tech = ⟨s.tech.tables, []⟩ ∧ (s.retire o).image = .cleared ∧
    (s.retire o).heads = { s.heads with stroke := none } ∧
    (s.retire o).patternReasons = { s.patternReasons with completionWaiting := true } := by
  simp [State.retire, h, State.releaseCourse]

/-! ## Attention reasons set -/

@[simp] theorem State.raiseFault_patternReasons :
    s.raiseFault.patternReasons = { s.patternReasons with fault := true } := rfl
@[simp] theorem State.raiseFault_driveReasons :
    s.raiseFault.driveReasons = { s.driveReasons with fault := true } := rfl
@[simp] theorem State.raiseFault_reasonCounts :
    s.raiseFault.reasonCounts = { s.reasonCounts with fault := s.reasonCounts.fault + 1 } := rfl
@[simp] theorem State.raiseGrantWithdrawn_driveReasons :
    s.raiseGrantWithdrawn.driveReasons = { s.driveReasons with grantWithdrawn := true } := rfl
@[simp] theorem State.raiseGrantWithdrawn_reasonCounts :
    s.raiseGrantWithdrawn.reasonCounts =
      { s.reasonCounts with grantWithdrawn := s.reasonCounts.grantWithdrawn + 1 } := rfl
@[simp] theorem State.raiseStrokeDone_driveReasons :
    s.raiseStrokeDone.driveReasons = { s.driveReasons with strokeDone := true } := rfl
@[simp] theorem State.raiseStrokeDone_reasonCounts :
    s.raiseStrokeDone.reasonCounts = { s.reasonCounts with strokeDone := s.reasonCounts.strokeDone + 1 } := rfl
@[simp] theorem State.raiseWakeDone_driveReasons :
    s.raiseWakeDone.driveReasons = { s.driveReasons with wakeDone := true } := rfl
@[simp] theorem State.raiseWakeDone_reasonCounts :
    s.raiseWakeDone.reasonCounts = { s.reasonCounts with wakeDone := s.reasonCounts.wakeDone + 1 } := rfl
@[simp] theorem State.raiseOutcome_driveReasons (granted : Bool) :
    (s.raiseOutcome granted).driveReasons = { s.driveReasons with
      grantReady := s.driveReasons.grantReady || granted
      refusalReady := s.driveReasons.refusalReady || !granted } := rfl
@[simp] theorem State.raiseOutcome_patternReasons (granted : Bool) :
    (s.raiseOutcome granted).patternReasons = { s.patternReasons with headRefused := !granted } := rfl
@[simp] theorem State.raiseOutcome_reasonCounts (granted : Bool) :
    (s.raiseOutcome granted).reasonCounts = { s.reasonCounts with outcome := s.reasonCounts.outcome + 1 } := rfl

/-! ## Stroke faults -/

/-- A fault cause raises no fault unless the head course is KNITTING. -/
theorem State.strokeFault_idle (h : s.headIs .knitting = false) (r : FaultReason) (k : Option Carrier) (hd : Option Head) :
    s.strokeFault r k hd = s := by
  simp only [State.strokeFault]
  rcases hh : s.head? with _ | c
  · rfl
  · simp_all [State.headIs]

/-- A stroke fault, block by block. -/
theorem State.strokeFault_effect {c : Course} {cs : List Course} (h : s.queue.courses = c :: cs)
    (hk : c.state = .knitting) (r : FaultReason) (k : Option Carrier) (hd : Option Head) :
    let t := s.strokeFault r k hd
    t.heads = s.heads.silence ∧ (∀ j : Carrier, t.carriers[j] = s.carriers[j].hold) ∧
    t.queue = { s.queue with courses := { c with state := .faulted, lastFault := some r } :: cs } ∧
    t.stops = { s.stops with latch := true, faultRecord := some (s.faultRecordNow c r k hd) } ∧
    t.patternReasons = { s.patternReasons with fault := true } ∧
    t.driveReasons = { s.driveReasons with fault := true } ∧
    t.reasonCounts = { s.reasonCounts with fault := s.reasonCounts.fault + 1 } ∧
    ∃ l, t.retained = { s.retained with writes := s.retained.writes ++ l } := by
  simp only [State.strokeFault, State.head?_cons h, hk, if_true]
  refine ⟨by simp, fun j => ?_, ?_, by simp, by simp, by simp, by simp, ?_⟩
  · simp [State.changeHead]
  · simp [State.changeHead, h]
  · obtain ⟨l, hl⟩ := (s.withHeads s.heads.silence).changeCarriers_retained (fun _ e => e.hold)
    exact ⟨l, by simpa using hl⟩

end Sys2Proof.Machine
end

