-- ==== Sys2Proof/Laws/PerInstr.lean ====
section
/-! SUPPORT. A fact of every command, constructor by constructor: the parameter bytes it is encoded with are as many as
the command table of R181 gives it. -/

namespace Sys2Proof.Laws

/-- The parameters of a command have the length of its row of the command table (R173, R181, R182). -/
def Framed.Statement (i : Instr) : Prop := ∀ f : FrameShape, i.shape = some f → (encodeParams i).length = f.params

theorem encodeEntry_length (e : EntryFrame) : (encodeEntry e).length = 24 := rfl

theorem encodeEntries_length (l : List EntryFrame) : (l.flatMap encodeEntry).length = 24 * l.length := by
  induction l with
  | nil => rfl
  | cons e l ih => simp [encodeEntry_length, ih]; omega

theorem encodeCourse_length (r : CourseFrame) : (encodeCourse r).length = 12 + 24 * r.entries.length := by
  rw [encodeCourse, List.length_append, encodeEntries_length]; simp [wordBytes]

theorem Framed.readStatus (port : Port) (frame : ReadFrame) :
    Framed.Statement (.readStatus port frame) := by rintro f ⟨⟩; rfl

theorem Framed.softReset (port : Port) (frame : FrameEnd) :
    Framed.Statement (.softReset port frame) := by rintro f ⟨⟩; rfl

theorem Framed.readGeometryField (port : Port) (frame : ReadFrame) (field : Byte) (index : Byte) :
    Framed.Statement (.readGeometryField port frame field index) := by rintro f ⟨⟩; rfl

theorem Framed.readFault (port : Port) (frame : ReadFrame) :
    Framed.Statement (.readFault port frame) := by rintro f ⟨⟩; rfl

theorem Framed.unknownCommand (port : Port) (frame : FrameEnd) (code : Byte) :
    Framed.Statement (.unknownCommand port frame code) := by rintro f ⟨⟩

theorem Framed.writeRow (frame : FrameEnd) (row : BitVec 16) (start : BitVec 16) (data : List Byte) :
    Framed.Statement (.writeRow frame row start data) := by
  rintro f ⟨⟩; simp [encodeParams, wordBytes, Layout.writeRow]; omega

theorem Framed.rowContinue (frame : FrameEnd) (data : List Byte) :
    Framed.Statement (.rowContinue frame data) := by
  rintro f ⟨⟩; rfl

theorem Framed.readRow (frame : ReadFrame) (row : BitVec 16) (start : BitVec 16) (count : BitVec 16) :
    Framed.Statement (.readRow frame row start count) := by
  rintro f ⟨⟩; rfl

theorem Framed.testCell (frame : ReadFrame) (row : BitVec 16) (cell : BitVec 16) :
    Framed.Statement (.testCell frame row cell) := by rintro f ⟨⟩; rfl

theorem Framed.exchangeCell (frame : ReadFrame) (row : BitVec 16) (cell : BitVec 16) (colour : Byte) :
    Framed.Statement (.exchangeCell frame row cell colour) := by rintro f ⟨⟩; rfl

theorem Framed.conditionalExchangeCell (frame : ReadFrame) (row : BitVec 16) (cell : BitVec 16) (expected : Byte) (new : Byte) :
    Framed.Statement (.conditionalExchangeCell frame row cell expected new) := by rintro f ⟨⟩; rfl

theorem Framed.scanRow (frame : ReadFrame) (row : BitVec 16) (a : BitVec 16) (b : BitVec 16) (set : BitVec 16) (direction : Byte) :
    Framed.Statement (.scanRow frame row a b set direction) := by rintro f ⟨⟩; rfl

theorem Framed.writeTechnique (frame : FrameEnd) (table : Byte) (colour : Byte) (front : Byte) (back : Byte) (parity : Byte) :
    Framed.Statement (.writeTechnique frame table colour front back parity) := by rintro f ⟨⟩; rfl

theorem Framed.readTechnique (frame : ReadFrame) (table : Byte) (colour : Byte) :
    Framed.Statement (.readTechnique frame table colour) := by rintro f ⟨⟩; rfl

theorem Framed.setPointer (frame : FrameEnd) (pointer : Byte) (current : BitVec 16) (low : BitVec 16) (high : BitVec 16) (mode : Byte) (step : Byte) :
    Framed.Statement (.setPointer frame pointer current low high mode step) := by rintro f ⟨⟩; rfl

theorem Framed.readPointer (frame : ReadFrame) (pointer : Byte) :
    Framed.Statement (.readPointer frame pointer) := by rintro f ⟨⟩; rfl

theorem Framed.commitCourse (frame : FrameEnd) (record : CourseFrame) :
    Framed.Statement (.commitCourse frame record) := by
  rintro f ⟨⟩; exact encodeCourse_length record

theorem Framed.discardHead (frame : FrameEnd) :
    Framed.Statement (.discardHead frame) := by rintro f ⟨⟩; rfl

theorem Framed.fetchCompletion (frame : ReadFrame) :
    Framed.Statement (.fetchCompletion frame) := by rintro f ⟨⟩; rfl

theorem Framed.readHeadCourse (frame : ReadFrame) :
    Framed.Statement (.readHeadCourse frame) := by rintro f ⟨⟩; rfl

theorem Framed.setZone (frame : FrameEnd) (left : BitVec 16) (right : BitVec 16) :
    Framed.Statement (.setZone frame left right) := by rintro f ⟨⟩; rfl

theorem Framed.setWantLevel (frame : FrameEnd) (level : Byte) :
    Framed.Statement (.setWantLevel frame level) := by rintro f ⟨⟩; rfl

theorem Framed.setCarrier (frame : FrameEnd) (carrier : Byte) (position : BitVec 16) :
    Framed.Statement (.setCarrier frame carrier position) := by rintro f ⟨⟩; rfl

theorem Framed.setCarrierLimit (frame : FrameEnd) (carrier : Byte) (speed : Byte) :
    Framed.Statement (.setCarrierLimit frame carrier speed) := by rintro f ⟨⟩; rfl

theorem Framed.readCarrier (frame : ReadFrame) (carrier : Byte) :
    Framed.Statement (.readCarrier frame carrier) := by rintro f ⟨⟩; rfl

theorem Framed.readResumeRecord (frame : ReadFrame) :
    Framed.Statement (.readResumeRecord frame) := by rintro f ⟨⟩; rfl

theorem Framed.clearResumeRecord (frame : FrameEnd) :
    Framed.Statement (.clearResumeRecord frame) := by rintro f ⟨⟩; rfl

theorem Framed.setGeometryField (frame : FrameEnd) (field : Byte) (index : Byte) (value : BitVec 32) :
    Framed.Statement (.setGeometryField frame field index value) := by rintro f ⟨⟩; rfl

theorem Framed.goOnline (frame : FrameEnd) :
    Framed.Statement (.goOnline frame) := by rintro f ⟨⟩; rfl

theorem Framed.goOffline (frame : FrameEnd) :
    Framed.Statement (.goOffline frame) := by rintro f ⟨⟩; rfl

theorem Framed.storeSettings (frame : FrameEnd) :
    Framed.Statement (.storeSettings frame) := by rintro f ⟨⟩; rfl

theorem Framed.storeWriteComplete :
    Framed.Statement .storeWriteComplete := by rintro f ⟨⟩

theorem Framed.readPosition (frame : ReadFrame) :
    Framed.Statement (.readPosition frame) := by rintro f ⟨⟩; rfl

theorem Framed.homeArm (frame : FrameEnd) :
    Framed.Statement (.homeArm frame) := by rintro f ⟨⟩; rfl

theorem Framed.setRacking (frame : FrameEnd) (racking : Byte) :
    Framed.Statement (.setRacking frame racking) := by rintro f ⟨⟩; rfl

theorem Framed.actuatorsOn (frame : FrameEnd) :
    Framed.Statement (.actuatorsOn frame) := by rintro f ⟨⟩; rfl

theorem Framed.wakeComplete :
    Framed.Statement .wakeComplete := by rintro f ⟨⟩

theorem Framed.actuatorsOff (frame : FrameEnd) :
    Framed.Statement (.actuatorsOff frame) := by rintro f ⟨⟩; rfl

theorem Framed.requestStroke (frame : FrameEnd) :
    Framed.Statement (.requestStroke frame) := by rintro f ⟨⟩; rfl

theorem Framed.locksAndResolution :
    Framed.Statement .locksAndResolution := by rintro f ⟨⟩

theorem Framed.zoneStage :
    Framed.Statement .zoneStage := by rintro f ⟨⟩

theorem Framed.imageStage :
    Framed.Statement .imageStage := by rintro f ⟨⟩

theorem Framed.transferPairing :
    Framed.Statement .transferPairing := by rintro f ⟨⟩

theorem Framed.carrierPlan :
    Framed.Statement .carrierPlan := by rintro f ⟨⟩

theorem Framed.extentAndTurningPoints :
    Framed.Statement .extentAndTurningPoints := by rintro f ⟨⟩

theorem Framed.speedClass :
    Framed.Statement .speedClass := by rintro f ⟨⟩

theorem Framed.completionAndGrant :
    Framed.Statement .completionAndGrant := by rintro f ⟨⟩

theorem Framed.readGrant (frame : ReadFrame) :
    Framed.Statement (.readGrant frame) := by rintro f ⟨⟩; rfl

theorem Framed.beginStroke (frame : FrameEnd) :
    Framed.Statement (.beginStroke frame) := by rintro f ⟨⟩; rfl

theorem Framed.abandonStroke (frame : FrameEnd) :
    Framed.Statement (.abandonStroke frame) := by rintro f ⟨⟩; rfl

theorem Framed.resumeStroke (frame : FrameEnd) :
    Framed.Statement (.resumeStroke frame) := by rintro f ⟨⟩; rfl

theorem Framed.setSpeedCap (frame : FrameEnd) (speed : Byte) :
    Framed.Statement (.setSpeedCap frame speed) := by rintro f ⟨⟩; rfl

theorem Framed.clearStop (frame : FrameEnd) :
    Framed.Statement (.clearStop frame) := by rintro f ⟨⟩; rfl

theorem Framed.encoderTransition (a : Bool) (b : Bool) :
    Framed.Statement (.encoderTransition a b) := by rintro f ⟨⟩

theorem Framed.pulseEnd (head : Head) :
    Framed.Statement (.pulseEnd head) := by rintro f ⟨⟩

theorem Framed.indexPulse :
    Framed.Statement .indexPulse := by rintro f ⟨⟩

theorem Framed.stopInAssertion :
    Framed.Statement .stopInAssertion := by rintro f ⟨⟩

theorem Framed.stopInRelease :
    Framed.Statement .stopInRelease := by rintro f ⟨⟩

theorem Framed.yarnSensorBreak (carrier : Carrier) :
    Framed.Statement (.yarnSensorBreak carrier) := by rintro f ⟨⟩

theorem Framed.pfwAssertion :
    Framed.Statement .pfwAssertion := by rintro f ⟨⟩

theorem Framed.pfwRelease :
    Framed.Statement .pfwRelease := by rintro f ⟨⟩

theorem Framed.resumeRecordWriteComplete :
    Framed.Statement .resumeRecordWriteComplete := by rintro f ⟨⟩

theorem Framed.retainedWriteComplete :
    Framed.Statement .retainedWriteComplete := by rintro f ⟨⟩

theorem Framed.powerOn :
    Framed.Statement .powerOn := by rintro f ⟨⟩

theorem Framed.powerLoss :
    Framed.Statement .powerLoss := by rintro f ⟨⟩

theorem Framed.resetAssertion :
    Framed.Statement .resetAssertion := by rintro f ⟨⟩

theorem Framed.resetRelease :
    Framed.Statement .resetRelease := by rintro f ⟨⟩

theorem Framed.startUpEnd :
    Framed.Statement .startUpEnd := by rintro f ⟨⟩

theorem Framed.yarnSensorBreakEnd (carrier : Carrier) :
    Framed.Statement (.yarnSensorBreakEnd carrier) := by rintro f ⟨⟩

theorem Framed.backupSupplyFailure :
    Framed.Statement .backupSupplyFailure := by rintro f ⟨⟩

end Sys2Proof.Laws
end

