-- ==== Sys2Proof/Laws/Stores.lean ====
section
/-! SUPPORT. The sparse stores and the pattern memory: a read after a write, and the one form that every write keeps. -/

namespace Sys2Proof.Machine

variable {α : Type} [DecidableEq α] {d : α}

theorem Store.wf_nil : Store.wf d ([] : Store α) = true := by simp [Store.wf]

theorem Store.wf_cons {k : Nat} {w : α} {m : Store α} :
    Store.wf d ((k, w) :: m) = true ↔ w ≠ d ∧ (∀ e ∈ m, k < e.1) ∧ Store.wf d m = true := by
  simp only [Store.wf, List.map_cons, List.pairwise_cons, List.all_cons, Bool.and_eq_true, decide_eq_true_eq,
    List.mem_map, forall_exists_index, and_imp, forall_apply_eq_imp_iff₂]
  tauto

/-- Every entry of a store after a write is an entry of before, or the one written. -/
theorem Store.mem_write {m : Store α} {a : Nat} {v : α} {e : Nat × α} (h : e ∈ Store.write d m a v) :
    e = (a, v) ∨ e ∈ m := by
  induction m with
  | nil => simp only [Store.write] at h; split at h <;> simp_all
  | cons x m ih =>
    simp only [Store.write] at h
    split at h
    · split at h <;> simp_all
    · split at h
      · split at h <;> (simp only [List.mem_cons] at *; tauto)
      · rcases List.mem_cons.1 h with h | h
        · exact .inr (h ▸ List.mem_cons_self ..)
        · exact (ih h).imp_right (List.mem_cons_of_mem _)

/-- A write keeps the one form. -/
theorem Store.wf_write {m : Store α} (hm : Store.wf d m = true) (a : Nat) (v : α) :
    Store.wf d (Store.write d m a v) = true := by
  induction m with
  | nil => simp only [Store.write]; split <;> simp_all [Store.wf_cons, Store.wf_nil]
  | cons x m ih =>
    obtain ⟨k, w⟩ := x
    obtain ⟨hw, hk, hm'⟩ := Store.wf_cons.1 hm
    simp only [Store.write]
    split
    · split
      · exact hm
      · next hak hv =>
        refine Store.wf_cons.2 ⟨hv, fun e he => ?_, hm⟩
        rcases List.mem_cons.1 he with rfl | he
        · exact hak
        · exact hak.trans (hk e he)
    · split
      · next hak =>
        split
        · exact hm'
        · next hv => exact Store.wf_cons.2 ⟨hv, fun e he => hak ▸ hk e he, hm'⟩
      · next h1 h2 =>
        refine Store.wf_cons.2 ⟨hw, fun e he => ?_, ih hm'⟩
        rcases Store.mem_write he with rfl | he
        · change k < a; omega
        · exact hk e he

omit [DecidableEq α] in
/-- A key below every listed key reads the unlisted value. -/
theorem Store.read_of_lt {m : Store α} {a : Nat} (h : ∀ e ∈ m, a < e.1) : Store.read d m a = d := by
  induction m with
  | nil => rfl
  | cons x m ih =>
    have := h x (List.mem_cons_self ..)
    simp only [Store.read]
    rw [if_neg (by omega), ih fun e he => h e (List.mem_cons_of_mem _ he)]

/-- A read after a write gives the value written at its key and leaves every other key alone. -/
theorem Store.read_write {m : Store α} (hm : Store.wf d m = true) (a b : Nat) (v : α) :
    Store.read d (Store.write d m a v) b = if b = a then v else Store.read d m b := by
  induction m with
  | nil => simp only [Store.write]; split <;> simp_all [Store.read]
  | cons x m ih =>
    obtain ⟨k, w⟩ := x
    obtain ⟨hw, hk, hm'⟩ := Store.wf_cons.1 hm
    simp only [Store.write]
    split
    · next hak =>
      have hlt : ∀ e ∈ (k, w) :: m, a < e.1 := fun e he => by
        rcases List.mem_cons.1 he with rfl | he
        · exact hak
        · exact hak.trans (hk e he)
      split
      · next hv =>
        split
        · next hb => rw [hb, Store.read_of_lt hlt, hv]
        · rfl
      · rfl
    · split
      · next hak =>
        subst hak
        split
        · next hv =>
          simp only [Store.read]
          split
          · next hb => rw [hb, Store.read_of_lt hk, hv]
          · rfl
        · simp only [Store.read]; split <;> rfl
      · next h1 h2 =>
        simp only [Store.read, ih hm']
        split
        · next hb => rw [if_neg (by omega)]
        · rfl

/-- Two cells of rows have one address only if they are one cell. -/
theorem cellAddress_inj {r j r' j' : Nat} (hj : j < Config.cellCount) (hj' : j' < Config.cellCount) :
    cellAddress r j = cellAddress r' j' ↔ r = r' ∧ j = j' := by
  simp only [cellAddress, Config.cellCount] at *
  constructor
  · intro h; omega
  · rintro ⟨rfl, rfl⟩; rfl

theorem Memory.wf_store {m : Memory} (h : Memory.wf m = true) : Store.wf 0 m = true := by
  simp only [Memory.wf, Bool.and_eq_true] at h
  exact h.1

/-- A cell after a write to a cell. -/
theorem Memory.read_write {m : Memory} (h : Memory.wf m = true) {r j r' j' : Nat} (c : Colour)
    (hj : j < Config.cellCount) (hj' : j' < Config.cellCount) :
    Memory.read (Memory.write m r j c) r' j' = if r' = r ∧ j' = j then c else Memory.read m r' j' := by
  simp only [Memory.read, Memory.write, Store.read_write (Memory.wf_store h), cellAddress_inj hj' hj]

/-- A write to a cell of the 512 rows keeps the one form of the memory. -/
theorem Memory.wf_write {m : Memory} (h : Memory.wf m = true) {r j : Nat} (c : Colour) (hr : r < Config.rowCount)
    (hj : j < Config.cellCount) : Memory.wf (Memory.write m r j c) = true := by
  simp only [Memory.wf, Bool.and_eq_true, List.all_eq_true, decide_eq_true_eq] at *
  refine ⟨Store.wf_write h.1 _ _, fun e he => ?_⟩
  rcases Store.mem_write he with rfl | he
  · simp only [cellAddress, Config.rowCount, Config.cellCount] at *; omega
  · exact h.2 e he

theorem Memory.wf_nil : Memory.wf [] = true := rfl

/-- Every memory operation keeps the form: the forward write of a load. -/
theorem Memory.wf_forwardWrite {locks : List Nat} {cs : List Colour} {m : Memory} {row cell : Nat}
    (h : Memory.wf m = true) (hc : cell < Config.cellCount) :
    Memory.wf (forwardWrite locks cs m row cell).1 = true := by
  induction cs generalizing m row cell with
  | nil => exact h
  | cons c cs ih =>
    simp only [forwardWrite]
    split
    · exact h
    · split
      · exact h
      · next hr _ =>
        split
        · next hc' => exact ih (Memory.wf_write h c (by omega) hc) hc'
        · exact ih (Memory.wf_write h c (by omega) hc) (by decide)

/-- Where the forward write leaves the cursor. -/
theorem forwardWrite_cursor {locks : List Nat} {cs : List Colour} {m : Memory} {row cell : Nat}
    (h : (row < Config.rowCount ∧ cell < Config.cellCount) ∨ (row = Config.rowCount ∧ cell = 0)) :
    let w := forwardWrite locks cs m row cell
    (w.2.1 < Config.rowCount ∧ w.2.2.1 < Config.cellCount) ∨ (w.2.1 = Config.rowCount ∧ w.2.2.1 = 0) := by
  induction cs generalizing m row cell with
  | nil => exact h
  | cons c cs ih =>
    simp only [forwardWrite]
    split
    · exact h
    · split
      · exact h
      · split
        · exact ih (.inl ⟨by omega, by assumption⟩)
        · simp only [Config.rowCount, Config.cellCount] at *
          exact ih (by omega)

end Sys2Proof.Machine
end

