-- ==== Sys2Proof/Tests/Slice0.lean ====
section
/-! SUPPORT. Tests of the part: well-formedness, the bytes of frames, single steps whose results are worked out from the
rules, and a state and operands that meet the hypotheses of each statement. -/

namespace Sys2Proof.Tests

open Sys2Proof.Machine

/-! ## Small states -/

/-- The state after a command. -/
def after (i : Instr) (s : State) : State :=
  match exec i s with
  | .next t => t
  | _ => s

/-- A bed of 64 needles, 16 counts a needle, needle 0 at count 400, heads and catchers apart from one another. -/
def geometry : Geometry :=
  { Geometry.defaults with
    bedNeedles := 64, bedOrigin := 400, headOffset := #v[0, 2, 4, 6, 9, 10], catchOffset := 12, travelHi := 4000 }

/-- Carriers 1 and 2, both on rail 1, parked at -2 and 70; every other carrier unknown. -/
def carriers : Vector CarrierEntry 16 := (carriersNeverPlaced.set 0 ⟨.parked (-2), 0⟩).set 1 ⟨.parked 70, 0⟩

/-- READY, homed at P = 290, racking 0, the supply ON; row 3 holds colour 1 at cell 0, table 0 knits colour 1. -/
def ready : State :=
  { State.reset with
    geo := ⟨geometry, 0, .ready, false, false, ⟨geometry, true⟩⟩
    pos := ⟨290, true, false, 0, true, false, false⟩
    mem := ⟨[(3840, 1)], []⟩
    tech := ⟨TechniqueMemory.initial.tables.set 0
      ((Vector.ofFn fun _ => TechniqueEntry.blank).set 1 ⟨.knit, .tuck, .even⟩), []⟩
    carriers := carriers
    retained := ⟨carriers, none, true, false, [], false⟩
    supply := .on }

/-- System 1 knits row 3 through table 0, repeated every 4 needles, with carrier 1. -/
def entry : SystemEntry := ⟨0, .direct 3, 0, some 0, 4, 0, 0, false, none, none⟩

/-- A left-to-right course over needles 0 to 10. -/
def course (st : CourseState) : Course :=
  ⟨0x1234, .knit, .l2r, 0, 8, some (0, 10), [entry], st, [], none, none, none, []⟩

/-- The course at the head of the queue. -/
def headed (st : CourseState) : State := { ready with queue := ⟨[course st], [], 0, 1279, 2⟩ }

/-- The course ARMING, the engine at a stage, the row resolved and locked, the zone clamped. -/
def arming (stage : ArmingStage) : State :=
  { ready with
    queue := ⟨[{ course .arming with resolved := [(0, 3)] }], [], 0, 1279, 2⟩
    mem := ⟨ready.mem.cells, [3]⟩
    tech := ⟨ready.tech.tables, [0]⟩
    arm := { ArmingEngine.initial with stage := some stage }
    image := { StrokeImage.cleared with zone := some (0, 10) } }

/-- What stages 4 and 6 make of the course: needles 0, 4 and 8 knit; carrier 1 goes from -2 to 12. -/
def imageOf (progress : Progress) : StrokeImage where
  lists := #v[[(0, .knit), (4, .knit), (8, .knit)], [(0, .tuck), (4, .tuck), (8, .tuck)], [], [], [], []]
  zone := some (0, 10)
  extents := #v[some (0, 8), none, none]
  plan := [⟨0, 0, -2, 12, progress⟩]
  extent := some (-2, 12)

/-- Its grant: from 292 to 656. -/
def grantOf : GrantRecord :=
  ⟨0x1234, .l2r, 292, 656, -2, 12, 8, false, false, false, false, false, [(0, -2, 12)]⟩

/-- The course past ARMING in a state, with its image and its grant. -/
def granted (st : CourseState) (progress : Progress) : State :=
  { arming .locks with
    queue := ⟨[{ course st with resolved := [(0, 3)], grant := some ⟨-2, 12, 8⟩ }], [], 0, 1279, 2⟩
    arm := { ArmingEngine.initial with outcome := some (.grant grantOf) }
    image := imageOf progress }

/-- The course KNITTING with P at `p`, the furthest position `f`, the heads' next needles given. -/
def knittingAt (progress : Progress) (p : Nat) (f : Int) (next : Vector Int 6) : State :=
  { granted .knitting progress with
    pos := ⟨p, true, false, 0, true, false, false⟩
    heads := { HeadSequencers.initial with stroke := some ⟨.l2r, 656, f, next⟩ } }

/-- The next needles of heads that stand before the bed at P = 390. -/
def nextZero : Vector Int 6 := #v[0, 1, 1, 1, 1, 1]

/-- The stroke faulted with its carrier HELD at needle 5 (P = 470) by a STOP_REQUEST, the latch cleared since. -/
def faulted (reason : FaultReason) : State :=
  { granted .faulted .carrying with
    queue := ⟨[{ course .faulted with resolved := [(0, 3)], grant := some ⟨-2, 12, 8⟩, lastFault := some reason }], [], 0,
      1279, 2⟩
    pos := ⟨470, true, false, 0, true, false, false⟩
    heads := { HeadSequencers.initial with stroke := some ⟨.l2r, 656, 470, #v[5, 6, 6, 6, 6, 6]⟩ }
    carriers := carriers.set 0 ⟨.held 5, 0⟩
    catchers := catchersRaised.set 0 true
    stops := ⟨false, some ⟨0x1234, reason, none, none, 470, #v[5, 6, 6, 6, 6, 6], reason.resumable⟩, none⟩ }

/-! ## Well-formedness: an ill-formed term for each check -/

theorem test_wellFormed_accepts : (Instr.setZone .fits 0 0).wellFormed = true := by decide
theorem test_wellFormed_own_length : (Instr.setZone (.misfit 4 0) 0 0).wellFormed = false := by decide
theorem test_wellFormed_whole_byte_of_bits : (Instr.setZone (.misfit 4 8) 0 0).wellFormed = false := by decide
theorem test_wellFormed_reply_length : (Instr.testCell (.whole (.misfit 5 0)) 0 0).wellFormed = false := by decide
theorem test_wellFormed_reply_bits : (Instr.testCell (.closed (.misfit 5 9)) 0 0).wellFormed = false := by decide
theorem test_wellFormed_closed_too_soon : (Instr.readGrant (.closed (.tooSoon 0))).wellFormed = false := by decide
theorem test_wellFormed_unknown_fits : (Instr.unknownCommand .drive .fits 0xFF).wellFormed = false := by decide
theorem test_wellFormed_unknown_bits : (Instr.unknownCommand .drive (.misfit 0 8) 0xFF).wellFormed = false := by decide
theorem test_wellFormed_unknown_is_known :
    (Instr.unknownCommand .drive (.misfit 0 0) 0x40).wellFormed = false ∧
    (Instr.unknownCommand .pattern (.misfit 0 0) 0x40).wellFormed = true := by decide
theorem test_wellFormed_course_bits :
    (Instr.commitCourse (.misfit 3 8) ⟨0, 0, 0, 0, 0, 0, 0, 0, []⟩).wellFormed = false := by decide
/-- An entry of zeros. -/
def blankEntry : EntryFrame := ⟨0, 0, 0, 0, 0, 0, 0, 0, 0, 0, 0, 0, 0, 0, 0, 0, 0⟩

theorem test_wellFormed_course_entries :
    (Instr.commitCourse .fits ⟨0, 0, 0, 0, 0, 0, 0, 0,
      List.replicate 256 blankEntry⟩).wellFormed = false := by
  simp only [Instr.wellFormed, List.length_replicate]; rfl

/-! ## Frames written out by hand from the command table and the layouts (R181, R182) -/

theorem test_decode_status : decodeFrame .pattern [0x01, 0, 0, 0, 0, 0, 0, 0] 0 =
    some (.readStatus .pattern (.whole .fits)) := by decide
theorem test_decode_status_short : decodeFrame .drive [0x01, 0, 0] 3 =
    some (.readStatus .drive (.whole (.misfit 2 3))) := by decide
theorem test_decode_writeRow : decodeFrame .pattern [0x10, 0x01, 0xFF, 0x04, 0xFE, 0xAB, 0xCD] 0 =
    some (.writeRow .fits 511 1278 [0xAB, 0xCD]) := by decide
theorem test_decode_readRow : decodeFrame .pattern [0x12, 0, 7, 0x04, 0xFB, 0, 3, 0, 0, 0, 0] 0 =
    some (.readRow (.whole .fits) 7 1275 3) := by decide
theorem test_decode_scanRow : decodeFrame .pattern [0x16, 0, 7, 0xFF, 0xFF, 0x05, 0, 0x80, 0x01, 1, 0, 0, 0] 0 =
    some (.scanRow (.whole .fits) 7 0xFFFF 0x0500 0x8001 1) := by decide
theorem test_decode_writeTechnique : decodeFrame .pattern [0x20, 7, 15, 2, 4, 1] 0 =
    some (.writeTechnique .fits 7 15 2 4 1) := by decide
theorem test_decode_setPointer : decodeFrame .pattern [0x28, 5, 0, 20, 0, 10, 1, 0xFF, 1, 15] 0 =
    some (.setPointer .fits 5 20 10 511 1 15) := by decide
theorem test_decode_commitCourse : decodeFrame .pattern
    [0x30, 0x12, 0x34, 0, 1, 0xFE, 5, 1, 0xFF, 0xF6, 0, 10, 1,
      2, 0, 0, 3, 4, 9, 0, 4, 0, 2, 0xFF, 0xFD, 1, 1, 6, 7, 1, 0, 8, 0, 30, 0, 12, 15] 0 =
    some (.commitCourse .fits ⟨0x1234, 0, 1, 0xFE, 5, 1, 0xFFF6, 10,
      [⟨2, 0, 3, 4, 9, 4, 2, 0xFFFD, 1, 1, 6, 7, 1, 8, 30, 12, 15⟩]⟩) := by decide
theorem test_decode_commitCourse_short : decodeFrame .pattern [0x30, 0, 1, 0, 0, 0, 0, 0, 0, 0, 0, 0, 1] 0 =
    some (.commitCourse (.misfit 12 0) ⟨1, 0, 0, 0, 0, 0, 0, 0, []⟩) := by decide
theorem test_decode_setCarrier : decodeFrame .pattern [0x38, 2, 0xFF, 0xFE] 0 =
    some (.setCarrier .fits 2 0xFFFE) := by decide
theorem test_decode_setGeometryField : decodeFrame .drive [0x40, 5, 6, 0xFF, 0xFF, 0xFF, 0xFE] 0 =
    some (.setGeometryField .fits 5 6 0xFFFFFFFE) := by decide
theorem test_decode_readGrant : decodeFrame .drive (0x59 :: List.replicate 32 0) 0 =
    some (.readGrant (.whole .fits)) := by decide
theorem test_decode_clearStop : decodeFrame .drive [0x60] 0 = some (.clearStop .fits) := by decide
theorem test_decode_other_port : decodeFrame .pattern [0x60] 0 =
    some (.unknownCommand .pattern (.misfit 0 0) 0x60) := by decide
theorem test_decode_no_frame : decodeFrame .drive [] 7 = none := by decide

/-! ## One step each; the expected values are worked out from the rules named -/

-- R177, R182: READY, supply ON (2), P_VALID, RACK_KNOWN; no head; COURSES_LOW pending.
theorem test_readStatus : (after (.readStatus .pattern (.whole .fits)) ready).patternPort.out =
    [0x02, 0x69, 0, 0, 0, 0, 0, 2] := by decide
-- R178: the Drive Port's word clears WAKE_DONE and leaves GRANT_READY.
theorem test_readStatus_clears :
    (after (.readStatus .drive (.whole .fits)) (ready.withDriveReasons ⟨true, false, false, false, false, true⟩)).driveReasons =
      ⟨true, false, false, false, false, false⟩ := by decide
-- R109, R179
theorem test_softReset : (after (.softReset .drive .fits) (faulted .stopRequest)).carriers[0] = ⟨.unknown, 0⟩ := by decide
-- R3: HEAD_OFFSET of S3F
theorem test_readGeometryField : (after (.readGeometryField .drive (.whole .fits) 6 5) ready).drivePort.out =
    [0x02, 0, 0, 0, 0, 0, 9] := by decide
-- R164: reason STOP_REQUEST, P = 470 = 1D6h
theorem test_readFault : ((after (.readFault .drive (.whole .fits)) (faulted .stopRequest)).drivePort.out).take 8 =
    [0x02, 0x12, 0x34, FaultReason.stopRequest.code, 0, 0x00, 0x01, 0xD6] := by decide
theorem test_unknownCommand : (after (.unknownCommand .drive (.misfit 3 0) 0xFF) ready).drivePort.lastResult = .unknown := by
  decide
-- R28, R29: cell 1,279 of row 6 and on into row 7
theorem test_writeRow : (after (.writeRow .fits 6 1279 [0xAB]) ready).mem.cells =
    [(3840, 1), (6 * 1280 + 1279, 10), (7 * 1280, 11)] := by decide
-- R31: the end of the memory
theorem test_rowContinue_end :
    (after (.rowContinue .fits [0x12]) (ready.withLoad ⟨511, 1279, true, false⟩)).load = ⟨512, 0, false, true⟩ := by decide
theorem test_rowContinue_writes :
    (after (.rowContinue .fits [0x12]) (ready.withLoad ⟨511, 1279, true, false⟩)).mem.cells = [(3840, 1), (655359, 1)] := by
  decide
-- R33, the manual's example: row 7, start 1,275, count 10 returns 5 cells
theorem test_readRow : (after (.readRow (.whole .fits) 7 1275 10) (ready.withMem ⟨[(7 * 1280 + 1279, 9)], []⟩)).patternPort.out =
    [0x02, 0, 0, 0, 0, 0, 0, 0, 5, 0, 0, 0x90, 0, 0] := by decide
theorem test_testCell : (after (.testCell (.whole .fits) 3 0) ready).patternPort.out = [0x02, 0, 0, 0, 0, 1] := by decide
theorem test_exchangeCell : (after (.exchangeCell (.whole .fits) 3 0 0) ready).mem.cells = [] := by decide
theorem test_conditionalExchangeCell :
    (after (.conditionalExchangeCell (.whole .fits) 3 0 2 5) ready).patternPort.out = [0x02, 0, 0, 0, 0, 0, 0, 1, 0] := by decide
-- R37: members of the set {1}, forward from a clamped to 0
theorem test_scanRow : (after (.scanRow (.whole .fits) 3 0xFFFF 5 2 0) ready).patternPort.out =
    [0x02, 0, 0, 0, 0, 0, 0, 0, 0, 0, 1, 0, 0] := by decide
theorem test_writeTechnique : (after (.writeTechnique .fits 7 15 3 4 2) ready).tech.tables[7][15] = ⟨.xfer, .recv, .odd⟩ := by
  decide
theorem test_readTechnique : (after (.readTechnique (.whole .fits) 0 1) ready).patternPort.out = [0x02, 0, 0, 2, 1, 1] := by
  decide
theorem test_setPointer : (after (.setPointer .fits 7 20 10 30 1 15) ready).ptrs[7] = ⟨20, 10, 30, .up, 15⟩ := by decide
theorem test_readPointer : (after (.readPointer (.whole .fits) 3) ready).patternPort.out =
    [0x02, 0, 0, 0, 0, 0, 1, 0xFF, 0, 1] := by decide
-- R66: speed class 0 is clamped to 1
theorem test_commitCourse : (after (.commitCourse .fits ⟨5, 0, 1, 0xF8, 0, 0, 0, 0,
      [⟨3, 1, 7, 7, 0, 1280, 0, 0, 0, 0, 0, 0, 0, 0, 0, 0, 0⟩]⟩) ready).queue.courses =
    [⟨5, .knit, .r2l, -8, 1, none, [⟨2, .pointer 7, 7, none, 1280, 0, 0, false, none, none⟩], .queued, [], none, none, none,
      []⟩] := by decide
-- R65: two entries with one system
theorem test_commitCourse_repeat : (after (.commitCourse .fits ⟨5, 0, 0, 0, 8, 0, 0, 0,
      [⟨1, 0, 3, 0, 0, 4, 0, 0, 0, 0, 0, 0, 0, 0, 0, 0, 0⟩, ⟨1, 0, 4, 0, 0, 4, 0, 0, 0, 0, 0, 0, 0, 0, 0, 0, 0⟩]⟩)
    ready).patternPort.lastResult = .range := by decide
-- R73: DISCARDED, the last fault reason, the grant summary
theorem test_discardHead : (after (.discardHead .fits) (faulted .stopRequest)).queue.completions =
    [⟨0x1234, .discarded, some .stopRequest, [(0, 3)], -2, 12, 8, []⟩] := by decide
theorem test_fetchCompletion :
    (after (.fetchCompletion (.whole .fits))
      (ready.withQueue ⟨[], [⟨0x1234, .done, none, [(0, 3)], -2, 12, 8, [(0, 12)]⟩], 0, 1279, 2⟩)).queue.completions = [] := by
  decide
theorem test_readHeadCourse : ((after (.readHeadCourse (.whole .fits)) (headed .armed)).patternPort.out).take 6 =
    [0x02, 1, 0x12, 0x34, 3, 0] := by decide
theorem test_setZone : (after (.setZone .fits 0xFFF6 100) ready).queue.zoneLeft = -10 := by decide
theorem test_setWantLevel : (after (.setWantLevel .fits 200) ready).queue.wantLevel = 15 := by decide
-- R111: clamped to N + 31 = 95
theorem test_setCarrier : (after (.setCarrier .fits 1 200) ready).carriers[0] = ⟨.parked 95, 0⟩ := by decide
theorem test_setCarrier_taken : (after (.setCarrier .fits 1 70) ready).patternPort.lastResult = .range := by decide
theorem test_setCarrierLimit : (after (.setCarrierLimit .fits 16 0) ready).geo.record.carrierCap[15] = 1 := by decide
theorem test_readCarrier : (after (.readCarrier (.whole .fits) 1) ready).patternPort.out =
    [0x02, 0, CarrierStatus.code (.parked 0), 1, 0xFF, 0xFE, 1, 8, 1] := by decide
theorem test_readResumeRecord : (after (.readResumeRecord (.whole .fits)) ready).patternPort.lastResult = .empty := by decide
theorem test_clearResumeRecord :
    (after (.clearResumeRecord .fits) (ready.withStops ⟨false, none, some ⟨none, [], none, pointersInitial⟩⟩)).stops.resume =
      none := by decide
-- R110: another rail makes the carrier UNKNOWN
theorem test_setGeometryField : (after (.setGeometryField .fits 0x12 1 2)
      (ready.withGeo { ready.geo with mode := .offline })).carriers[0].status = .unknown := by decide
-- R5, check 2: 2 CPN > MARGIN
theorem test_goOnline : (after (.goOnline .fits)
      (ready.withGeo { ready.geo with mode := .offline, record := { geometry with margin := 31 } })).geo.check = 2 := by decide
theorem test_goOffline : (after (.goOffline .fits) (headed .armed)).drivePort.lastResult = .notNow := by decide
theorem test_storeSettings : (after (.storeSettings .fits) State.reset).geo.storeBusy = true := by decide
theorem test_storeWriteComplete :
    (after .storeWriteComplete (State.reset.withGeo { State.reset.geo with storeBusy := true })).geo.settingsBlank = false := by
  decide
theorem test_readPosition : (after (.readPosition (.whole .fits)) ready).drivePort.out = [0x02, 0, 1, 0x22, 1, 0] := by decide
theorem test_homeArm : (after (.homeArm .fits) (headed .knitting)).drivePort.lastResult = .notNow := by decide
theorem test_setRacking : (after (.setRacking .fits 0xF8) ready).pos.racking = -8 := by decide
theorem test_actuatorsOn : (after (.actuatorsOn .fits) State.reset).supply = .waking := by decide
theorem test_wakeComplete : (after .wakeComplete (State.reset.withSupply .waking)).supply = .on := by decide
theorem test_actuatorsOff : (after (.actuatorsOff .fits) (headed .armed)).supply = .on := by decide

/-! The arming of the course, stage by stage (R127 to R138). -/

theorem test_requestStroke : (after (.requestStroke .fits) (headed .queued)).arm.stage = some .locks := by decide
theorem test_requestStroke_refused :
    (after (.requestStroke .fits) ((headed .queued).withSupply .waking)).arm.outcome =
      some (.refusal ⟨0x1234, .supplyNotOn .waking, 1⟩) := by decide
theorem test_locksAndResolution : (after .locksAndResolution
      ((headed .arming).withArm { ArmingEngine.initial with stage := some .locks })).mem.locks = [3] := by decide
theorem test_zoneStage : (after .zoneStage (arming .zone)).image.zone = some (0, 10) := by decide
theorem test_imageStage : (after .imageStage (arming .image)).image =
    { imageOf .left with plan := [], extent := none } := by decide
-- needle 3 knits XFER with nothing facing it
theorem test_transferPairing : (after .transferPairing ((arming .pairing).withImage
      { StrokeImage.cleared with lists := StrokeImage.cleared.lists.set 0 [(3, .xfer)] })).arm.outcome =
    some (.refusal ⟨0x1234, .transferPair 0 .front 3, 5⟩) := by decide
theorem test_carrierPlan : (after .carrierPlan ((arming .carrierPlan).withImage
      { imageOf .left with plan := [], extent := none })).image.plan = [⟨0, 0, -2, 12, .awaitingCatch⟩] := by decide
theorem test_carrierPlan_blocked : (after .carrierPlan (((arming .carrierPlan).withImage
      { imageOf .left with plan := [], extent := none }).withCarriers (carriers.set 1 ⟨.parked 12, 0⟩))).arm.outcome =
    some (.refusal ⟨0x1234, .carrierBlocked 0 1, 6⟩) := by decide
theorem test_extentAndTurningPoints : (after .extentAndTurningPoints ((arming .extent).withImage
      { imageOf .awaitingCatch with extent := none })).arm.turnLeft = 292 := by decide
theorem test_extentAndTurningPoints_right : (after .extentAndTurningPoints ((arming .extent).withImage
      { imageOf .awaitingCatch with extent := none })).arm.turnRight = 656 := by decide
theorem test_speedClass : (after .speedClass (((arming .speed).withImage (imageOf .awaitingCatch)).withArm
      { (arming .speed).arm with driveCap := 5 })).arm.grantedSpeed = 5 := by decide
theorem test_completionAndGrant : (after .completionAndGrant (((arming .completion).withImage
      (imageOf .awaitingCatch)).withArm { (arming .completion).arm with turnLeft := 292, turnRight := 656, grantedSpeed := 8 })).arm.outcome =
    some (.grant grantOf) := by decide
theorem test_readGrant : ((after (.readGrant (.whole .fits)) (granted .armed .awaitingCatch)).drivePort.out).take 14 =
    [0x02, 1, 0x12, 0x34, 0, 0, 0x01, 0x24, 0, 0x02, 0x90, 0xFF, 0xFE, 0] := by decide

/-! The stroke of the course (R148 to R156). -/

-- R149: P = 290 stands in window -7 of S1F ((290 - 400 + 8) / 16 rounded down)
theorem test_beginStroke : (after (.beginStroke .fits) (granted .armed .awaitingCatch)).heads.stroke =
    some ⟨.l2r, 656, 290, #v[-6, -6, -6, -5, -5, -5]⟩ := by decide
theorem test_beginStroke_wrongSide :
    (after (.beginStroke .fits) ((granted .armed .awaitingCatch).withPos { ready.pos with count := 293 })).drivePort.lastResult =
      .wrongSide := by decide
theorem test_abandonStroke : (after (.abandonStroke .fits) (granted .armed .awaitingCatch)).mem.locks = [] := by decide
theorem test_resumeStroke : (after (.resumeStroke .fits) (faulted .stopRequest)).headIs .knitting = true := by decide
theorem test_setSpeedCap : (after (.setSpeedCap .fits 0) ready).arm.driveCap = 1 := by decide
theorem test_clearStop : (after (.clearStop .fits) (ready.withStops ⟨true, none, none⟩)).stops.latch = false := by decide
-- R150: at P = 392 S1F enters window 0, which knits
theorem test_encoderTransition : (after (.encoderTransition true false)
      (knittingAt .left 391 391 nextZero)).heads.lines = #v[.knit, .miss, .miss, .miss, .miss, .miss] := by decide
-- R120: at P = 332 the catchers enter window -3, one before needle -2
theorem test_encoderTransition_catch : (after (.encoderTransition true false)
      (knittingAt .awaitingCatch 331 331 #v[50, 50, 50, 50, 50, 50])).carriers[0] = ⟨.engaged (-3), 0⟩ := by decide
theorem test_pulseEnd : (after (.pulseEnd 0) (ready.withHeads ⟨none, HeadSequencers.initial.pulses.set 0 true,
      HeadSequencers.initial.lines.set 0 .knit⟩)).heads = HeadSequencers.initial := by decide
theorem test_indexPulse : (after .indexPulse (ready.withPos { ready.pos with homing := true })).pos.count = 0 := by decide
-- R16: 290 differs from HOME_COUNT 0 by more than INDEX_TOL
theorem test_indexPulse_lost : (after .indexPulse ready).pos.valid = false := by decide

/-! The lines, power and retained memory. -/

theorem test_stopInAssertion : (after .stopInAssertion (knittingAt .left 400 400 nextZero)).headIs .faulted = true := by decide
theorem test_stopInRelease : (after .stopInRelease (ready.withPins { ready.pins with stopIn := true })).stops.latch = false := by
  decide
theorem test_yarnSensorBreak : ((after (.yarnSensorBreak 0)
      ((knittingAt .carrying 470 470 nextZero).withCarriers (carriers.set 0 ⟨.engaged 5, 0⟩))).stops.faultRecord.map
    fun f => (f.reason, f.carrier)) = some (.yarnBreak, some 0) := by decide
theorem test_yarnSensorBreakEnd : (after (.yarnSensorBreakEnd 15) (ready.withPins
      { ready.pins with yarn := ready.pins.yarn.set 15 true })).pins.yarn[15] = false := by decide
theorem test_pfwAssertion : ((after .pfwAssertion (knittingAt .left 400 400 nextZero)).stops.resume.map
    fun r => r.head) = some (some (0x1234, .knitting)) := by decide
theorem test_pfwRelease : (after .pfwRelease (ready.withPins { ready.pins with pfw := true })).pins.pfw = false := by decide
theorem test_resumeRecordWriteComplete : (after .resumeRecordWriteComplete
      (ready.withRetained { ready.retained with writes := [.resume ⟨none, [], none, pointersInitial⟩] })).retained.resume =
    some ⟨none, [], none, pointersInitial⟩ := by decide
theorem test_retainedWriteComplete : (after .retainedWriteComplete
      (ready.withRetained { ready.retained with writes := [.carrier 0 ⟨.parked 5, 0⟩] })).retained.carriers[0] =
    ⟨.parked 5, 0⟩ := by decide
-- R107: a loss of power before the change is written leaves the check word bad
theorem test_powerLoss : (after .powerLoss
      (ready.withRetained { ready.retained with writes := [.carrier 0 ⟨.parked 5, 0⟩] })).retained.checkGood = false := by decide
theorem test_resetAssertion : (after .resetAssertion ready).mem.cells = [] := by decide
-- R11: the store holds the record
theorem test_resetRelease : (after .resetRelease (after .resetAssertion ready)).geo.record.bedNeedles = 64 := by decide
theorem test_backupSupplyFailure : (after .backupSupplyFailure ready).retained.backupFailed = true := by decide
-- log 3: the start-up of a part never used before ends at State.reset
theorem test_powerOn_startUpEnd : after .startUpEnd (after .powerOn
      { State.reset with phase := .off, retained := ⟨carriersNeverPlaced, none, false, false, [], false⟩ }) = State.reset := by
  decide

/-! ## The queue and the table's words -/

theorem test_step_idles : step State.reset = .next State.reset := rfl
theorem test_no_table_word : decodeTableWord 8 0x60 = none := by decide

/-! ## For each statement with hypotheses, a state and operands that meet them -/

/-- A value that lengthens a load frame past 640 bytes. -/
def longData : List Byte := List.replicate 641 0

theorem longData_length : 640 < longData.length := by
  rw [longData, List.length_replicate]; omega

/-- Three courses' worth of one frame, within every range of R65 at the ends of the ranges. -/
def frameInRange : CourseFrame :=
  ⟨0xFFFF, 0, 1, 0xF8, 0, 1, 0x8000, 0x7FFF,
    [⟨3, 0, 511, 7, 8, 1280, 1279, 0xFB01, 1, 1, 15, 15, 1, 511, 1279, 1280, 15⟩,
      ⟨1, 1, 7, 0, 0, 1, 0, 0x04FF, 0, 0, 0xFF, 0xFF, 0, 0xFFFF, 0xFFFF, 0xFFFF, 0xFF⟩]⟩

/-- The same with the carrier number 9, above CARRIERS. -/
def frameOutOfRange : CourseFrame :=
  ⟨0, 0, 0, 0, 0, 0, 0, 0, [⟨1, 0, 511, 7, 9, 1280, 1279, 0, 0, 0, 0, 0, 0, 0, 0, 0, 0⟩]⟩

theorem frameInRange_inRange : CourseFrame.inRange frameInRange geometry := by
  unfold CourseFrame.inRange EntryFrame.inRange; decide

theorem frameOutOfRange_not_inRange : ¬ CourseFrame.inRange frameOutOfRange geometry := by
  unfold CourseFrame.inRange EntryFrame.inRange; decide

theorem geometry_inRange : geometry.inRange := by unfold Geometry.inRange; decide

theorem ready_rangesOk : ready.rangesOk :=
  ⟨by decide, by decide, by decide, geometry_inRange, geometry_inRange⟩

theorem ready_memoryOk : ready.memoryOk := by unfold State.memoryOk; decide

theorem witness_StepTakesFront : State.reset.pending = [] := rfl

theorem witness_DecodeOfEncode : (Instr.commitCourse .fits frameInRange).wellFormed = true ∧
    (Instr.commitCourse .fits frameInRange).fitsWhole = true := by decide

theorem witness_FramesNotCarriedOut :
    ((Instr.softReset .drive .fits).port? = some .drive ∧ (Instr.softReset .drive .fits).end? = some .fits ∧
      (∀ n, FrameEnd.fits ≠ .tooSoon n) ∧ (ready.withPhase .startUp).phase = .startUp ∧
      (after (.storeSettings .fits) State.reset).phase = .running ∧
      (after (.storeSettings .fits) State.reset).geo.storeBusy = true ∧ (Instr.softReset .drive .fits).exempt = false) ∧
    ((Instr.readStatus .pattern (.whole (.misfit 6 7))).port? = some .pattern ∧
      (Instr.readStatus .pattern (.whole (.misfit 6 7))).shape.isSome = true ∧
      (Instr.readStatus .pattern (.whole (.misfit 6 7))).end? = some (.misfit 6 7) ∧ ready.phase = .running ∧
      ready.geo.storeBusy = false ∧ (Instr.readStatus .pattern (.whole (.misfit 6 7))).exempt = true) ∧
    (ready.open ∧ 640 < longData.length) ∧
    ((Instr.homeArm (.tooSoon 0)).port? = some .drive ∧ (Instr.homeArm (.tooSoon 0)).end? = some (.tooSoon 0)) ∧
    ((ready.withPhase .held).phase = .held ∧ (ready.withPhase .off).phase = .off) :=
  ⟨⟨rfl, rfl, fun _ => FrameEnd.noConfusion, by decide⟩, by decide, ⟨⟨rfl, rfl⟩, longData_length⟩, by decide, by decide⟩

theorem witness_AnswersAndPorts :
    (exec (.setZone .fits 1 2) ready = .next (after (.setZone .fits 1 2) ready) ∧
      (Instr.setZone .fits 1 2).port? = some .pattern) ∧
    (exec (.homeArm .fits) ready = .next (after (.homeArm .fits) ready) ∧ (Instr.homeArm .fits).port? = some .drive) ∧
    (exec .indexPulse ready = .next (after .indexPulse ready) ∧ Instr.indexPulse.port? = none ∧
      Instr.indexPulse.isPower = false) := ⟨⟨rfl, rfl⟩, ⟨rfl, rfl⟩, rfl, rfl, rfl⟩

/-- A course KNITTING with the record of an earlier fault, as after a resume. -/
def resumed : State :=
  (knittingAt .left 391 391 nextZero).withStops ⟨false, (faulted .stopRequest).stops.faultRecord, none⟩

theorem witness_ReplyThenEnd :
    ((Instr.fetchCompletion (.whole .fits)).frame = some (.inr (.whole .fits)) ∧
      (Instr.fetchCompletion (.whole .fits)).port? = some .pattern ∧ ready.live = true ∧
      ∀ n, FrameEnd.fits ≠ .tooSoon n) ∧
    ((Instr.readGrant (.whole (.misfit 31 7))).frame = some (.inr (.whole (.misfit 31 7))) ∧
      (Instr.readGrant (.whole (.misfit 31 7))).port? = some .drive ∧ ∀ n, FrameEnd.misfit 31 7 ≠ .tooSoon n) ∧
    (ready.port .pattern).frame = none ∧
    ((ready.withSupply .waking).open ∧ (ready.withSupply .waking).supply = .waking) ∧
    (resumed.open ∧ resumed.stops.faultRecord.isSome = true ∧
      (∃ c cs, resumed.queue.courses = c :: cs ∧ c.state = .knitting) ∧ resumed.pins.stopIn = false) ∧
    ((granted .armed .awaitingCatch).open ∧ (granted .armed .awaitingCatch).arm.outcome.isSome = true ∧
      ((granted .armed .awaitingCatch).withReasonCounts ⟨1, 0, 0, 0, 0⟩).open ∧
      (1 : Nat) ≠ (granted .armed .awaitingCatch).reasonCounts.outcome) :=
  ⟨⟨rfl, rfl, rfl, fun _ => FrameEnd.noConfusion⟩, ⟨rfl, rfl, fun _ => FrameEnd.noConfusion⟩, rfl, ⟨⟨rfl, rfl⟩, rfl⟩,
    ⟨⟨rfl, rfl⟩, rfl, ⟨_, _, rfl, rfl⟩, rfl⟩, ⟨rfl, rfl⟩, rfl, ⟨rfl, rfl⟩, by decide⟩

theorem witness_ReadStatusReports : ready.phase = .running ∧
    ((headed .armed).statusWord .drive)[0]? = some 0x69 ∧ ((headed .armed).statusWord .drive)[1]? = some 3 := by decide

theorem witness_SoftResetValues :
    ((headed .armed).open ∧
      ((headed .armed).headIs .arming || (headed .armed).headIs .armed || (headed .armed).headIs .knitting) = true) ∧
    ((headed .faulted).open ∧
      ((headed .faulted).headIs .arming || (headed .faulted).headIs .armed || (headed .faulted).headIs .knitting) = false) :=
  ⟨⟨⟨rfl, rfl⟩, by decide⟩, ⟨rfl, rfl⟩, by decide⟩

/-- Row 3 locked, the cursor given. -/
def loading (row cell : Nat) : State := (ready.withMem ⟨ready.mem.cells, [3]⟩).withLoad ⟨row, cell, true, false⟩

theorem loading_memoryOk_end : (loading 511 1279).memoryOk := by unfold State.memoryOk; decide

theorem loading_memoryOk_lock : (loading 2 1279).memoryOk := by unfold State.memoryOk; decide

theorem witness_LoadWritesForward :
    ((loading 511 1278).open ∧ (511#16).toNat < 512 ∧ (1278#16).toNat < 1280 ∧ [(0xAB : Byte)].length ≤ 640 ∧
      cellAddress (511#16).toNat (1278#16).toNat + 2 * [(0xAB : Byte)].length ≤ 512 * 1280 ∧
      (511#16).toNat ∉ (loading 511 1278).mem.locks ∧
      ∀ r ∈ (loading 511 1278).mem.locks, ∀ i < 2 * [(0xAB : Byte)].length,
        (cellAddress (511#16).toNat (1278#16).toNat + i) / 1280 ≠ r) ∧
    ((loading 511 1278).load.continuation = true ∧ 1 ≤ [(0xAB : Byte)].length ∧
      (loading 511 1278).load.address + 2 * [(0xAB : Byte)].length ≤ 512 * 1280 ∧
      ∀ r ∈ (loading 511 1278).mem.locks, ∀ i < 2 * [(0xAB : Byte)].length,
        ((loading 511 1278).load.address + i) / 1280 ≠ r) ∧ (loading 511 1279).memoryOk :=
  ⟨⟨⟨rfl, rfl⟩, by decide⟩, by decide, loading_memoryOk_end⟩

theorem witness_LoadStops :
    (ready.open ∧ ready.load.continuation = false) ∧
    ((loading 511 1279).open ∧ (loading 511 1279).memoryOk ∧ (loading 511 1279).load.continuation = true ∧
      1 < 2 * [(0xAB : Byte)].length ∧ (loading 511 1279).load.address + 1 = 512 * 1280 ∧
      ∀ i < 1, ((loading 511 1279).load.address + i) / 1280 ∉ (loading 511 1279).mem.locks) ∧
    ((loading 2 1279).open ∧ (loading 2 1279).memoryOk ∧
      ((loading 2 1279).load.address + 1) / 1280 ∈ (loading 2 1279).mem.locks ∧
      ∀ i < 1, ((loading 2 1279).load.address + i) / 1280 ∉ (loading 2 1279).mem.locks) ∧
    (∀ row : BitVec 16, row = 2 ∨ row = 511 → row.toNat < 512 ∧ (1279#16).toNat < 1280 ∧
      row.toNat ∉ (loading 2 1279).mem.locks ∧ 1 < 2 * [(0xAB : Byte)].length ∧
      ((cellAddress row.toNat (1279#16).toNat + 1) / 1280 ∈ (loading 2 1279).mem.locks ∨
        cellAddress row.toNat (1279#16).toNat + 1 = 512 * 1280) ∧
      ∀ i < 1, (cellAddress row.toNat (1279#16).toNat + i) / 1280 ∉ (loading 2 1279).mem.locks) ∧
    (512 ≤ (512#16).toNat ∧ 1280 ≤ (1280#16).toNat ∧ (3#16).toNat ∈ (loading 2 1279).mem.locks) :=
  ⟨⟨⟨rfl, rfl⟩, rfl⟩, ⟨⟨rfl, rfl⟩, loading_memoryOk_end, by decide⟩, ⟨⟨rfl, rfl⟩, loading_memoryOk_lock, by decide⟩,
    by rintro row (rfl | rfl) <;> decide, by decide⟩

theorem witness_ReadRowReturnsCells :
    (ready.open ∧ (511#16).toNat < 512 ∧ (1279#16).toNat < 1280 ∧ 1 ≤ (1#16).toNat ∧ (1280#16).toNat ≤ 1280) ∧
    (512 ≤ (512#16).toNat ∧ 1280 ≤ (1280#16).toNat ∧ (0#16).toNat = 0 ∧ 1280 < (1281#16).toNat) :=
  ⟨⟨⟨rfl, rfl⟩, by decide⟩, by decide⟩

theorem witness_TestCellReads : ready.open ∧ (511#16).toNat < 512 ∧ (1279#16).toNat < 1280 ∧ 512 ≤ (512#16).toNat :=
  ⟨⟨rfl, rfl⟩, by decide⟩

theorem witness_ExchangeCells :
    (loading 2 1279).open ∧ (loading 2 1279).memoryOk ∧ (511#16).toNat < 512 ∧ (1279#16).toNat < 1280 ∧
      (15#8).toNat < 16 ∧ (511#16).toNat ∉ (loading 2 1279).mem.locks ∧ (3#16).toNat ∈ (loading 2 1279).mem.locks ∧
      512 ≤ (512#16).toNat ∧ 1280 ≤ (1280#16).toNat ∧ 16 ≤ (16#8).toNat :=
  ⟨⟨rfl, rfl⟩, loading_memoryOk_lock, by decide⟩

theorem witness_ScanRowFinds :
    (ready.open ∧ (511#16).toNat < 512 ∧
      (clamp 0 1279 (0xFFFF#16).toInt).toNat ≤ (clamp 0 1279 (0#16).toInt).toNat) ∧
    (clamp 0 1279 (0xFFFF#16).toInt).toNat < (clamp 0 1279 (1#16).toInt).toNat ∧ 512 ≤ (512#16).toNat :=
  ⟨⟨⟨rfl, rfl⟩, by decide⟩, by decide⟩

theorem witness_LockedRowsAndTablesKeep : (loading 2 1279).memoryOk ∧ (Instr.rowContinue .fits [0x12]).isPower = false ∧
    exec (.rowContinue .fits [0x12]) (loading 2 1279) = .next (after (.rowContinue .fits [0x12]) (loading 2 1279)) ∧
    3 ∈ (loading 2 1279).mem.locks ∧ (0 : Fin 8) ∈ (arming .zone).tech.locks :=
  ⟨loading_memoryOk_lock, rfl, rfl, by decide⟩

theorem witness_TechniquesReadBack :
    ((arming .zone).open ∧ (7#8).toNat = (7 : Fin 8).val ∧ (15#8).toNat < 16 ∧ (7 : Fin 8) ∉ (arming .zone).tech.locks ∧
      (0#8).toNat = (0 : Fin 8).val ∧ (0 : Fin 8) ∈ (arming .zone).tech.locks ∧ (4#8).toNat < 5 ∧ (2#8).toNat < 3) ∧
    8 ≤ (8#8).toNat ∧ 16 ≤ (16#8).toNat ∧ 5 ≤ (5#8).toNat ∧ 3 ≤ (3#8).toNat :=
  ⟨⟨⟨rfl, rfl⟩, by decide⟩, by decide⟩

theorem witness_PointersSetReadAndAdvance :
    (ready.open ∧ (7#8).toNat = (7 : Fin 8).val ∧ (511#16).toNat ≤ (511#16).toNat ∧ (511#16).toNat < 512 ∧
      1 ≤ (1#8).toNat ∧ (15#8).toNat ≤ 15) ∧
    (8 ≤ (8#8).toNat ∧ 512 ≤ (512#16).toNat ∧ (0#16).toNat < (1#16).toNat ∧ 3 ≤ (3#8).toNat ∧ (0#8).toNat = 0 ∧
      15 < (16#8).toNat) ∧
    Pointer.inBand ⟨511, 509, 511, .up, 15⟩ ∧ Pointer.inBand ⟨0, 0, 2, .down, 15⟩ :=
  ⟨⟨⟨rfl, rfl⟩, by decide⟩, by decide, by unfold Pointer.inBand; decide⟩

/-- The same part OFFLINE. -/
def offline : State := ready.withGeo { ready.geo with mode := .offline }

theorem witness_GeometryFields :
    (offline.open ∧ offline.geo.mode = .offline ∧ GeometryField.ofCode 6 = some .headOffset ∧
      GeometryField.headOffset.hasIndex (6#8).toNat ∧ GeometryField.headOffset.hasValue (0xFFFF8000#32).toInt) ∧
    (GeometryField.ofCode 18 = some .carrierRail ∧ GeometryField.carrierRail.hasIndex (16#8).toNat ∧
      GeometryField.carrierRail.hasValue (8#32).toInt) ∧
    (∀ f, GeometryField.ofCode 6 = some f → f.hasIndex (7#8).toNat → ¬ f.hasValue (0#32).toInt) ∧
    (∀ f, GeometryField.ofCode 5 = some f → f.hasIndex (0#8).toNat → ¬ f.hasValue (4#32).toInt) ∧
    (ready.open ∧ ready.geo.mode = .ready ∧ ready.rangesOk ∧ ready.geo.check ≤ 5) ∧
    (∀ f, GeometryField.ofCode 22 = some f → ¬ f.hasIndex (0#8).toNat) := by
  refine ⟨⟨⟨rfl, rfl⟩, rfl, rfl, ⟨by decide, by decide⟩, by decide, by decide⟩, ⟨rfl, ⟨by decide, by decide⟩, by decide, by decide⟩,
    ?_, ?_, ⟨⟨rfl, rfl⟩, rfl, ready_rangesOk, by decide⟩, ?_⟩
  · intro f h hi; cases h; exact absurd hi.2 (by decide)
  · intro f h _ hv; cases h; exact absurd hv.2 (by decide)
  · intro f h; cases h

theorem witness_OnlineAndSettings :
    (offline.open ∧ offline.geo.mode = .offline ∧ (0 : Nat) =
      (let g := offline.geo.record
       if ¬ ((g.bedOrigin : Int) + (g.bedNeedles - 1) * g.cpn ≤ 1048575) then 1
       else if ¬ 2 * g.cpn ≤ g.margin then 2 else if ¬ g.backlash < g.cpn then 3
       else if ¬ g.travelLo < g.travelHi then 4 else if ∃ k : Carrier, g.rails < g.carrierRail[k].val + 1 then 5 else 0)) ∧
    (5 : Nat) =
      (let g : Geometry := { geometry with rails := 3 }
       if ¬ ((g.bedOrigin : Int) + (g.bedNeedles - 1) * g.cpn ≤ 1048575) then 1
       else if ¬ 2 * g.cpn ≤ g.margin then 2 else if ¬ g.backlash < g.cpn then 3
       else if ¬ g.travelLo < g.travelHi then 4 else if ∃ k : Carrier, g.rails < g.carrierRail[k].val + 1 then 5 else 0) ∧
    (ready.open ∧ ready.geo.mode = .ready ∧ ready.geo.storeBusy = false) ∧
    (after (.storeSettings .fits) State.reset).geo.storeBusy = true :=
  ⟨⟨⟨rfl, rfl⟩, rfl, by decide⟩, by decide, ⟨⟨rfl, rfl⟩, by decide⟩, by decide⟩

theorem witness_RecordReads :
    (∃ c cs, (headed .queued).queue.courses = c :: cs) ∧ ((headed .queued).open ∧ ready.open ∧ ready.queue.courses = []) ∧
    ((16#8).toNat = (15 : Carrier).val + 1 ∧ (0#8).toNat = 0 ∧ 16 < (17#8).toNat) ∧
    (∃ r, (after .pfwAssertion ready).stops.resume = some r) ∧ ready.stops.resume = none ∧
    (∃ r, (faulted .stopRequest).stops.faultRecord = some r) ∧ ready.stops.faultRecord = none ∧ ready.arm.outcome = none ∧
    (∃ g, (granted .armed .left).arm.outcome = some (.grant g)) ∧
    ∃ r, (after (.requestStroke .fits) ((headed .queued).withSupply .waking)).arm.outcome = some (.refusal r) :=
  ⟨⟨_, _, rfl⟩, ⟨⟨rfl, rfl⟩, ⟨rfl, rfl⟩, rfl⟩, by decide, ⟨_, rfl⟩, rfl, ⟨_, rfl⟩, rfl, rfl, ⟨_, rfl⟩, _, rfl⟩

theorem witness_PositionReads : (ready.withGeo { ready.geo with storeBusy := true }).phase = .running := rfl

theorem witness_CommitCourse :
    ready.open ∧ ready.rangesOk ∧ CourseFrame.inRange frameInRange ready.geo.record ∧ ready.slotsInUse < 16 ∧
    16 ≤ (ready.withQueue ⟨List.replicate 16 (course .queued), [], 0, 0, 0⟩).slotsInUse ∧
    (ready.withQueue ⟨List.replicate 16 (course .queued), [], 0, 0, 0⟩).rangesOk ∧
    ¬ CourseFrame.inRange frameOutOfRange ready.geo.record :=
  ⟨⟨rfl, rfl⟩, ready_rangesOk, frameInRange_inRange, by decide, by decide, ready_rangesOk, frameOutOfRange_not_inRange⟩

theorem witness_HeadDiscardedOrAbandoned :
    (ready.open ∧ ready.queue.courses = []) ∧ ∀ st : CourseState, (headed st).open ∧ (headed st).queue.courses = [course st] ∧
      (course st).state = st := ⟨⟨⟨rfl, rfl⟩, rfl⟩, fun _ => ⟨⟨rfl, rfl⟩, rfl, rfl⟩⟩

theorem witness_FaultedHeadIsDiscarded :
    (faulted .overspeed).open ∧ ∃ c cs g, (faulted .overspeed).queue.courses = c :: cs ∧ c.state = .faulted ∧
      c.grant = some g := ⟨⟨rfl, rfl⟩, _, _, _, rfl, rfl, rfl⟩

/-- Two completion records wait. -/
def completed : State :=
  ready.withQueue ⟨[], [⟨1, .done, none, [], 0, 1, 2, []⟩, ⟨2, .discarded, some .encoder, [], 0, 1, 2, []⟩], 0, 1279, 2⟩

theorem witness_FetchCompletion : (completed.open ∧ ∃ r rs, completed.queue.completions = r :: rs) ∧
    ready.open ∧ ready.queue.completions = [] := ⟨⟨⟨rfl, rfl⟩, _, _, rfl⟩, ⟨rfl, rfl⟩, rfl⟩

theorem witness_ClampedSettingsAndOutputLines : ready.open := ⟨rfl, rfl⟩

theorem witness_CarrierCommands :
    ((headed .armed).open ∧ (1#8).toNat = (0 : Carrier).val + 1 ∧ (0 : Carrier).val < (headed .armed).geo.record.carriers ∧
      (95 : Int) = max (-32) (min (((headed .armed).geo.record.bedNeedles : Int) + 31) (96#16).toInt) ∧
      (headed .armed).railLocked ((headed .armed).railOf 0) = true ∧ (headed .armed).carrierLocked 0 = true) ∧
    (ready.open ∧ ready.railLocked (ready.railOf 0) = false ∧ ready.carrierLocked 0 = false ∧
      (∃ j : Carrier, j ≠ 0 ∧ ready.railOf j = ready.railOf 0 ∧ ready.carriers[j].status = .parked 70) ∧
      (70 : Int) = max (-32) (min ((ready.geo.record.bedNeedles : Int) + 31) (70#16).toInt) ∧
      ∀ j : Carrier, j ≠ 0 → ready.railOf j = ready.railOf 0 → ready.carriers[j].status ≠ .parked 95) ∧
    ((0#8).toNat = 0 ∧ 16 < (17#8).toNat ∧ ready.geo.record.carriers < (9#8).toNat) :=
  ⟨⟨⟨rfl, rfl⟩, by decide⟩, ⟨⟨rfl, rfl⟩, by decide⟩, by decide⟩

/-- A resume record of an empty queue. -/
def emptyRecord : ResumeRecord := ⟨none, [], none, pointersInitial⟩

/-- A change to be written to retained memory. -/
def waiting (c : RetainedChange) : State := ready.withRetained { ready.retained with writes := [c] }

theorem witness_RetainedWrites :
    (ready.open ∧ ready.stops.resume = none) ∧ ((ready.withStops ⟨true, none, some emptyRecord⟩).open ∧
      (ready.withStops ⟨true, none, some emptyRecord⟩).stops.resume = some emptyRecord) ∧
    (waiting (.resume emptyRecord)).retained.writes = [.resume emptyRecord] ∧
    (waiting (.carrier 15 ⟨.unknown, 7⟩)).retained.writes = [.carrier 15 ⟨.unknown, 7⟩] ∧
    (waiting .clearResume).retained.writes = [.clearResume] ∧
    (waiting (.recovered carriers none)).retained.writes = [.recovered carriers none] ∧ ready.retained.writes = [] :=
  ⟨⟨⟨rfl, rfl⟩, rfl⟩, ⟨⟨rfl, rfl⟩, rfl⟩, rfl, rfl, rfl, rfl, rfl⟩

theorem witness_HomingRackingAndSupply :
    ready.open ∧ ready.live = true ∧ (after (.homeArm .fits) ready).pos.homing = true ∧
    (after (.homeArm .fits) ready).live = true ∧
    ready.headIs .knitting = false ∧ ready.headIs .faulted = false ∧ ready.pos.homing = false ∧
    State.reset.pos.valid = false ∧
    ((ready.withPos { ready.pos with count := 4 }).geo.record.homeCount ≤ 4 + ready.geo.record.indexTol ∧
      4 ≤ ready.geo.record.homeCount + ready.geo.record.indexTol) ∧
    (State.reset.withSupply .waking).supply = .waking ∧ ready.supply ≠ .waking :=
  ⟨⟨rfl, rfl⟩, by decide⟩

theorem witness_EncoderCounts :
    ((ready.withPos { ready.pos with count := 1048574 }).countsTo true false 1048575 ∧
      (ready.withPos { ready.pos with count := 1 }).countsTo false true 0) ∧
    (ready.headIs .knitting = false ∧ ready.headIs .faulted = false) ∧
    (∃ c, (faulted .reversal).head? = some c ∧ c.state = .faulted ∧ (faulted .reversal).countsTo true false 471) ∧
    (ready.withPhase .held).live = false ∧ (ready.pos.levelA = false ∧ ready.pos.levelB = false) := by
  refine ⟨?_, by decide, ⟨_, rfl, rfl, ?_⟩, by decide⟩ <;> unfold State.countsTo <;> decide

theorem witness_PositionLost :
    (ready.live = true ∧ true ≠ ready.pos.levelA ∧ true ≠ ready.pos.levelB) ∧
    ((ready.withPos { ready.pos with count := 0 }).pos.count = 0 ∧ ¬ (false ≠ ready.pos.levelA ↔ false ≠ true) ∧
      true ≠ ready.pos.levelB) ∧
    ((ready.withPos { ready.pos with count := 1048575 }).pos.count = 1048575 ∧ (true ≠ ready.pos.levelA ↔ true ≠ false)) ∧
    (ready.pos.homing = false ∧ ready.pos.valid = true ∧
      (ready.withPos { ready.pos with count := 5 }).geo.record.homeCount + ready.geo.record.indexTol < 5 ∧
      (0 : Nat) + ready.geo.record.indexTol < { geometry with homeCount := 5 }.homeCount) ∧
    (ready.headIs .arming = false ∧ ready.headIs .armed = false ∧ ready.headIs .knitting = false) ∧
    ∀ st : CourseState, (headed st).queue.courses = [course st] := by
  refine ⟨by decide, by decide, by decide, by decide, by decide, fun _ => rfl⟩

theorem headed_locksOk : (headed .queued).locksOk := by unfold State.locksOk State.tailQueued; decide

/-- The course waits, but one stage-1 condition fails. -/
def failing (pos : PositionCounter) (supply : SupplyState) (latch : Bool) : State :=
  { headed .queued with pos := pos, supply := supply, stops := ⟨latch, none, none⟩ }

theorem failing_locksOk (pos : PositionCounter) (supply : SupplyState) (latch : Bool) : (failing pos supply latch).locksOk :=
  headed_locksOk

theorem witness_RequestStroke :
    (offline.open ∧ offline.geo.mode = .offline ∧ (headed .armed).open ∧ (headed .armed).pastQueued = true ∧ ready.open ∧
      ready.geo.mode = .ready ∧ ready.queue.courses = []) ∧
    ((headed .queued).open ∧ ∃ c cs, (headed .queued).queue.courses = c :: cs ∧ c.state = .queued ∧
      (headed .queued).pos.valid = true ∧ (headed .queued).pos.rackKnown = true ∧
      (headed .queued).pos.racking = c.racking ∧ (headed .queued).supply = .on ∧ (headed .queued).stops.latch = false) ∧
    (∀ pos supply latch, (failing pos supply latch).open ∧ (failing pos supply latch).locksOk ∧
      (failing pos supply latch).geo.mode = .ready ∧ ∃ c cs, (failing pos supply latch).queue.courses = c :: cs ∧
        c.state = .queued ∧ c.racking = 0) ∧
    ((failing ⟨0, false, false, 0, true, false, false⟩ .on false).pos.valid = false ∧
      (failing ⟨0, true, false, 0, false, false, false⟩ .on false).pos.rackKnown = false ∧
      (failing ⟨0, true, false, 8, true, false, false⟩ .on false).pos.racking ≠ 0 ∧
      (failing ⟨0, true, false, 0, true, false, false⟩ .waking false).supply ≠ .on ∧
      (failing ⟨0, true, false, 0, true, false, false⟩ .on true).stops.latch = true) :=
  ⟨⟨⟨rfl, rfl⟩, rfl, ⟨rfl, rfl⟩, by decide, ⟨rfl, rfl⟩, rfl, rfl⟩, ⟨⟨rfl, rfl⟩, _, _, rfl, by decide⟩,
    fun p u l => ⟨⟨rfl, rfl⟩, failing_locksOk p u l, rfl, _, _, rfl, rfl, rfl⟩, by decide⟩

theorem witness_StagesAndRefusal :
    ((Instr.zoneStage, ArmingStage.zone) ∈ [(Instr.locksAndResolution, ArmingStage.locks), (.zoneStage, .zone),
        (.imageStage, .image), (.transferPairing, .pairing), (.carrierPlan, .carrierPlan),
        (.extentAndTurningPoints, .extent), (.speedClass, .speed), (.completionAndGrant, .completion)] ∧
      (arming .image).arm.stage ≠ some .zone ∧ ready.headIs .arming = false) ∧
    ((headed .queued).tailQueued ∧
      exec (.requestStroke .fits) (headed .queued) = .next (after (.requestStroke .fits) (headed .queued)) ∧
      (headed .queued).headIs .arming = false ∧
      (after (.requestStroke .fits) (headed .queued)).headIs .arming = true) ∧
    ((arming .completion).tailQueued ∧
      exec .completionAndGrant (arming .completion) = .next (after .completionAndGrant (arming .completion)) ∧
      (arming .completion).headIs .armed = false ∧ (after .completionAndGrant (arming .completion)).headIs .armed = true) ∧
    ∃ c cs, (arming .zone).queue.courses = c :: cs ∧ c.state = .arming := by
  refine ⟨by decide, ⟨?_, rfl, by decide⟩, ⟨?_, rfl, by decide⟩, _, _, rfl, rfl⟩ <;> unfold State.tailQueued <;> decide

/-- Two systems take pointer 0's row, one after the other. -/
def pointed : State :=
  { (headed .arming) with
    arm := { ArmingEngine.initial with stage := some .locks }
    ptrs := pointersInitial.set 0 ⟨511, 510, 511, .up, 3⟩
    queue := ⟨[{ course .arming with entries := [⟨2, .pointer 0, 0, none, 4, 0, 0, false, none, some ⟨511, 0, 1, 0⟩⟩,
      ⟨0, .pointer 0, 0, some 0, 4, 0, 0, false, none, none⟩] }], [], 0, 1279, 2⟩ }

theorem witness_LocksAndResolution : ∃ c cs, pointed.queue.courses = c :: cs ∧ c.state = .arming ∧
    pointed.arm.stage = some .locks := ⟨_, _, rfl, rfl, rfl⟩

theorem witness_ZoneStage :
    (∃ c cs, (arming .zone).queue.courses = c :: cs ∧ c.state = .arming ∧ (arming .zone).arm.stage = some .zone ∧
      (arming .zone).geo.record.inRange ∧ c.zone = some (0, 10)) ∧
    (((63 : Nat) : Int) = max 0 (min (((arming .zone).geo.record.bedNeedles : Int) - 1) 64)) ∧
    (((0 : Nat) : Int) = max 0 (min (((arming .zone).geo.record.bedNeedles : Int) - 1) (-1))) ∧
    ((arming .zone).queue.zoneLeft = 0 ∧ (arming .zone).queue.zoneRight = 1279) :=
  ⟨⟨_, _, rfl, rfl, rfl, geometry_inRange, rfl⟩, by decide, by decide, by decide⟩

theorem witness_ColourAndSuppression : 1 ≤ 64 ∧ 63 < 64 ∧ 64 ≤ 1280 ∧ 1 ≤ entry.width ∧ entry.exchange = none ∧
    entry.overlay = none ∧ { entry with exchange := some (1, 2) }.exchange = some (1, 2) ∧
    { entry with overlay := some ⟨511, 1279, 1, 15⟩ }.overlay = some ⟨511, 1279, 1, 15⟩ := by decide

theorem witness_ImageStage : ∃ c cs, (arming .image).queue.courses = c :: cs ∧ c.state = .arming ∧
    (arming .image).arm.stage = some .image ∧ (arming .image).image.zone = some (0, 10) ∧
    c.entries.find? (fun e => decide (e.system = 0)) = some entry ∧ (0 : System).val < (arming .image).geo.record.systems ∧
    c.entries.find? (fun e => decide (e.system = 1)) = none :=
  ⟨_, _, rfl, rfl, rfl, rfl, rfl, by decide, rfl⟩

/-- Stage 5 with a front list and a back list of system 1. -/
def pairing (front back : Store Action) : State :=
  (arming .pairing).withImage { (arming .pairing).image with
    lists := (StrokeImage.cleared.lists.set 0 front).set 1 back }

theorem witness_TransferPairing :
    (∃ c cs, (pairing [(3, .xfer)] [(3, .recv)]).queue.courses = c :: cs ∧ c.state = .arming ∧
      (pairing [(3, .xfer)] [(3, .recv)]).arm.stage = some .pairing ∧ c.listed = [entry] ∧ c.racking = 0) ∧
    (let back := (pairing [(3, .xfer)] [(3, .recv)]).image.lists[System.head 0 .back]
     let front := (pairing [(3, .xfer)] [(3, .recv)]).image.lists[System.head 0 .front]
     listEntry 64 front 3 = .xfer ∧ listEntry 64 back 3 = .recv) ∧
    (let s := pairing [(63, .xfer)] []
     listEntry 64 s.image.lists[System.head 0 .front] 63 = .xfer ∧ listEntry 64 s.image.lists[System.head 0 .back] 63 ≠ .recv ∧
       ∀ j < (63 : Nat), listEntry 64 s.image.lists[System.head 0 .front] (j : Int) = .miss) ∧
    (let s := pairing [] [(0, .recv)]
     listEntry 64 s.image.lists[System.head 0 .back] 0 = .recv ∧ listEntry 64 s.image.lists[System.head 0 .front] 0 ≠ .xfer) :=
  ⟨⟨_, _, rfl, rfl, rfl, rfl, rfl⟩, by decide, by decide, by decide⟩

theorem witness_CarrierChecks :
    (let s := ready.withCarriers (carriers.set 1 ⟨.unknown, 0⟩)
     s.inUse 1 = true ∧ s.railOf 1 = s.railOf 0 ∧ s.carriers[1].status = .unknown ∧
       ∀ i : Carrier, i < 1 → s.inUse i = true → s.railOf i = s.railOf 0 → s.carriers[i].status ≠ .unknown) ∧
    (let s := ready.withCarriers ((carriers.set 6 ⟨.parked 0, 3⟩).set 7 ⟨.parked 1, 3⟩)
     (∀ j : Carrier, s.inUse j = true → s.railOf j = s.railOf 8 → s.carriers[j].status ≠ .unknown) ∧
       s.carriers[8].status = .unknown) ∧
    ((∀ j : Carrier, ready.inUse j = true → ready.railOf j = ready.railOf 0 → ready.carriers[j].status ≠ .unknown) ∧
      ready.carriers[0].position = some (-2) ∧ ready.carriers[1].position = some 70 ∧
      ready.railOf 1 = ready.railOf 0 ∧ (-3 : Int) < -2 ∧ (-2 : Int) ≤ -2 ∧
      (-2 : Int) < 70 ∧ (70 : Int) ≤ 66 + ready.geo.record.parkGap ∧
      ∀ (j : Carrier) (pj : Int), j ≠ 0 → ready.railOf j = ready.railOf 0 → ready.carriers[j].status = .parked pj →
        ¬ ((-2 : Int) < pj ∧ pj ≤ 65 + ready.geo.record.parkGap)) := by
  refine ⟨by decide, by decide, by decide, by decide, by decide, by decide, by decide, by decide, by decide, by decide, ?_⟩
  intro j pj _ hr hp
  have h : ∀ j : Carrier, j ≠ 0 → ready.railOf j = ready.railOf 0 → ready.carriers[j].status = .parked 70 := by decide
  rw [h j ‹_› hr] at hp
  cases hp
  decide

theorem witness_CarrierPlan :
    (∃ c cs, ((arming .carrierPlan).withImage { imageOf .left with plan := [], extent := none }).queue.courses = c :: cs ∧
      c.state = .arming ∧ c.direction = .l2r ∧ c.listed = [entry] ∧ entry.carrier = some 0) ∧
    ((imageOf .left).extents[entry.system] = some (0, 8) ∧
      ((arming .carrierPlan).withImage { imageOf .left with plan := [], extent := none }).planCarrier .l2r [] 0 0 0 8 =
        .inr ⟨0, 0, -2, 12, .awaitingCatch⟩) ∧
    ((arming .carrierPlan).withCarriers (carriers.set 1 ⟨.parked 12, 0⟩)).planCarrier .l2r [] 0 0 0 8 =
      .inl (.carrierBlocked 0 1) :=
  ⟨⟨_, _, rfl, rfl, rfl, rfl, rfl⟩, by decide, by decide⟩

/-- Stage 7 with the carriage limited to `lo` .. `hi`. -/
def reaching (lo hi : Nat) : State :=
  ((arming .extent).withImage { imageOf .awaitingCatch with extent := none }).withGeo
    { ready.geo with record := { geometry with travelLo := lo, travelHi := hi } }

theorem witness_ExtentAndTurningPoints :
    (∃ c cs, (reaching 0 4000).queue.courses = c :: cs ∧ c.state = .arming ∧ (reaching 0 4000).arm.stage = some .extent ∧
      c.listed = [entry] ∧ c.direction = .l2r) ∧
    ((allSystems.flatMap fun sys => match (reaching 0 4000).image.extents[sys] with
        | some x => [(x.1 : Int), (x.2 : Int)]
        | none => []) ++ ((reaching 0 4000).image.plan.flatMap fun e => [e.pickup, e.release]) = [0, 8, -2, 12]) ∧
    (∀ x ∈ ([0, 8, -2, 12] : List Int), -2 ≤ x ∧ x ≤ 12) ∧
    (∀ x ∈ ([0, 2, 12] : List Int), 0 ≤ x ∧ x ≤ 12) ∧
    (geometry.headOffset[System.head 0 .front] = 0 ∧ geometry.headOffset[System.head 0 .back] = 2 ∧ geometry.catchOffset = 12) ∧
    ((400 : Int) + -2 * 16 - 12 - 0 - 64 = 292 ∧ (400 : Int) + 12 * 16 - 0 - 0 + 64 = 656) ∧
    ((64 : Int) - 2 * 16 < 325 - 292 ∧ (324 : Int) - 292 ≤ 64 - 2 * 16 ∧ (64 : Int) - 2 * 16 < 656 - 623) :=
  ⟨⟨_, _, rfl, rfl, rfl, rfl, rfl⟩, by decide, by decide, by decide, by decide, by decide, by decide⟩

/-- Stage 9, with the two notes, P_VALID and the latch given. -/
def completing (lost valid stop latch : Bool) : State :=
  { arming .completion with
    image := imageOf .awaitingCatch
    arm := { (arming .completion).arm with positionLost := lost, stopSeen := stop }
    pos := { ready.pos with valid := valid }
    stops := ⟨latch, none, none⟩ }

theorem witness_SpeedClassAndGrant : (∃ c cs, (arming .speed).queue.courses = c :: cs ∧ c.state = .arming ∧
      (arming .speed).arm.stage = some .speed) ∧ ∀ lost valid stop latch, ∃ c cs,
    (completing lost valid stop latch).queue.courses = c :: cs ∧ c.state = .arming ∧
    (completing lost valid stop latch).arm.stage = some .completion ∧
    (completing lost valid stop latch).image.extent = some (-2, 12) ∧
    (completing lost valid stop latch).arm.positionLost = lost ∧ (completing lost valid stop latch).pos.valid = valid ∧
    (completing lost valid stop latch).arm.stopSeen = stop ∧ (completing lost valid stop latch).stops.latch = latch :=
  ⟨⟨_, _, rfl, rfl, rfl⟩, fun _ _ _ _ => ⟨_, _, rfl, rfl, rfl, rfl, rfl, rfl, rfl, rfl⟩⟩

/-- The course ARMED with P at `p`. -/
def armedAt (p : Nat) : State := (granted .armed .awaitingCatch).withPos { ready.pos with count := p }

theorem witness_BeginStroke :
    ((armedAt 292).open ∧ ∃ c cs g, (armedAt 292).queue.courses = c :: cs ∧ c.state = .armed ∧
      (armedAt 292).arm.outcome = some (.grant g) ∧ (armedAt 292).stops.latch = false ∧ (armedAt 292).pos.valid = true ∧
      (armedAt 292).supply = .on ∧ g.direction = .l2r ∧ ((armedAt 292).pos.count : Int) ≤ g.start ∧
      ((armedAt 292).pos.count : Int) < g.finish) ∧
    (ready.open ∧ ready.headIs .armed = false) ∧
    ((armedAt 293).open ∧ (armedAt 293).headIs .armed = true ∧ grantOf.start < ((armedAt 293).pos.count : Int)) ∧
    (((armedAt 292).withStops ⟨true, none, none⟩).open ∧ ((armedAt 292).withStops ⟨true, none, none⟩).headIs .armed = true) ∧
    (((armedAt 292).withPos State.reset.pos).open ∧ ((armedAt 292).withPos State.reset.pos).headIs .armed = true ∧
      ((armedAt 292).withPos State.reset.pos).pos.valid = false) ∧
    (((armedAt 292).withSupply .waking).open ∧ ((armedAt 292).withSupply .waking).headIs .armed = true) :=
  ⟨⟨⟨rfl, rfl⟩, _, _, _, rfl, rfl, rfl, by decide⟩, ⟨⟨rfl, rfl⟩, by decide⟩, ⟨⟨rfl, rfl⟩, by decide⟩,
    ⟨⟨rfl, rfl⟩, by decide⟩, ⟨⟨rfl, rfl⟩, by decide⟩, ⟨⟨rfl, rfl⟩, by decide⟩⟩

/-- The heads' next needles once P has reached 470. -/
def nextFive : Vector Int 6 := #v[5, 6, 6, 6, 6, 6]

theorem witness_QuietCountAndReversal :
    (∃ c r, (knittingAt .left 400 400 nextZero).knits c r ∧ c.direction = r.direction ∧
      (knittingAt .left 400 400 nextZero).countsTo true false 401 ∧
      (∀ h : Head, (knittingAt .left 400 400 nextZero).headQuiet r 401 h) ∧
      (∀ e ∈ (knittingAt .left 400 400 nextZero).image.plan, (knittingAt .left 400 400 nextZero).entryQuiet r 401 e) ∧
      r.within (knittingAt .left 400 400 nextZero).geo.record.backlash 401) ∧
    (∃ c r, (knittingAt .left 466 470 nextFive).knits c r ∧ c.direction = r.direction ∧
      (knittingAt .left 466 470 nextFive).countsTo false true 465 ∧
      (∀ h : Head, (knittingAt .left 466 470 nextFive).headQuiet r 465 h) ∧
      (∀ e ∈ (knittingAt .left 466 470 nextFive).image.plan, (knittingAt .left 466 470 nextFive).entryQuiet r 465 e) ∧
      r.direction = .l2r ∧ (465 : Int) < r.finish ∧
      (465 : Int) < r.furthest - (knittingAt .left 466 470 nextFive).geo.record.backlash) := by
  refine ⟨⟨_, _, ⟨rfl, rfl, rfl⟩, rfl, ?_, ?_, ?_, by decide, by decide⟩,
    ⟨_, _, ⟨rfl, rfl, rfl⟩, rfl, ?_, ?_, ?_, rfl, by decide, by decide⟩⟩
  · unfold State.countsTo; decide
  · unfold State.headQuiet; decide
  · unfold State.entryQuiet; decide
  · unfold State.countsTo; decide
  · unfold State.headQuiet; decide
  · unfold State.entryQuiet; decide

theorem witness_SelectionEvent :
    ∃ c r, (knittingAt .left 391 391 nextZero).knits c r ∧ c.direction = r.direction ∧
      (knittingAt .left 391 391 nextZero).countsTo true false 392 ∧
      headIndex geometry 0 r.direction 391 ≠ r.next[0] ∧ headIndex geometry 0 r.direction 392 = r.next[0] ∧
      (∀ h' : Head, h' ≠ 0 → (knittingAt .left 391 391 nextZero).headQuiet r 392 h') ∧
      (∀ e ∈ (knittingAt .left 391 391 nextZero).image.plan, (knittingAt .left 391 391 nextZero).entryQuiet r 392 e) ∧
      r.within (knittingAt .left 391 391 nextZero).geo.record.backlash 392 ∧
      (knittingAt .left 391 391 nextZero).heads.pulses[0] = false := by
  refine ⟨_, _, ⟨rfl, rfl, rfl⟩, rfl, ?_, by decide, by decide, ?_, ?_, ⟨by decide, by decide⟩, by decide⟩
  · unfold State.countsTo; decide
  · unfold State.headQuiet; decide
  · unfold State.entryQuiet; decide

/-- The same with the pulse of S1F running. -/
def pulsing : State :=
  (knittingAt .left 391 391 nextZero).withHeads
    { (knittingAt .left 391 391 nextZero).heads with
      pulses := HeadSequencers.initial.pulses.set 0 true, lines := HeadSequencers.initial.lines.set 0 .knit }

theorem witness_PulsesAndOverspeed :
    (∃ c r, pulsing.knits c r ∧ pulsing.heads.pulses[(0 : Head)] = true ∧ pulsing.actionAt 0 r.next[(0 : Head)] ≠ .miss) ∧
    pulsing.heads.pulses[(5 : Head)] = false ∧
    ∃ c cs r, pulsing.knits c r ∧ pulsing.queue.courses = c :: cs ∧ c.direction = r.direction ∧
      pulsing.countsTo true false 392 ∧
      headIndex pulsing.geo.record 0 r.direction 391 ≠ r.next[0] ∧ headIndex pulsing.geo.record 0 r.direction 392 = r.next[0] ∧
      (∀ h' : Head, h' ≠ 0 → pulsing.headQuiet r 392 h') ∧ (∀ e ∈ pulsing.image.plan, pulsing.entryQuiet r 392 e) ∧
      r.within pulsing.geo.record.backlash 392 ∧ r.next[0] = 0 ∧
      Store.read Action.miss pulsing.image.lists[(0 : Head)] 0 ≠ Action.miss := by
  refine ⟨⟨_, _, ⟨rfl, rfl, rfl⟩, by decide⟩, by decide, _, _, _, ⟨rfl, rfl, rfl⟩, rfl, rfl, ?_, by decide, by decide, ?_,
    ?_, ⟨by decide, by decide⟩, by decide⟩
  · unfold State.countsTo; decide
  · unfold State.headQuiet; decide
  · unfold State.entryQuiet; decide

/-- Carrier 1 about to be caught, one count before its catch window. -/
def catching : State := knittingAt .awaitingCatch 331 331 nextZero

/-- Carrier 1 about to be released, one count before its release window. -/
def releasing : State :=
  (knittingAt .carrying 571 571 #v[12, 12, 12, 12, 12, 12]).withCarriers (carriers.set 0 ⟨.engaged 11, 0⟩)

/-- A count that brings the catch or the release of the one plan entry due and nothing else. -/
def DueAlone (s : State) : Prop :=
    ∃ c cs r e, s.knits c r ∧ s.queue.courses = c :: cs ∧ c.direction = r.direction ∧
      s.countsTo true false (s.pos.count + 1) ∧ (∀ h : Head, s.headQuiet r (s.pos.count + 1) h) ∧
      s.image.plan = [] ++ e :: [] ∧ r.within s.geo.record.backlash (s.pos.count + 1) ∧
      catcherIndex s.geo.record r.direction s.pos.count ≠ catcherIndex s.geo.record r.direction (s.pos.count + 1 : Nat) ∧
      ((e.progress = .awaitingCatch ∧ (∃ x, s.carriers[e.carrier].status = .parked x) ∧
          catcherIndex s.geo.record r.direction (s.pos.count + 1 : Nat) = e.pickup - r.direction.sign) ∨
        (e.progress = .carrying ∧ s.carriers[e.carrier].isEngaged = true ∧
          catcherIndex s.geo.record r.direction (s.pos.count + 1 : Nat) = e.release))

theorem catching_due : DueAlone catching := by
  refine ⟨_, _, _, _, ⟨rfl, rfl, rfl⟩, rfl, rfl, ?_, ?_, rfl, ⟨by decide, by decide⟩, by decide,
    .inl ⟨rfl, ⟨_, rfl⟩, by decide⟩⟩
  · unfold State.countsTo; decide
  · unfold State.headQuiet; decide

theorem releasing_due : DueAlone releasing := by
  refine ⟨_, _, _, _, ⟨rfl, rfl, rfl⟩, rfl, rfl, ?_, ?_, rfl, ⟨by decide, by decide⟩, by decide,
    .inr ⟨rfl, by decide, by decide⟩⟩
  · unfold State.countsTo; decide
  · unfold State.headQuiet; decide

theorem test_catch_lowers_its_catcher :
    (after (.encoderTransition true false) catching).catchLine 0 = true ∧
    (after (.encoderTransition true false) releasing).catchLine 0 = false := by decide

theorem test_catch_of_a_broken_yarn :
    (after (.encoderTransition true false) (catching.withPins { catching.pins with yarn := catching.pins.yarn.set 0 true })).headIs
      .faulted = true := by decide

theorem witness_CatchAndRelease :
    (∃ c cs, (knittingAt .awaitingCatch 331 331 nextZero).queue.courses = c :: cs ∧ c.state = .knitting) ∧
    (∃ p, (knittingAt .awaitingCatch 331 331 nextZero).carriers[(0 : Carrier)].status = .parked p) ∧
    ((-4 : Int) ≠ -3 ∧ (-3 : Int) = -2 - Direction.l2r.sign) ∧
    ((knittingAt .carrying 331 331 nextZero).withCarriers (carriers.set 0 ⟨.engaged 11, 0⟩)).carriers[(0 : Carrier)].isEngaged =
      true ∧ DueAlone catching ∧ DueAlone releasing :=
  ⟨⟨_, _, rfl, rfl⟩, ⟨_, rfl⟩, by decide, by decide, catching_due, releasing_due⟩

theorem witness_StrokeCompletes :
    ∃ c cs r g, (knittingAt .carrying 655 655 #v[17, 17, 17, 17, 18, 18]).knits c r ∧
      (knittingAt .carrying 655 655 #v[17, 17, 17, 17, 18, 18]).queue.courses = c :: cs ∧ c.direction = r.direction ∧
      c.grant = some g ∧ (knittingAt .carrying 655 655 #v[17, 17, 17, 17, 18, 18]).countsTo true false 656 ∧
      (∀ h : Head, (knittingAt .carrying 655 655 #v[17, 17, 17, 17, 18, 18]).headQuiet r 656 h) ∧
      (∀ e ∈ (knittingAt .carrying 655 655 #v[17, 17, 17, 17, 18, 18]).image.plan,
        (knittingAt .carrying 655 655 #v[17, 17, 17, 17, 18, 18]).entryQuiet r 656 e) ∧
      r.direction = .l2r ∧ r.finish ≤ 656 ∧ r.furthest - geometry.backlash ≤ 656 := by
  refine ⟨_, _, _, _, ⟨rfl, rfl, rfl⟩, rfl, rfl, rfl, ?_, ?_, ?_, rfl, by decide, by decide⟩
  · unfold State.countsTo; decide
  · unfold State.headQuiet; decide
  · unfold State.entryQuiet; decide

theorem witness_StrokeFaultEffects : (∃ c cs r, pulsing.queue.courses = c :: cs ∧ c.state = .knitting ∧
    pulsing.heads.stroke = some r) ∧ ready.headIs .knitting = false := ⟨⟨_, _, _, rfl, rfl, rfl⟩, by decide⟩

theorem witness_StopLatchAndYarn :
    (ready.phase = .running ∧ ready.pins.stopIn = false ∧ ready.headIs .arming = false ∧ ready.headIs .knitting = false ∧
      (arming .zone).headIs .arming = true ∧ (arming .zone).phase = .running ∧ pulsing.headIs .knitting = true ∧
      pulsing.phase = .running) ∧
    ((ready.withPhase .held).phase = .held ∧ (ready.withPhase .startUp).phase = .startUp ∧
      (ready.withPins { ready.pins with stopIn := true }).pins.stopIn = true) ∧
    ((faulted .yarnBreak).open ∧ (faulted .yarnBreak).pins.stopIn = false ∧
      ∀ k : Carrier, (faulted .yarnBreak).carriers[k].isHeld = true → (faulted .yarnBreak).pins.yarn[k] = false) ∧
    (((faulted .yarnBreak).withPins { ready.pins with yarn := ready.pins.yarn.set 0 true }).open ∧
      ∃ k : Carrier, (faulted .yarnBreak).carriers[k].isHeld = true ∧ (ready.pins.yarn.set 0 true)[k] = true) :=
  ⟨by decide, by decide, ⟨⟨rfl, rfl⟩, by decide⟩, ⟨rfl, rfl⟩, by decide⟩

theorem witness_ResumeStroke :
    (ready.open ∧ ready.headIs .faulted = false) ∧
    (∀ reason : FaultReason, (faulted reason).open ∧ ∃ c cs f r g, (faulted reason).queue.courses = c :: cs ∧
      c.state = .faulted ∧ (faulted reason).stops.faultRecord = some f ∧ (faulted reason).heads.stroke = some r ∧
      (faulted reason).arm.outcome = some (.grant g) ∧ f.reason = reason ∧ (faulted reason).stops.latch = false ∧
      (faulted reason).pos.valid = true ∧ (faulted reason).supply = .on ∧ (faulted reason).pos.racking = c.racking ∧
      min g.start g.finish ≤ (faulted reason).pos.count ∧ ((faulted reason).pos.count : Int) ≤ max g.start g.finish ∧
      r.direction = .l2r ∧ (∀ h : Head, headIndex geometry h .l2r 470 < r.next[h]) ∧
      ∀ e ∈ (faulted reason).image.plan, e.progress = .carrying ∧ catcherIndex geometry .l2r 470 < e.release) ∧
    (∃ k : Carrier, (faulted .stopRequest).carriers[k].isHeld = true ∧ (ready.pins.yarn.set 0 true)[k] = true) ∧
    ((657 : Int) > max grantOf.start grantOf.finish ∧ (291 : Int) < min grantOf.start grantOf.finish) := by
  refine ⟨⟨⟨rfl, rfl⟩, by decide⟩, ?_, by decide, by decide⟩
  intro reason
  exact ⟨⟨rfl, rfl⟩, _, _, _, _, _, rfl, rfl, rfl, rfl, rfl, rfl, rfl, rfl, rfl, rfl,
    (by decide : min grantOf.start grantOf.finish ≤ ((470 : Nat) : Int)),
    (by decide : ((470 : Nat) : Int) ≤ max grantOf.start grantOf.finish), rfl,
    (by decide : ∀ h : Head, headIndex geometry h .l2r 470 < nextFive[h]),
    (by decide : ∀ e ∈ (imageOf .carrying).plan, e.progress = .carrying ∧ catcherIndex geometry .l2r 470 < e.release)⟩

theorem witness_PowerFailWarning :
    (ready.phase = .running ∧ ready.pins.pfw = false ∧ ready.queue.courses = []) ∧
    (∀ st : CourseState, (headed st).phase = .running ∧ (headed st).pins.pfw = false ∧ ∃ c cs,
      (headed st).queue.courses = c :: cs ∧ c.state = st) ∧
    (after .pfwAssertion ready).pins.pfw = true ∧ (ready.withPhase .off).phase ≠ .running :=
  ⟨by decide, fun _ => ⟨rfl, rfl, _, _, rfl, rfl⟩, by decide, by decide⟩

theorem witness_ResetAndPowerLoss : ready.phase = .running ∧ ready.phase ≠ .off ∧ (ready.withPhase .startUp).phase = .startUp ∧
    (ready.withPhase .off).phase = .off ∧ (ready.withPhase .held).phase = .held := by decide

theorem witness_StartUp :
    ((after .powerLoss ready).phase = .off ∧ (after .powerLoss ready).pins.reset = false) ∧
    (after .resetAssertion ready).phase = .held ∧
    ((after .resetAssertion (after .powerLoss ready)).phase = .off ∧
      (after .resetAssertion (after .powerLoss ready)).pins.reset = true) ∧
    (ready.phase ≠ .off ∧ ready.phase ≠ .held ∧ ready.phase ≠ .startUp) ∧
    ((after .powerOn (after .powerLoss ready)).phase = .startUp ∧ (after .powerOn (after .powerLoss ready)).pins.pfw = false ∧
      (after .powerOn (after .powerLoss ready)).pins.stopIn = false ∧
      (after .powerOn (after .powerLoss ready)).queue.courses = []) ∧
    ((after .pfwAssertion (after .powerOn (after .powerLoss ready))).phase = .startUp ∧
      (after .pfwAssertion (after .powerOn (after .powerLoss ready))).pins.pfw = true) ∧
    ((after .stopInAssertion (after .powerOn (after .powerLoss ready))).phase = .startUp ∧
      (after .stopInAssertion (after .powerOn (after .powerLoss ready))).pins.stopIn = true) := by decide

/-! The invariants, in the state with a granted stroke and BEGIN_STROKE waiting. -/

/-- A granted stroke about to begin. -/
def beginning : State := (granted .armed .awaitingCatch).withPending [.beginStroke .fits]

theorem beginning_step : step beginning = .next (after (.beginStroke .fits) (granted .armed .awaitingCatch)) := rfl

theorem beginning_strokeOk : beginning.strokeOk := by
  refine ⟨by unfold State.tailQueued; decide, by unfold State.emptyUnlessLive; decide, fun _ => ⟨rfl, rfl, ?_⟩, by decide,
    by decide, by decide⟩
  intro c h; cases h; rfl

theorem beginning_locksOk : beginning.locksOk := by unfold State.locksOk State.tailQueued; decide

theorem beginning_carriersOk : beginning.carriersOk := by
  refine ⟨beginning_strokeOk, beginning_locksOk, fun _ => ⟨by decide, by decide, by decide, by decide, by decide, ?_,
    by decide⟩⟩
  intro e he
  exact ⟨_, rfl, by revert e; decide⟩

theorem carriers_status (k : Carrier) :
    carriers[k].status = if k = 0 then .parked (-2) else if k = 1 then .parked 70 else .unknown := by
  revert k; decide

theorem carriers_apart {j k : Carrier} {x : Int} (d : j ≠ k) (h : carriers[j].status = .parked x) :
    carriers[k].status ≠ .parked x := by
  intro e
  rw [carriers_status] at h e
  by_cases j = 0 <;> by_cases j = 1 <;> by_cases k = 0 <;> by_cases k = 1 <;> simp_all <;> omega

theorem carriers_railed (k : Carrier) (x : Int) (_ : carriers[k].status = .parked x) :
    carriers[k].rail = beginning.railOf k := by
  have h : ∀ k : Carrier, carriers[k].status = .unknown ∨ carriers[k].rail = beginning.railOf k := by decide
  rcases h k with h | h
  · simp_all
  · exact h

theorem imageOf_extents (p : Progress) (sys : System) (l r : Nat) (h : (imageOf p).extents[sys] = some (l, r)) : l ≤ r := by
  have e : ∀ sys : System, (imageOf p).extents[sys] = some (0, 8) ∨ (imageOf p).extents[sys] = none := by cases p <;> decide
  rcases e sys with e | e <;> simp_all
  omega

theorem witness_StepsKeepRanges : step beginning = .next (after (.beginStroke .fits) (granted .armed .awaitingCatch)) ∧
    beginning.memoryOk ∧ beginning.pointersOk ∧ beginning.rangesOk :=
  ⟨beginning_step, by unfold State.memoryOk; decide, by unfold State.pointersOk Pointer.inBand; decide, ready_rangesOk⟩

theorem witness_StepsKeepQueue :
    step beginning = .next (after (.beginStroke .fits) (granted .armed .awaitingCatch)) ∧ beginning.queueOk :=
  ⟨beginning_step, by unfold State.queueOk State.tailQueued; decide⟩

theorem witness_StepsKeepStrokeConditions :
    step beginning = .next (after (.beginStroke .fits) (granted .armed .awaitingCatch)) ∧ beginning.strokeOk ∧
      beginning.locksOk := ⟨beginning_step, beginning_strokeOk, beginning_locksOk⟩

theorem witness_StepsKeepCarriers :
    step beginning = .next (after (.beginStroke .fits) (granted .armed .awaitingCatch)) ∧ beginning.carriersOk ∧
      beginning.parkedOk :=
  ⟨beginning_step, beginning_carriersOk, beginning_carriersOk, rfl,
    fun n => by rw [show beginning.retained.writes = [] from rfl, List.take_nil]; exact fun _ _ _ d _ h => carriers_apart d h,
    fun _ => ⟨fun _ _ _ d _ h => carriers_apart d h, carriers_railed, imageOf_extents _, by decide⟩⟩

theorem witness_StepsKeepOutputs :
    step beginning = .next (after (.beginStroke .fits) (granted .armed .awaitingCatch)) ∧ beginning.latchOk ∧
      beginning.linesOk ∧ beginning.retainedOk :=
  ⟨beginning_step, by unfold State.latchOk State.emptyUnlessLive; decide, by unfold State.linesOk; decide, rfl⟩

theorem witness_CoursePassages : (granted .armed .awaitingCatch).tailQueued ∧
    exec (.beginStroke .fits) (granted .armed .awaitingCatch) =
      .next (after (.beginStroke .fits) (granted .armed .awaitingCatch)) ∧
    (granted .armed .awaitingCatch).headIs .knitting = false ∧
    (after (.beginStroke .fits) (granted .armed .awaitingCatch)).headIs .knitting = true ∧
    (faulted .overspeed).headIs .faulted = true := by
  refine ⟨?_, rfl, by decide⟩; unfold State.tailQueued; decide

end Sys2Proof.Tests
end

section
/-! SUPPORT. The form in which each command of a port is taken, and the principle that carries a relation between the
states before and after over every frame and every step (R173 to R176). -/

namespace Sys2Proof.Machine

/-! ## The form of a command -/

/-- How a command of a port is taken: without a reply, with a reply, or as a frame that names no command. -/
inductive FrameForm where
  | write (f : FrameShape) (breaks : Bool) (own : State → ResultCode × State) (e : FrameEnd)
  | read (f : FrameShape) (exempt breaks : Bool) (form : State → Formed) (finish : Formed → State → ResultCode × State)
      (frame : ReadFrame)
  | unknown (port : Port) (e : FrameEnd)

/-- What a frame of a form does. -/
def FrameForm.take : FrameForm → State → State
  | .write f breaks own e => takeWrite f breaks own e
  | .read f exempt breaks form finish frame => takeRead f exempt breaks form finish frame
  | .unknown port e => takeUnknown port e

/-- The form of a command that only reads and has no other effect. -/
def FrameForm.look (f : FrameShape) (exempt breaks : Bool) (form : State → Formed) (frame : ReadFrame) : FrameForm :=
  .read f exempt breaks form (finishRead form noEffect) frame

/-- The form of each command of a port; none for an event. -/
def frameForm : Instr → Option FrameForm
  | .readStatus port frame =>
    some (.read (Layout.readStatus port) true false (formStatus port) (finishRead (formStatus port) clearShown) frame)
  | .softReset port e => some (.write (Layout.softReset port) (Port.breaksLoad port) ownSoftReset e)
  | .readGeometryField port frame field index =>
    some (.look (Layout.readGeometryField port) false (Port.breaksLoad port) (formGeometryField field index) frame)
  | .readFault port frame =>
    some (.read (Layout.readFault port) false (Port.breaksLoad port) formFault (finishRead formFault (clearFault port)) frame)
  | .unknownCommand port e _ => some (.unknown port e)
  | .writeRow e row start data =>
    some (.write (Layout.writeRow data.length) true (ownWriteRow row start data) (loadEnd 0 data 4 e))
  | .rowContinue e data =>
    some (.write (Layout.rowContinue data.length) false (ownRowContinue data) (loadEnd 1 data 0 e))
  | .readRow frame row start count => some (.look (Layout.readRow count) false true (formRow row start count) frame)
  | .testCell frame row cell => some (.look Layout.testCell false true (formCell row cell) frame)
  | .exchangeCell frame row cell colour =>
    some (.read Layout.exchangeCell false true (formExchange row cell colour) (finishExchange row cell colour) frame)
  | .conditionalExchangeCell frame row cell expected new =>
    some (.read Layout.conditionalExchangeCell false true (formConditional row cell expected new)
      (finishConditional row cell expected new) frame)
  | .scanRow frame row a b set direction => some (.look Layout.scanRow false true (formScan row a b set direction) frame)
  | .writeTechnique e table colour front back parity =>
    some (.write Layout.writeTechnique true (ownWriteTechnique table colour front back parity) e)
  | .readTechnique frame table colour => some (.look Layout.readTechnique false true (formTechnique table colour) frame)
  | .setPointer e pointer current low high mode step =>
    some (.write Layout.setPointer true (ownSetPointer pointer current low high mode step) e)
  | .readPointer frame pointer => some (.look Layout.readPointer false true (formPointer pointer) frame)
  | .commitCourse e record => some (.write (Layout.commitCourse record.entries.length) true (ownCommitCourse record) e)
  | .discardHead e => some (.write Layout.discardHead true ownDiscardHead e)
  | .fetchCompletion frame => some (.read Layout.fetchCompletion false true formCompletion finishFetch frame)
  | .readHeadCourse frame => some (.look Layout.readHeadCourse false true formHeadCourse frame)
  | .setZone e left right => some (.write Layout.setZone true (ownSetZone left right) e)
  | .setWantLevel e level => some (.write Layout.setWantLevel true (ownSetWantLevel level) e)
  | .setCarrier e carrier position => some (.write Layout.setCarrier true (ownSetCarrier carrier position) e)
  | .setCarrierLimit e carrier speed => some (.write Layout.setCarrierLimit true (ownSetCarrierLimit carrier speed) e)
  | .readCarrier frame carrier => some (.look Layout.readCarrier false true (formCarrier carrier) frame)
  | .readResumeRecord frame => some (.look Layout.readResumeRecord false true formResume frame)
  | .clearResumeRecord e => some (.write Layout.clearResumeRecord true ownClearResumeRecord e)
  | .setGeometryField e field index value =>
    some (.write Layout.setGeometryField false (ownSetGeometryField field index value) e)
  | .goOnline e => some (.write Layout.goOnline false ownGoOnline e)
  | .goOffline e => some (.write Layout.goOffline false ownGoOffline e)
  | .storeSettings e => some (.write Layout.storeSettings false ownStoreSettings e)
  | .readPosition frame => some (.look Layout.readPosition true false formPosition frame)
  | .homeArm e => some (.write Layout.homeArm false ownHomeArm e)
  | .setRacking e racking => some (.write Layout.setRacking false (ownSetRacking racking) e)
  | .actuatorsOn e => some (.write Layout.actuatorsOn false ownActuatorsOn e)
  | .actuatorsOff e => some (.write Layout.actuatorsOff false ownActuatorsOff e)
  | .requestStroke e => some (.write Layout.requestStroke false ownRequestStroke e)
  | .readGrant frame => some (.read Layout.readGrant false false formGrant (finishRead formGrant clearOutcomeReason) frame)
  | .beginStroke e => some (.write Layout.beginStroke false ownBeginStroke e)
  | .abandonStroke e => some (.write Layout.abandonStroke false ownAbandonStroke e)
  | .resumeStroke e => some (.write Layout.resumeStroke false ownResumeStroke e)
  | .setSpeedCap e speed => some (.write Layout.setSpeedCap false (ownSetSpeedCap speed) e)
  | .clearStop e => some (.write Layout.clearStop false ownClearStop e)
  | _ => none

/-- A command of a port is carried out as a frame of its form. -/
theorem exec_frameForm {c : Instr} {w : FrameForm} (h : frameForm c = some w) (s : State) :
    exec c s = .next (w.take s) := by
  cases c <;> cases h <;> rfl

/-- A command has a form exactly if it comes in at a port. -/
theorem frameForm_isSome (c : Instr) : (frameForm c).isSome = c.port?.isSome := by
  cases c <;> rfl

/-! ## The principle -/

/-- A relation between the states before and after that ports, continuation flag and waiting commands never break. -/
structure FrameFree (R : State → State → Prop) : Prop where
  refl : ∀ s, R s s
  trans : ∀ {s t u}, R s t → R t u → R s u
  port : ∀ s p x, R s (s.withPort p x)
  breakLoad : ∀ s b, R s (s.breakLoad b)
  pending : ∀ s x, R s (s.withPending x)

/-- The rule of a command itself, its frame apart, keeps the relation once the part carries the frame out. -/
def FrameForm.Keeps (R : State → State → Prop) : FrameForm → Prop
  | .write _ _ own _ => ∀ u, u.open → R u (own u).2
  | .read _ _ _ _ finish _ => ∀ formed u, u.phase = .running → R u (finish formed u).2
  | .unknown _ _ => True

theorem State.live_iff {s : State} : s.live = true ↔ s.phase = .startUp ∨ s.phase = .running := by
  simp [State.live]

theorem State.busy_eq_false_iff {s : State} {exempt : Bool} :
    s.busy exempt = false ↔ s.phase ≠ .startUp ∧ (s.geo.storeBusy = false ∨ exempt = true) := by
  cases h : s.geo.storeBusy <;> simp [State.busy, h]

/-- A live part whose frames are not answered BUSY runs. -/
theorem State.running_of_live {s : State} {exempt : Bool} (hl : s.live = true) (hb : s.busy exempt = false) :
    s.phase = .running :=
  (State.live_iff.1 hl).resolve_left (State.busy_eq_false_iff.1 hb).1

theorem State.open_of_live {s : State} (hl : s.live = true) (hb : s.busy false = false) : s.open :=
  ⟨State.running_of_live hl hb, (State.busy_eq_false_iff.1 hb).2.resolve_right (by decide)⟩

theorem State.breakLoad_open {s : State} (h : s.open) (b : Bool) : (s.breakLoad b).open :=
  ⟨by simpa using h.1, by simpa using h.2⟩

variable {R : State → State → Prop}

theorem FrameFree.closeFrame (K : FrameFree R) {s t : State} (h : R s t) (p : Port) (r : ResultCode) (l : List Byte) :
    R s (t.closeFrame p r l) :=
  K.trans h (K.port _ _ _)

theorem takeWrite_keeps (K : FrameFree R) {own : State → ResultCode × State} (ho : ∀ u, u.open → R u (own u).2)
    (f : FrameShape) (breaks : Bool) (e : FrameEnd) (s : State) : R s (takeWrite f breaks own e s) := by
  unfold takeWrite
  split
  · next hl =>
    cases e with
    | tooSoon bytes => exact K.port _ _ _
    | misfit bytes bits => exact K.closeFrame (K.refl s) _ _ _
    | fits =>
      dsimp only
      split
      · exact K.closeFrame (K.refl s) _ _ _
      · next hb =>
        have hopen := State.open_of_live hl (Bool.eq_false_iff.2 hb)
        exact K.closeFrame (K.trans (K.breakLoad s breaks) (ho _ (State.breakLoad_open hopen breaks))) _ _ _
  · exact K.port _ _ _

theorem takeUnknown_keeps (K : FrameFree R) (p : Port) (e : FrameEnd) (s : State) : R s (takeUnknown p e s) := by
  unfold takeUnknown
  split
  · cases e with
    | tooSoon bytes => exact K.port _ _ _
    | misfit bytes bits =>
      dsimp only
      split
      · exact K.closeFrame (K.refl s) _ _ _
      · exact K.closeFrame (K.breakLoad s _) _ _ _
    | fits =>
      dsimp only
      split
      · exact K.closeFrame (K.refl s) _ _ _
      · exact K.closeFrame (K.breakLoad s _) _ _ _
  · exact K.port _ _ _

theorem endRead_keeps (K : FrameFree R) {finish : Formed → State → ResultCode × State}
    (hf : ∀ formed u, u.phase = .running → R u (finish formed u).2) (f : FrameShape) (exempt breaks : Bool)
    (formed : Formed) (e : FrameEnd) {s : State} (hl : s.live = true) :
    R s (endRead f exempt breaks finish formed e s) := by
  cases e with
  | tooSoon bytes => exact K.refl s
  | misfit bytes bits => exact K.closeFrame (K.refl s) _ _ _
  | fits =>
    simp only [endRead]
    split
    · exact K.closeFrame (K.refl s) _ _ _
    · next hb =>
      have hrun := State.running_of_live hl (Bool.eq_false_iff.2 hb)
      exact K.closeFrame (K.trans (hf formed s hrun) (K.breakLoad _ _)) _ _ _

theorem takeRead_keeps (K : FrameFree R) {finish : Formed → State → ResultCode × State}
    (hf : ∀ formed u, u.phase = .running → R u (finish formed u).2) (f : FrameShape) (exempt breaks : Bool)
    (form : State → Formed) (frame : ReadFrame) (s : State) :
    R s (takeRead f exempt breaks form finish frame s) := by
  unfold takeRead
  split
  · next hl =>
    split
    · exact K.port _ _ _
    · exact endRead_keeps K hf _ _ _ _ _ hl
    · exact K.port _ _ _
    · split
      · split
        · exact endRead_keeps K hf _ _ _ _ _ hl
        · exact K.refl s
      · exact K.refl s
  · exact K.port _ _ _

/-- A frame keeps what its command's rule keeps. -/
theorem FrameForm.take_keeps (K : FrameFree R) {w : FrameForm} (h : w.Keeps R) (s : State) : R s (w.take s) := by
  cases w with
  | write f breaks own e => exact takeWrite_keeps K h f breaks e s
  | read f exempt breaks form finish frame => exact takeRead_keeps K h f exempt breaks form frame s
  | unknown port e => exact takeUnknown_keeps K port e s

/-- A command that only reads keeps every such relation. -/
theorem FrameForm.look_keeps (K : FrameFree R) (f : FrameShape) (exempt breaks : Bool) (form : State → Formed)
    (frame : ReadFrame) : (FrameForm.look f exempt breaks form frame).Keeps R :=
  fun _ u _ => K.refl u

/-- What every command's rule and every event keep, every step keeps. -/
theorem step_keeps (K : FrameFree R) (hw : ∀ c w, frameForm c = some w → w.Keeps R)
    (he : ∀ c s t, frameForm c = none → exec c s = .next t → R s t) {s t : State} (h : step s = .next t) : R s t := by
  unfold step at h
  split at h
  · cases h; exact K.refl s
  · next c rest _ =>
    refine K.trans (K.pending s rest) ?_
    cases hc : frameForm c with
    | none => exact he c _ t hc h
    | some w =>
      rw [exec_frameForm hc] at h
      cases h
      exact FrameForm.take_keeps K (hw c w hc) _

end Sys2Proof.Machine
end

section
/-! SUPPORT. The figures of the part that O54 bounds, and what each operation does to them: all but a few leave every
figure as it was (R1, R12, R14, R18, R24, R52, R133). -/

namespace Sys2Proof.Machine

/-- What the invariants of ranges speak of: the cells and the load cursor, the pointers, P, the racking, the drive cap and
the two geometry records. -/
structure Figures where
  cells : Memory
  row : Nat
  cell : Nat
  ptrs : Vector Pointer 8
  count : Nat
  racking : Int
  driveCap : Nat
  record : Geometry
  stored : Geometry

/-- The figures of a state. -/
def State.figures (s : State) : Figures :=
  ⟨s.mem.cells, s.load.row, s.load.cell, s.ptrs, s.pos.count, s.pos.racking, s.arm.driveCap, s.geo.record,
    s.geo.store.record⟩

def Figures.memoryOk (f : Figures) : Prop :=
  Memory.wf f.cells = true ∧
  ((f.row < Config.rowCount ∧ f.cell < Config.cellCount) ∨ (f.row = Config.rowCount ∧ f.cell = 0))

def Figures.pointersOk (f : Figures) : Prop := ∀ p : Fin 8, f.ptrs[p].inBand

def Figures.rangesOk (f : Figures) : Prop :=
  f.count ≤ Config.maxCount ∧ (-8 ≤ f.racking ∧ f.racking ≤ 8) ∧ (1 ≤ f.driveCap ∧ f.driveCap ≤ 8) ∧
  f.record.inRange ∧ f.stored.inRange

theorem State.memoryOk_iff (s : State) : s.memoryOk ↔ s.figures.memoryOk := Iff.rfl
theorem State.pointersOk_iff (s : State) : s.pointersOk ↔ s.figures.pointersOk := Iff.rfl
theorem State.rangesOk_iff (s : State) : s.rangesOk ↔ s.figures.rangesOk := Iff.rfl

/-- The three invariants of figures, each carried from one to the other. -/
def Figures.Kept (f g : Figures) : Prop :=
  (f.memoryOk → g.memoryOk) ∧ (f.pointersOk → g.pointersOk) ∧ (f.rangesOk → g.rangesOk)

/-- The three invariants carried from a state to a next one. -/
def FiguresKept (s t : State) : Prop := s.figures.Kept t.figures

theorem Figures.Kept.refl (f : Figures) : f.Kept f := ⟨id, id, id⟩

theorem FiguresKept.of_eq {s t : State} (h : t.figures = s.figures) : FiguresKept s t := by
  unfold FiguresKept; rw [h]; exact Figures.Kept.refl _

theorem FiguresKept.trans {s t u : State} (h : FiguresKept s t) (h' : FiguresKept t u) : FiguresKept s u :=
  ⟨h'.1 ∘ h.1, h'.2.1 ∘ h.2.1, h'.2.2 ∘ h.2.2⟩

/-! ## Operations that leave the figures -/

section Same
variable (s : State)

@[simp] theorem State.withPhase_figures (x : Phase) : (s.withPhase x).figures = s.figures := rfl
@[simp] theorem State.withPins_figures (x : Pins) : (s.withPins x).figures = s.figures := rfl
@[simp] theorem State.withTech_figures (x : TechniqueMemory) : (s.withTech x).figures = s.figures := rfl
@[simp] theorem State.withQueue_figures (x : CourseQueue) : (s.withQueue x).figures = s.figures := rfl
@[simp] theorem State.withImage_figures (x : StrokeImage) : (s.withImage x).figures = s.figures := rfl
@[simp] theorem State.withHeads_figures (x : HeadSequencers) : (s.withHeads x).figures = s.figures := rfl
@[simp] theorem State.withCatchers_figures (x : Vector Bool 8) : (s.withCatchers x).figures = s.figures := rfl
@[simp] theorem State.withCarriers_figures (x : Vector CarrierEntry 16) : (s.withCarriers x).figures = s.figures := rfl
@[simp] theorem State.withRetained_figures (x : RetainedMemory) : (s.withRetained x).figures = s.figures := rfl
@[simp] theorem State.withSupply_figures (x : SupplyState) : (s.withSupply x).figures = s.figures := rfl
@[simp] theorem State.withStops_figures (x : StopUnit) : (s.withStops x).figures = s.figures := rfl
@[simp] theorem State.withPort_figures (p : Port) (x : PortState) : (s.withPort p x).figures = s.figures := by
  cases p <;> rfl
@[simp] theorem State.withPatternPort_figures (x : PortState) : (s.withPatternPort x).figures = s.figures := rfl
@[simp] theorem State.withPatternReasons_figures (x : PatternReasons) :
    (s.withPatternReasons x).figures = s.figures := rfl
@[simp] theorem State.withDriveReasons_figures (x : DriveReasons) : (s.withDriveReasons x).figures = s.figures := rfl
@[simp] theorem State.withReasonCounts_figures (x : ReasonCounts) : (s.withReasonCounts x).figures = s.figures := rfl
@[simp] theorem State.withFreeIndex_figures (x : Nat) : (s.withFreeIndex x).figures = s.figures := rfl
@[simp] theorem State.withPending_figures (x : List Instr) : (s.withPending x).figures = s.figures := rfl

@[simp] theorem State.withMem_figures (x : PatternMemory) :
    (s.withMem x).figures = { s.figures with cells := x.cells } := rfl
@[simp] theorem State.withLoad_figures (x : LoadCursor) :
    (s.withLoad x).figures = { s.figures with row := x.row, cell := x.cell } := rfl
@[simp] theorem State.withPtrs_figures (x : Vector Pointer 8) :
    (s.withPtrs x).figures = { s.figures with ptrs := x } := rfl
@[simp] theorem State.withPos_figures (x : PositionCounter) :
    (s.withPos x).figures = { s.figures with count := x.count, racking := x.racking } := rfl
@[simp] theorem State.withArm_figures (x : ArmingEngine) :
    (s.withArm x).figures = { s.figures with driveCap := x.driveCap } := rfl
@[simp] theorem State.withGeo_figures (x : GeometryBlock) :
    (s.withGeo x).figures = { s.figures with record := x.record, stored := x.store.record } := rfl

/-! A block written with its own figures leaves them. -/

@[simp] theorem State.figures_cells_self : { s.figures with cells := s.mem.cells } = s.figures := rfl
@[simp] theorem State.figures_pos_self :
    { s.figures with count := s.pos.count, racking := s.pos.racking } = s.figures := rfl
@[simp] theorem State.figures_driveCap_self : { s.figures with driveCap := s.arm.driveCap } = s.figures := rfl
@[simp] theorem State.figures_geo_self :
    { s.figures with record := s.geo.record, stored := s.geo.store.record } = s.figures := rfl

@[simp] theorem State.breakLoad_figures (b : Bool) : (s.breakLoad b).figures = s.figures := by cases b <;> rfl
@[simp] theorem State.changeHead_figures (f : Course → Course) : (s.changeHead f).figures = s.figures := by simp [State.changeHead]
@[simp] theorem State.changeCarriers_figures (f : Carrier → CarrierEntry → CarrierEntry) :
    (s.changeCarriers f).figures = s.figures := by simp [State.changeCarriers]
@[simp] theorem State.changeCarrier_figures (k : Carrier) (f : CarrierEntry → CarrierEntry) :
    (s.changeCarrier k f).figures = s.figures := by simp [State.changeCarrier]
@[simp] theorem State.queueRetained_figures (c : RetainedChange) : (s.queueRetained c).figures = s.figures := rfl
@[simp] theorem State.releaseCourse_figures : s.releaseCourse.figures = s.figures := rfl
@[simp] theorem State.raiseFault_figures : s.raiseFault.figures = s.figures := rfl
@[simp] theorem State.raiseGrantWithdrawn_figures : s.raiseGrantWithdrawn.figures = s.figures := rfl
@[simp] theorem State.raiseStrokeDone_figures : s.raiseStrokeDone.figures = s.figures := rfl
@[simp] theorem State.raiseWakeDone_figures : s.raiseWakeDone.figures = s.figures := rfl
@[simp] theorem State.raiseOutcome_figures (g : Bool) : (s.raiseOutcome g).figures = s.figures := rfl
@[simp] theorem State.nextStage_figures (st : ArmingStage) : (s.nextStage st).figures = s.figures := rfl
@[simp] theorem State.clearHeadRefused_figures : s.clearHeadRefused.figures = s.figures := rfl

@[simp] theorem State.setLatch_figures : s.setLatch.figures = s.figures := by
  unfold State.setLatch; dsimp only; split <;> simp

@[simp] theorem State.returnToQueued_figures : s.returnToQueued.figures = s.figures := by
  unfold State.returnToQueued; dsimp only; split <;> simp

@[simp] theorem State.returnToQueued_driveCap : s.returnToQueued.arm.driveCap = s.arm.driveCap :=
  congrArg Figures.driveCap s.returnToQueued_figures

@[simp] theorem State.strokeFault_figures (r : FaultReason) (k : Option Carrier) (h : Option Head) :
    (s.strokeFault r k h).figures = s.figures := by simp [State.figures]

@[simp] theorem State.losePosition_figures : s.losePosition.figures = s.figures := by
  unfold State.losePosition; dsimp only; split <;> simp

@[simp] theorem State.retire_figures (o : CourseOutcome) : (s.retire o).figures = s.figures := by
  unfold State.retire; split <;> simp

@[simp] theorem State.discardFaulted_figures : s.discardFaulted.figures = s.figures := by
  simp [State.discardFaulted, State.raiseHeldCatchers]

@[simp] theorem State.select_figures (h : Head) : (s.select h).figures = s.figures := by
  unfold State.select; split
  · rfl
  · dsimp only; split <;> [simp; (split <;> simp)]

@[simp] theorem State.catcherEvents_figures (d : Direction) (c0 c : Int) (l : List PlanEntry) :
    (catcherEvents d c0 c l s).2.figures = s.figures := by simp [State.figures]

@[simp] theorem State.runCatchers_figures (d : Direction) (c0 c : Int) : (s.runCatchers d c0 c).figures = s.figures := by
  simp [State.runCatchers]

@[simp] theorem State.releaseCarrying_figures : s.releaseCarrying.figures = s.figures := by simp [State.figures]

@[simp] theorem State.completeStroke_figures : s.completeStroke.figures = s.figures := by simp [State.completeStroke]

@[simp] theorem State.examineCompletion_figures : s.examineCompletion.figures = s.figures := by
  unfold State.examineCompletion; split <;> [(split <;> simp); rfl]

@[simp] theorem State.runWork_figures (p0 : Nat) (w : CountWork) : (s.runWork p0 w).figures = s.figures := by
  unfold State.runWork
  split
  · cases w with
    | select h => simp
    | catchers => dsimp only; split <;> simp
    | reversal => simp
    | complete => simp
  · rfl

@[simp] theorem runFold_figures (p0 : Nat) (l : List CountWork) :
    (l.foldl (fun u w => u.runWork p0 w) s).figures = s.figures := by
  induction l generalizing s with
  | nil => rfl
  | cons w ws ih => rw [List.foldl_cons, ih, State.runWork_figures]

@[simp] theorem State.followCatchers_figures (d : Direction) (p0 : Nat) : (s.followCatchers d p0).figures = s.figures := by
  unfold State.followCatchers; dsimp only; split <;> simp

@[simp] theorem State.strokeWork_figures (p0 : Nat) : (s.strokeWork p0).figures = s.figures := by
  unfold State.strokeWork
  split
  · rfl
  · dsimp only; split <;> simp

@[simp] theorem State.countChanged_figures (p0 : Nat) : (s.countChanged p0).figures = s.figures := by
  unfold State.countChanged
  split
  · rfl
  · split
    · rfl
    · split <;> simp

@[simp] theorem State.reportBroken_figures (l : List Carrier) : (s.reportBroken l).figures = s.figures := by
  unfold State.reportBroken; split <;> simp

@[simp] theorem State.resume_figures (r : StrokeRecord) : (s.resume r).figures = s.figures := by simp [State.resume]

@[simp] theorem State.refuseArming_figures (tag : BitVec 16) (r : ArmingRefusal) (n : Nat) :
    (s.refuseArming tag r n).figures = s.figures := by simp [State.refuseArming]

@[simp] theorem State.grantStroke_figures (c : Course) : (s.grantStroke c).figures = s.figures := by
  simp [State.grantStroke]

@[simp] theorem State.enterArming_figures : s.enterArming.figures = s.figures := by simp [State.enterArming]

@[simp] theorem State.takeStopIn_figures : s.takeStopIn.figures = s.figures := by simp [State.takeStopIn]

@[simp] theorem State.warnCourse_figures : s.warnCourse.figures = s.figures := by
  unfold State.warnCourse; split <;> simp

@[simp] theorem State.takePfw_figures : s.takePfw.figures = s.figures := by simp [State.takePfw]

/-! The stages of arming but the second leave every figure. -/

@[simp] theorem State.clampZone_figures (c : Course) : (s.clampZone c).figures = s.figures := by
  unfold State.clampZone; dsimp only; split <;> simp

@[simp] theorem State.buildImage_figures (c : Course) : (s.buildImage c).figures = s.figures := by
  simp [State.buildImage]

@[simp] theorem State.checkPairs_figures (c : Course) : (s.checkPairs c).figures = s.figures := by
  unfold State.checkPairs; split <;> simp

@[simp] theorem State.planCarriers_figures (c : Course) : (s.planCarriers c).figures = s.figures := by
  unfold State.planCarriers; split <;> simp

@[simp] theorem State.findTurningPoints_figures (c : Course) : (s.findTurningPoints c).figures = s.figures := by
  unfold State.findTurningPoints; dsimp only; split <;> [simp; (split <;> simp)]

@[simp] theorem State.findSpeed_figures (c : Course) : (s.findSpeed c).figures = s.figures := by simp [State.findSpeed]

@[simp] theorem State.completeArming_figures (c : Course) : (s.completeArming c).figures = s.figures := by
  unfold State.completeArming; split <;> [simp; (split <;> simp)]

end Same

/-! ## Operations that change figures -/

theorem Memory.wf_forward {f : Figures} (h : f.memoryOk) (locks : List Nat) (cs : List Colour) :
    Memory.wf (forwardWrite locks cs f.cells f.row f.cell).1 = true := by
  obtain ⟨hw, hc⟩ := h
  refine Memory.wf_forwardWrite hw ?_
  rcases hc with hc | hc
  · exact hc.2
  · rw [hc.2]; decide

/-- The forward write of a load keeps the one form and leaves the cursor at a cell or at the end (R29, R31). -/
theorem FiguresKept.loadCells (s : State) (cells : List Colour) : FiguresKept s (s.loadCells cells).2 :=
  ⟨fun h => ⟨Memory.wf_forward h _ _, forwardWrite_cursor h.2⟩, id, id⟩

theorem rowOf_eq_some {b : BitVec 16} {r : Nat} (h : rowOf b = some r) : r = b.toNat ∧ r < Config.rowCount := by
  simp only [rowOf, Option.ite_none_right_eq_some, Option.some.injEq] at h
  omega

theorem cellOf_eq_some {b : BitVec 16} {j : Nat} (h : cellOf b = some j) : j = b.toNat ∧ j < Config.cellCount := by
  simp only [cellOf, Option.ite_none_right_eq_some, Option.some.injEq] at h
  omega

theorem natIn_eq_some {lo hi : Nat} {v : Int} {n : Nat} : natIn lo hi v = some n ↔ lo ≤ n ∧ n ≤ hi ∧ v = n := by
  simp only [natIn, Option.ite_none_right_eq_some, Option.some.injEq]
  omega

theorem offsetIn_eq_some {v x : Int} : offsetIn v = some x ↔ -32768 ≤ x ∧ x ≤ 32767 ∧ v = x := by
  simp only [offsetIn, Option.ite_none_right_eq_some, Option.some.injEq]
  omega

theorem rackingOf_eq_some {b : Byte} {r : Int} : rackingOf b = some r ↔ -8 ≤ r ∧ r ≤ 8 ∧ b.toInt = r := by
  simp only [rackingOf, Option.ite_none_right_eq_some, Option.some.injEq]
  omega

theorem clampClass_range (b : Byte) : 1 ≤ clampClass b ∧ clampClass b ≤ 8 := by
  unfold clampClass; split <;> [decide; (split <;> omega)]

theorem FiguresKept.ownWriteRow (row start : BitVec 16) (data : List Byte) (s : State) :
    FiguresKept s (ownWriteRow row start data s).2 := by
  unfold Machine.ownWriteRow
  split
  · next r j hr hj =>
    split
    · exact .of_eq rfl
    · refine .trans (t := s.withLoad ⟨r, j, true, false⟩) ⟨fun h => ⟨h.1, .inl ?_⟩, id, id⟩ (.loadCells _ _)
      exact ⟨(rowOf_eq_some hr).2, (cellOf_eq_some hj).2⟩
  · exact .of_eq rfl

theorem FiguresKept.ownRowContinue (data : List Byte) (s : State) : FiguresKept s (ownRowContinue data s).2 := by
  unfold Machine.ownRowContinue
  split
  · exact .loadCells _ _
  · exact .of_eq rfl

/-- Cells of the same form in place of the cells keep every invariant of figures. -/
theorem FiguresKept.withCells (s : State) {m : Memory} (h : Memory.wf s.mem.cells = true → Memory.wf m = true) :
    FiguresKept s (s.withMem { s.mem with cells := m }) :=
  ⟨fun hm => ⟨h hm.1, hm.2⟩, id, id⟩

theorem FiguresKept.finishExchange (row cell : BitVec 16) (colour : Byte) (formed : Formed) (s : State) :
    FiguresKept s (finishExchange row cell colour formed s).2 := by
  refine .withCells s fun hw => ?_
  unfold exchangeCell
  split
  · next r j c hr hj _ =>
    split
    · exact hw
    · exact Memory.wf_write hw _ (rowOf_eq_some hr).2 (cellOf_eq_some hj).2
  · exact hw

theorem FiguresKept.finishConditional (row cell : BitVec 16) (expected new : Byte) (formed : Formed) (s : State) :
    FiguresKept s (finishConditional row cell expected new formed s).2 := by
  refine .withCells s fun hw => ?_
  unfold conditionalExchange
  split
  · next r j x c hr hj _ _ =>
    split
    · exact hw
    · dsimp only
      split
      · exact Memory.wf_write hw _ (rowOf_eq_some hr).2 (cellOf_eq_some hj).2
      · exact hw
  · exact hw

/-! ### Pointers -/

theorem Pointer.initial_inBand : Pointer.initial.inBand := by unfold Pointer.inBand; decide

/-- The advance of a pointer by its mode stays in its band (R56, R52). -/
theorem Pointer.advance_inBand {p : Pointer} (h : p.inBand) : p.advance.inBand := by
  obtain ⟨hl, hh, hr, hs⟩ := h
  have hspan : (0 : Int) < (p.high : Int) - p.low + 1 := by omega
  have key (x : Int) : p.low ≤ ((p.low : Int) + x % ((p.high : Int) - p.low + 1)).toNat ∧
      ((p.low : Int) + x % ((p.high : Int) - p.low + 1)).toNat ≤ p.high := by
    have h0 := Int.emod_nonneg x hspan.ne'
    have h1 := Int.emod_lt_of_pos x hspan
    omega
  unfold Pointer.advance
  dsimp only
  split
  · exact ⟨hl, hh, hr, hs⟩
  · exact ⟨(key _).1, (key _).2, hr, hs⟩
  · exact ⟨(key _).1, (key _).2, hr, hs⟩

/-- One pointer replaced by one in its band. -/
theorem inBand_set {ptrs : Vector Pointer 8} (h : ∀ p : Fin 8, ptrs[p].inBand) (i : Fin 8) {x : Pointer}
    (hx : x.inBand) (p : Fin 8) : (ptrs.set i.val x)[p].inBand := by
  rw [Fin.getElem_fin, Vector.getElem_set]
  split
  · exact hx
  · exact h p

theorem pointerOf_inBand {current low high : BitVec 16} {mode step : Byte} {p : Pointer}
    (h : pointerOf current low high mode step = some p) : p.inBand := by
  unfold pointerOf at h
  split at h
  · next lo hi m st _ hhi _ hst =>
    split at h
    · next hb =>
      cases h
      obtain ⟨hs1, hs2, _⟩ := natIn_eq_some.1 hst
      exact ⟨hb.1, hb.2, (rowOf_eq_some hhi).2, hs1, hs2⟩
    · cases h
  · cases h

theorem FiguresKept.ownSetPointer (pointer : Byte) (current low high : BitVec 16) (mode step : Byte) (s : State) :
    FiguresKept s (ownSetPointer pointer current low high mode step s).2 := by
  unfold Machine.ownSetPointer
  split
  · next i p _ hp => exact ⟨id, fun h => inBand_set h i (pointerOf_inBand hp), id⟩
  · exact .of_eq rfl

/-- The resolution pass only advances pointers (R57). -/
theorem resolveEntries_inBand {kept : List (System × Nat)} {es : List SystemEntry} {ptrs : Vector Pointer 8}
    (h : ∀ p : Fin 8, ptrs[p].inBand) (p : Fin 8) : (resolveEntries kept es ptrs).1[p].inBand := by
  induction es generalizing ptrs with
  | nil => exact h p
  | cons e es ih =>
    cases hk : rowOfSystem kept e.system with
    | some row => simpa only [resolveEntries, hk] using ih h
    | none =>
      cases hs : e.source with
      | direct row => simpa only [resolveEntries, hk, hs] using ih h
      | pointer q => simpa only [resolveEntries, hk, hs] using ih (inBand_set h q (Pointer.advance_inBand (h q)))

theorem FiguresKept.lockAndResolve (s : State) (c : Course) : FiguresKept s (s.lockAndResolve c) := by
  have hf : (s.lockAndResolve c).figures = { s.figures with ptrs := (resolveEntries c.resolved c.listed s.ptrs).1 } := by
    simp [State.lockAndResolve]
  unfold FiguresKept
  rw [hf]
  exact ⟨id, fun h => resolveEntries_inBand h, id⟩

end Sys2Proof.Machine
end

section
/-! SUPPORT. The geometry record field by field: what a write of one field does to every value read, and the ranges of
R1 as ranges of the values read (R1 to R3). -/

namespace Sys2Proof.Machine

/-! ## One field of the geometry record -/

theorem unindexed_eq_some {α : Type} {index : Nat} {o : Option α} {x : α} :
    unindexed index o = some x ↔ index = 0 ∧ o = some x := by
  simp [unindexed]

theorem Head.ofNumber_eq_some {n : Nat} {h : Head} : Head.ofNumber n = some h ↔ n = h.val + 1 := by
  simp only [Head.ofNumber, Option.dite_none_right_eq_some, Option.some.injEq, Fin.ext_iff]
  exact ⟨fun ⟨_, _⟩ => by omega, fun _ => ⟨by omega, by omega⟩⟩

theorem Carrier.ofNumber_eq_some {n : Nat} {k : Carrier} : Carrier.ofNumber n = some k ↔ n = k.val + 1 := by
  simp only [Carrier.ofNumber, Option.dite_none_right_eq_some, Option.some.injEq, Fin.ext_iff]
  exact ⟨fun ⟨_, _⟩ => by omega, fun _ => ⟨by omega, by omega⟩⟩

theorem Rail.ofNumber_eq_some {n : Nat} {r : Rail} : Rail.ofNumber n = some r ↔ n = r.val + 1 := by
  simp only [Rail.ofNumber, Option.dite_none_right_eq_some, Option.some.injEq, Fin.ext_iff]
  exact ⟨fun ⟨_, _⟩ => by omega, fun _ => ⟨by omega, by omega⟩⟩

theorem Head.ofNumber_isSome {n : Nat} : (Head.ofNumber n).isSome = true ↔ 1 ≤ n ∧ n ≤ 6 := by
  unfold Head.ofNumber; split <;> simp_all

theorem Carrier.ofNumber_isSome {n : Nat} : (Carrier.ofNumber n).isSome = true ↔ 1 ≤ n ∧ n ≤ 16 := by
  unfold Carrier.ofNumber; split <;> simp_all

/-- A field has a value at exactly its indices (R3). -/
theorem GeometryBlock.fieldValue_isSome (b : GeometryBlock) (f : GeometryField) (i : Nat) :
    (b.fieldValue f i).isSome = true ↔ f.hasIndex i := by
  cases f <;>
    simp [GeometryBlock.fieldValue, GeometryField.hasIndex, unindexed, Head.ofNumber_isSome, Carrier.ofNumber_isSome]

/-- A write of one field leaves every other (R2). -/
theorem Geometry.setField_fieldValue_other {g g' : Geometry} {f : GeometryField} {i : Nat} {v : Int}
    (h : g.setField f i v = some g') (b : GeometryBlock) (hb : b.record = g) {f' : GeometryField} (hf : f' ≠ f)
    (i' : Nat) : ({ b with record := g' } : GeometryBlock).fieldValue f' i' = b.fieldValue f' i' := by
  subst hb
  cases f <;> simp only [Geometry.setField, unindexed_eq_some, Option.map_eq_some_iff] at h
  case headOffset | carrierRail | carrierCap =>
    split at h
    · obtain ⟨x, -, rfl⟩ := by simpa only [Option.map_eq_some_iff] using h
      cases f' <;> try rfl
      exact absurd rfl hf
    · cases h
  case geometryCheck => cases h
  all_goals
    obtain ⟨-, x, -, rfl⟩ := h
    cases f' <;> try rfl
    exact absurd rfl hf

/-- The values of a numbered table after one of its places has been set, by number. -/
theorem numbered_set {α : Type} {n : Nat} {ofNumber : Nat → Option (Fin n)}
    (hn : ∀ m k, ofNumber m = some k ↔ m = k.val + 1) (val : α → Int) (table : Vector α n) {i : Nat} {k : Fin n}
    (hk : ofNumber i = some k) (x : α) (i' : Nat) :
    ((ofNumber i').map fun j => val (table.set k.val x)[j]) =
      if i' = i then some (val x) else (ofNumber i').map fun j => val table[j] := by
  cases hj : ofNumber i' with
  | none =>
    rw [if_neg (by rintro rfl; simp [hk] at hj)]; rfl
  | some j =>
    rw [hn] at hj hk
    simp only [Option.map_some, Fin.getElem_fin, Vector.getElem_set]
    by_cases h : k.val = j.val
    · simp [h, hj, hk]
    · simp [h, show i' ≠ i by omega]

/-- A write of one field gives its index the value written and leaves its other indices (R2). -/
theorem Geometry.setField_fieldValue_same {g g' : Geometry} {f : GeometryField} {i : Nat} {v : Int}
    (h : g.setField f i v = some g') (b : GeometryBlock) (hb : b.record = g) (i' : Nat) :
    ({ b with record := g' } : GeometryBlock).fieldValue f i' = if i' = i then some v else b.fieldValue f i' := by
  subst hb
  cases f <;> simp only [Geometry.setField, unindexed_eq_some, Option.map_eq_some_iff, natIn_eq_some, offsetIn_eq_some] at h
  case headOffset =>
    split at h
    · next k hk =>
      obtain ⟨x, ⟨-, -, rfl⟩, rfl⟩ := by simpa only [Option.map_eq_some_iff, offsetIn_eq_some] using h
      exact numbered_set (fun _ _ => Head.ofNumber_eq_some) id _ hk v i'
    · cases h
  case carrierRail =>
    split at h
    · next k hk =>
      obtain ⟨r, hr, rfl⟩ := by simpa only [Option.map_eq_some_iff, Rail.ofNumber_eq_some] using h
      rw [show v = (r.val : Int) + 1 by omega]
      exact numbered_set (fun _ _ => Carrier.ofNumber_eq_some) (fun r : Rail => (r.val : Int) + 1) _ hk r i'
    · cases h
  case carrierCap =>
    split at h
    · next k hk =>
      obtain ⟨x, ⟨-, -, rfl⟩, rfl⟩ := by simpa only [Option.map_eq_some_iff, natIn_eq_some] using h
      exact numbered_set (fun _ _ => Carrier.ofNumber_eq_some) (fun n : Nat => (n : Int)) _ hk x i'
    · cases h
  case geometryCheck => cases h
  all_goals
    obtain ⟨rfl, x, ⟨-, -, rfl⟩, rfl⟩ := h
    simp only [GeometryBlock.fieldValue, unindexed]
    split <;> rfl

/-- SET_GEOMETRY_FIELD and READ_GEOMETRY_FIELD meet: every field after a write of one (R2, R3). -/
theorem Geometry.setField_fieldValue {g g' : Geometry} {f : GeometryField} {i : Nat} {v : Int}
    (h : g.setField f i v = some g') (b : GeometryBlock) (hb : b.record = g) (f' : GeometryField) (i' : Nat) :
    ({ b with record := g' } : GeometryBlock).fieldValue f' i' =
      if f' = f ∧ i' = i then some v else b.fieldValue f' i' := by
  by_cases hf : f' = f
  · subst hf; simpa using Geometry.setField_fieldValue_same h b hb i'
  · simpa [hf] using Geometry.setField_fieldValue_other h b hb hf i'

theorem natIn_isSome {lo hi : Nat} {v : Int} : (natIn lo hi v).isSome = true ↔ (lo : Int) ≤ v ∧ v ≤ (hi : Int) := by
  unfold natIn; split <;> simp_all

theorem offsetIn_isSome {v : Int} : (offsetIn v).isSome = true ↔ -32768 ≤ v ∧ v ≤ 32767 := by
  unfold offsetIn; split <;> simp_all

theorem Rail.ofNumber_isSome {n : Nat} : (Rail.ofNumber n).isSome = true ↔ 1 ≤ n ∧ n ≤ 8 := by
  unfold Rail.ofNumber; split <;> simp_all

/-- A field is written exactly where its index and its value are in their ranges (R1, R2). -/
theorem Geometry.setField_isSome (g : Geometry) (f : GeometryField) (i : Nat) (v : Int) :
    (g.setField f i v).isSome = true ↔ f.hasIndex i ∧ f.hasValue v := by
  have unindexed_isSome {α : Type} (o : Option α) : (unindexed i o).isSome = true ↔ i = 0 ∧ o.isSome = true := by
    unfold unindexed; split <;> simp_all
  cases f <;> simp only [Geometry.setField, GeometryField.hasIndex, GeometryField.hasValue]
  case headOffset =>
    rw [← Head.ofNumber_isSome, ← offsetIn_isSome]
    split <;> simp_all
  case carrierRail =>
    rw [← Carrier.ofNumber_isSome, show (1 ≤ v ∧ v ≤ 8) ↔ 1 ≤ v.toNat ∧ v.toNat ≤ 8 by omega, ← Rail.ofNumber_isSome]
    split <;> simp_all
  case carrierCap =>
    rw [← Carrier.ofNumber_isSome]
    split <;> simp_all [natIn_isSome]
  case geometryCheck => simp
  all_goals simp [unindexed_isSome, natIn_isSome, offsetIn_isSome]

/-- A record is in range exactly if every field that can be written has a value of its range (R1). -/
theorem Geometry.inRange_iff (b : GeometryBlock) :
    b.record.inRange ↔ ∀ f i v, f ≠ .geometryCheck → b.fieldValue f i = some v → f.hasValue v := by
  constructor
  · intro h f i v hf hv
    unfold Geometry.inRange at h
    cases f <;>
      simp only [GeometryBlock.fieldValue, unindexed_eq_some, Option.map_eq_some_iff, Option.some.injEq] at hv <;>
      simp only [GeometryField.hasValue]
    case headOffset =>
      obtain ⟨_, _, _, _, _, hoff, _⟩ := h
      obtain ⟨k, -, rfl⟩ := hv
      exact hoff k
    case carrierRail => obtain ⟨k, -, rfl⟩ := hv; omega
    case carrierCap =>
      obtain ⟨_, _, _, _, _, _, _, _, _, _, _, _, _, _, _, _, _, hcap, _⟩ := h
      obtain ⟨k, -, rfl⟩ := hv
      have := hcap k
      omega
    case geometryCheck => exact hf rfl
    all_goals omega
  · intro h
    have plain (f : GeometryField) (hf : f ≠ .geometryCheck) {v : Int} (hv : b.fieldValue f 0 = some v) := h f 0 v hf hv
    have hoff (k : Head) := h .headOffset (k.val + 1) b.record.headOffset[k] (by decide)
      (by simp [GeometryBlock.fieldValue, Head.ofNumber_eq_some.2 (show k.val + 1 = k.val + 1 from rfl)])
    have hcap (k : Carrier) := h .carrierCap (k.val + 1) b.record.carrierCap[k] (by decide)
      (by simp [GeometryBlock.fieldValue, Carrier.ofNumber_eq_some.2 (show k.val + 1 = k.val + 1 from rfl)])
    simp only [GeometryField.hasValue] at hoff hcap
    have bedNeedles := plain .bedNeedles (by decide) rfl
    have cpn := plain .cpn (by decide) rfl
    have bedOrigin := plain .bedOrigin (by decide) rfl
    have homeCount := plain .homeCount (by decide) rfl
    have systems := plain .systems (by decide) rfl
    have catchOffset := plain .catchOffset (by decide) rfl
    have lead := plain .lead (by decide) rfl
    have margin := plain .margin (by decide) rfl
    have parkGap := plain .parkGap (by decide) rfl
    have travelLo := plain .travelLo (by decide) rfl
    have travelHi := plain .travelHi (by decide) rfl
    have backlash := plain .backlash (by decide) rfl
    have indexTol := plain .indexTol (by decide) rfl
    have pulseUs := plain .pulseUs (by decide) rfl
    have rails := plain .rails (by decide) rfl
    have carriers := plain .carriers (by decide) rfl
    have xferCap := plain .xferCap (by decide) rfl
    simp only [GeometryField.hasValue] at *
    refine ⟨by omega, by omega, by omega, by omega, by omega, hoff, catchOffset, by omega, by omega, by omega, by omega, by omega,
      by omega, by omega, by omega, by omega, by omega, fun k => ?_, by omega⟩
    have := hcap k
    omega

/-- A field written within its range leaves the record in range (R1, R2). -/
theorem GeometryBlock.setField_inRange {b : GeometryBlock} {g : Geometry} {f : GeometryField} {i : Nat} {v : Int}
    (h : b.record.inRange) (hs : b.record.setField f i v = some g) : g.inRange := by
  refine (Geometry.inRange_iff { b with record := g }).2 fun f' i' v' hf' hv' => ?_
  rw [Geometry.setField_fieldValue hs b rfl] at hv'
  split at hv'
  · next heq =>
    obtain ⟨rfl, rfl⟩ := heq
    cases hv'
    exact ((Geometry.setField_isSome b.record f' i' v).1 (by rw [hs]; rfl)).2
  · exact (Geometry.inRange_iff b).1 h f' i' v' hf' hv'

/-- The defaults of R1 are in range. -/
theorem Geometry.defaults_inRange : Geometry.defaults.inRange := by unfold Geometry.inRange; decide

/-- A speed limit of a carrier, clamped to 1..8, leaves the record in range (R112). -/
theorem Geometry.setCap_inRange {g : Geometry} (h : g.inRange) (k : Carrier) (speed : Byte) :
    { g with carrierCap := g.carrierCap.set k.val (clampClass speed) }.inRange := by
  unfold Geometry.inRange at h ⊢
  obtain ⟨h1, h2, h3, h4, h5, h6, h7, h8, h9, h10, h11, h12, h13, h14, h15, h16, h17, hcap, h19⟩ := h
  refine ⟨h1, h2, h3, h4, h5, h6, h7, h8, h9, h10, h11, h12, h13, h14, h15, h16, h17, fun j => ?_, h19⟩
  rw [Fin.getElem_fin, Vector.getElem_set]
  split
  · exact clampClass_range speed
  · exact hcap j

end Sys2Proof.Machine
end

section
/-! O54. Every step keeps the memory's one form, the pointers' bands and every range: each command's own rule and each
event, over the figures. -/

namespace Sys2Proof.Machine

theorem FiguresKept.frameFree : FrameFree FiguresKept where
  refl _ := .of_eq rfl
  trans := .trans
  port s p x := .of_eq (s.withPort_figures p x)
  breakLoad s b := .of_eq (s.breakLoad_figures b)
  pending _ _ := .of_eq rfl

/-! ## Blocks whose figures are replaced within their ranges -/

theorem FiguresKept.withPos (s : State) {x : PositionCounter}
    (h : s.rangesOk → x.count ≤ Config.maxCount ∧ -8 ≤ x.racking ∧ x.racking ≤ 8) : FiguresKept s (s.withPos x) :=
  ⟨id, id, fun hr => ⟨(h hr).1, (h hr).2, hr.2.2⟩⟩

theorem FiguresKept.withGeo (s : State) {x : GeometryBlock}
    (h : s.rangesOk → x.record.inRange ∧ x.store.record.inRange) : FiguresKept s (s.withGeo x) :=
  ⟨id, id, fun hr => ⟨hr.1, hr.2.1, hr.2.2.1, h hr⟩⟩

theorem FiguresKept.withDriveCap (s : State) (b : Byte) : FiguresKept s (s.withArm { s.arm with driveCap := clampClass b }) :=
  ⟨id, id, fun hr => ⟨hr.1, hr.2.1, clampClass_range b, hr.2.2.2⟩⟩

/-! ## Resets -/

theorem pointersInitial_inBand (p : Fin 8) : pointersInitial[p].inBand := by
  rw [show pointersInitial[p] = Pointer.initial by simp [pointersInitial]]
  exact Pointer.initial_inBand

/-- The load cursor, the pointers, the racking and the drive cap at their reset values, over any cells of one form. -/
theorem Figures.Kept.reset (f : Figures) {cells : Memory} (hc : f.memoryOk → Memory.wf cells = true) {count : Nat}
    (hn : f.rangesOk → count ≤ Config.maxCount) {record : Geometry} (hr : f.rangesOk → record.inRange) :
    f.Kept ⟨cells, 0, 0, pointersInitial, count, 0, 8, record, f.stored⟩ :=
  ⟨fun h => ⟨hc h, .inl (by simp [Config.rowCount, Config.cellCount])⟩, fun _ => pointersInitial_inBand,
    fun h => ⟨hn h, by simp, by simp, hr h, h.2.2.2.2⟩⟩

/-- SOFT_RESET: the cells, P and the geometry stay, every other figure is at its reset value (R179). -/
theorem FiguresKept.softReset (s : State) : FiguresKept s s.softReset := by
  have hf : s.softReset.figures =
      ⟨s.mem.cells, 0, 0, pointersInitial, s.pos.count, 0, 8, s.geo.record, s.geo.store.record⟩ := by
    simp [State.softReset, State.figures, ArmingEngine.initial, LoadCursor.initial, State.releaseCourse]
  unfold FiguresKept
  rw [hf]
  exact .reset _ (fun h => h.1) (fun h => h.1) (fun h => h.2.2.2.1)

/-- RESET and the loss of power: the two geometry records stay, every other figure is at its reset value (R180). -/
theorem State.clearVolatile_figures (s : State) (latch : Bool) :
    (s.clearVolatile latch).figures = ⟨[], 0, 0, pointersInitial, 0, 0, 8, s.geo.record, s.geo.store.record⟩ := by
  simp [State.clearVolatile, State.figures, ArmingEngine.initial, LoadCursor.initial]

theorem FiguresKept.clearVolatile (s : State) (latch : Bool) : FiguresKept s (s.clearVolatile latch) := by
  unfold FiguresKept
  rw [State.clearVolatile_figures]
  exact .reset _ (fun _ => Memory.wf_nil) (fun _ => Nat.zero_le _) (fun h => h.2.2.2.1)

/-- The working record loaded is the stored one or the defaults (R11). -/
theorem FiguresKept.loadSettings (s : State) : FiguresKept s s.loadSettings := by
  refine .withGeo s fun h => ⟨?_, h.2.2.2.2⟩
  dsimp only
  split
  · exact h.2.2.2.2
  · exact Geometry.defaults_inRange

@[simp] theorem State.recoverRetained_figures (s : State) : s.recoverRetained.figures = s.figures := by
  simp [State.recoverRetained]

theorem FiguresKept.beginStartUp (s : State) : FiguresKept s s.beginStartUp :=
  .trans (.clearVolatile s s.pins.stopIn) (.trans (.loadSettings _)
    (.trans (.of_eq (State.recoverRetained_figures _)) (.of_eq (State.withPhase_figures _ _))))

theorem FiguresKept.holdReset (s : State) : FiguresKept s s.holdReset :=
  .trans (.clearVolatile s s.pins.stopIn) (.of_eq (State.withPhase_figures _ _))

/-! ## The rules of the commands -/

theorem FiguresKept.ownSetGeometryField (field index : Byte) (value : BitVec 32) (s : State) :
    FiguresKept s (ownSetGeometryField field index value s).2 := by
  unfold Machine.ownSetGeometryField
  split
  · exact .of_eq rfl
  · split
    · next g hg =>
      obtain ⟨f, -, hs⟩ := Option.bind_eq_some_iff.1 hg
      refine .trans (.withGeo s (x := { s.geo with record := g }) fun h => ⟨?_, h.2.2.2.2⟩)
        (.of_eq (by simp [State.geometryChanged]))
      exact GeometryBlock.setField_inRange h.2.2.2.1 hs
    · exact .of_eq rfl

theorem FiguresKept.ownSetCarrierLimit (carrier speed : Byte) (s : State) :
    FiguresKept s (ownSetCarrierLimit carrier speed s).2 := by
  unfold Machine.ownSetCarrierLimit
  split
  · exact .of_eq rfl
  · split
    · exact .of_eq rfl
    · exact .withGeo s fun h => ⟨Geometry.setCap_inRange h.2.2.2.1 _ _, h.2.2.2.2⟩

theorem FiguresKept.ownSetRacking (racking : Byte) (s : State) : FiguresKept s (ownSetRacking racking s).2 := by
  unfold Machine.ownSetRacking
  split
  · exact .of_eq rfl
  · split
    · next r hr =>
      obtain ⟨hlo, hhi, -⟩ := rackingOf_eq_some.1 hr
      exact .withPos s fun h => ⟨h.1, hlo, hhi⟩
    · exact .of_eq rfl

theorem ownWriteTechnique_figures (table colour front back parity : Byte) (s : State) :
    (ownWriteTechnique table colour front back parity s).2.figures = s.figures := by
  unfold ownWriteTechnique; split <;> [(split <;> simp); rfl]

theorem ownCommitCourse_figures (record : CourseFrame) (s : State) :
    (ownCommitCourse record s).2.figures = s.figures := by
  unfold ownCommitCourse; split <;> [rfl; (split <;> simp)]

theorem ownDiscardHead_figures (s : State) : (ownDiscardHead s).2.figures = s.figures := by
  unfold ownDiscardHead; split <;> simp

theorem ownSetCarrier_figures (carrier : Byte) (position : BitVec 16) (s : State) :
    (ownSetCarrier carrier position s).2.figures = s.figures := by
  unfold ownSetCarrier
  split
  · rfl
  · dsimp only; split <;> [rfl; (split <;> [rfl; (split <;> simp)])]

theorem ownClearResumeRecord_figures (s : State) : (ownClearResumeRecord s).2.figures = s.figures := by
  unfold ownClearResumeRecord; split <;> [rfl; (dsimp only; split <;> simp)]

theorem ownGoOnline_figures (s : State) : (ownGoOnline s).2.figures = s.figures := by
  unfold ownGoOnline; split <;> [rfl; (split <;> simp [State.reviewCarriers])]

theorem ownGoOffline_figures (s : State) : (ownGoOffline s).2.figures = s.figures := by
  unfold ownGoOffline; split <;> simp

theorem ownStoreSettings_figures (s : State) : (ownStoreSettings s).2.figures = s.figures := by
  unfold ownStoreSettings; split <;> simp

theorem ownHomeArm_figures (s : State) : (ownHomeArm s).2.figures = s.figures := by
  unfold ownHomeArm; split <;> simp

theorem ownActuatorsOn_figures (s : State) : (ownActuatorsOn s).2.figures = s.figures := by
  unfold ownActuatorsOn; split <;> [rfl; (split <;> simp)]

theorem ownActuatorsOff_figures (s : State) : (ownActuatorsOff s).2.figures = s.figures := by
  unfold ownActuatorsOff; split <;> simp

theorem ownRequestStroke_figures (s : State) : (ownRequestStroke s).2.figures = s.figures := by
  unfold ownRequestStroke
  split
  · rfl
  · split
    · rfl
    · split <;> [rfl; (split <;> simp)]

theorem ownBeginStroke_figures (s : State) : (ownBeginStroke s).2.figures = s.figures := by
  unfold ownBeginStroke
  split_ifs
  case neg => split <;> [rfl; (dsimp only; split <;> simp)]
  all_goals rfl

theorem ownAbandonStroke_figures (s : State) : (ownAbandonStroke s).2.figures = s.figures := by
  unfold ownAbandonStroke; split <;> simp

theorem ownResumeStroke_figures (s : State) : (ownResumeStroke s).2.figures = s.figures := by
  unfold ownResumeStroke
  split
  · rfl
  · split
    · split_ifs
      case neg => simp
      all_goals rfl
    · rfl

theorem ownClearStop_figures (s : State) : (ownClearStop s).2.figures = s.figures := by
  unfold ownClearStop; split <;> simp

theorem clearShown_figures (c : Carried) (s : State) : (clearShown c s).figures = s.figures := by
  unfold clearShown; split <;> simp

theorem clearFault_figures (p : Port) (c : Carried) (s : State) : (clearFault p c s).figures = s.figures := by
  unfold clearFault; split <;> [(split <;> simp); rfl]

theorem clearOutcomeReason_figures (c : Carried) (s : State) : (clearOutcomeReason c s).figures = s.figures := by
  unfold clearOutcomeReason; split <;> simp

theorem finishFetch_figures (formed : Formed) (s : State) : (finishFetch formed s).2.figures = s.figures := by
  unfold finishFetch; split <;> simp [finishRead]

theorem FiguresKept.frameForm {c : Instr} {w : FrameForm} (h : frameForm c = some w) : w.Keeps FiguresKept := by
  cases c with
  | readStatus port frame => cases h; exact fun _ u _ => .of_eq (clearShown_figures _ u)
  | readFault port frame => cases h; exact fun _ u _ => .of_eq (clearFault_figures _ _ u)
  | readGrant frame => cases h; exact fun _ u _ => .of_eq (clearOutcomeReason_figures _ u)
  | fetchCompletion frame => cases h; exact fun formed u _ => .of_eq (finishFetch_figures formed u)
  | exchangeCell frame row cell colour => cases h; exact fun formed u _ => .finishExchange row cell colour formed u
  | conditionalExchangeCell frame row cell expected new =>
    cases h; exact fun formed u _ => .finishConditional row cell expected new formed u
  | softReset port e =>
    cases h
    intro u _
    unfold ownSoftReset
    split
    · exact .of_eq rfl
    · exact .softReset u
  | writeRow e row start data => cases h; exact fun u _ => .ownWriteRow row start data u
  | rowContinue e data => cases h; exact fun u _ => .ownRowContinue data u
  | setPointer e p current low high mode step =>
    cases h; exact fun u _ => .ownSetPointer p current low high mode step u
  | setGeometryField e field index value => cases h; exact fun u _ => .ownSetGeometryField field index value u
  | setCarrierLimit e carrier speed => cases h; exact fun u _ => .ownSetCarrierLimit carrier speed u
  | setRacking e racking => cases h; exact fun u _ => .ownSetRacking racking u
  | setSpeedCap e speed => cases h; exact fun u _ => .withDriveCap u speed
  | writeTechnique e table colour front back parity =>
    cases h; exact fun u _ => .of_eq (ownWriteTechnique_figures table colour front back parity u)
  | commitCourse e record => cases h; exact fun u _ => .of_eq (ownCommitCourse_figures record u)
  | discardHead e => cases h; exact fun u _ => .of_eq (ownDiscardHead_figures u)
  | setZone e left right => cases h; exact fun _ _ => .of_eq rfl
  | setWantLevel e level => cases h; exact fun _ _ => .of_eq rfl
  | setCarrier e carrier position => cases h; exact fun u _ => .of_eq (ownSetCarrier_figures carrier position u)
  | clearResumeRecord e => cases h; exact fun u _ => .of_eq (ownClearResumeRecord_figures u)
  | goOnline e => cases h; exact fun u _ => .of_eq (ownGoOnline_figures u)
  | goOffline e => cases h; exact fun u _ => .of_eq (ownGoOffline_figures u)
  | storeSettings e => cases h; exact fun u _ => .of_eq (ownStoreSettings_figures u)
  | homeArm e => cases h; exact fun u _ => .of_eq (ownHomeArm_figures u)
  | actuatorsOn e => cases h; exact fun u _ => .of_eq (ownActuatorsOn_figures u)
  | actuatorsOff e => cases h; exact fun u _ => .of_eq (ownActuatorsOff_figures u)
  | requestStroke e => cases h; exact fun u _ => .of_eq (ownRequestStroke_figures u)
  | beginStroke e => cases h; exact fun u _ => .of_eq (ownBeginStroke_figures u)
  | abandonStroke e => cases h; exact fun u _ => .of_eq (ownAbandonStroke_figures u)
  | resumeStroke e => cases h; exact fun u _ => .of_eq (ownResumeStroke_figures u)
  | clearStop e => cases h; exact fun u _ => .of_eq (ownClearStop_figures u)
  | unknownCommand port e code => cases h; trivial
  | _ => cases h <;> exact FrameForm.look_keeps FiguresKept.frameFree _ _ _ _ _

/-! ## Events -/

/-- A stage acts on the head course it finds ARMING and at that stage, or there is no such event (R126). -/
theorem State.atStage_cases (s : State) (stage : ArmingStage) (act : Course → State) :
    s.atStage stage act = s ∨
      ∃ c, s.head? = some c ∧ c.state = .arming ∧ s.arm.stage = some stage ∧ s.atStage stage act = act c := by
  unfold State.atStage
  split
  · next c hc =>
    split
    · next h => exact .inr ⟨c, hc, h.1, h.2, rfl⟩
    · exact .inl rfl
  · exact .inl rfl

/-- What every act of a stage keeps, the stage keeps. -/
theorem FiguresKept.atStage {s : State} {stage : ArmingStage} {act : Course → State} (h : ∀ c, FiguresKept s (act c)) :
    FiguresKept s (s.atStage stage act) := by
  rcases s.atStage_cases stage act with he | ⟨c, -, -, -, he⟩
  · exact .of_eq (by rw [he])
  · rw [he]; exact h c

/-- A valid count keeps P within its limits (R12, R14). -/
theorem FiguresKept.takeCount (s : State) (d : Int) : FiguresKept s (s.takeCount d) := by
  unfold State.takeCount
  dsimp only
  split
  · exact .of_eq s.losePosition_figures
  · next h =>
    refine .trans (.withPos s (x := { s.pos with count := ((s.pos.count : Int) + d).toNat }) fun hr => ⟨?_, hr.2.1⟩)
      (.of_eq (State.countChanged_figures _ _))
    dsimp only
    omega

theorem FiguresKept.encoderTransition (a b : Bool) {s t : State} (h : exec (.encoderTransition a b) s = .next t) :
    FiguresKept s t := by
  cases h
  dsimp only
  split_ifs
  · exact .of_eq rfl
  · exact .of_eq rfl
  · exact .of_eq (by simp)
  · exact .trans (.of_eq (by simp)) (.takeCount _ _)

theorem FiguresKept.indexPulse {s t : State} (h : exec .indexPulse s = .next t) : FiguresKept s t := by
  cases h
  split_ifs
  · exact .of_eq rfl
  · refine .trans (.withPos s (x := { s.pos with count := s.geo.record.homeCount, valid := true, homing := false })
      fun hr => ⟨?_, hr.2.1⟩) (.of_eq (State.countChanged_figures _ _))
    obtain ⟨-, -, -, ⟨-, -, -, hhome, -⟩, -⟩ := hr
    exact hhome
  · exact .of_eq s.losePosition_figures
  · exact .of_eq rfl

theorem FiguresKept.startUpEnd {s t : State} (h : exec .startUpEnd s = .next t) : FiguresKept s t := by
  cases h
  split
  · exact .of_eq (by dsimp only; split_ifs <;> simp)
  all_goals exact .of_eq rfl

theorem FiguresKept.powerLoss {s t : State} (h : exec .powerLoss s = .next t) : FiguresKept s t := by
  have off (u : State) : FiguresKept u ((((u.clearVolatile false).withRetained u.retained.powerLost).withCarriers
      u.retained.powerLost.carriers).withPhase .off) :=
    .trans (.clearVolatile u false) (.of_eq (by simp))
  cases h
  split
  · exact .of_eq rfl
  all_goals exact off s

theorem FiguresKept.event {c : Instr} {s t : State} (hc : Machine.frameForm c = none) (h : exec c s = .next t) :
    FiguresKept s t := by
  cases c with
  | storeWriteComplete =>
    cases h
    split
    · exact .withGeo s fun hr => ⟨hr.2.2.2.1, hr.2.2.2.1⟩
    · exact .of_eq rfl
  | wakeComplete => cases h; split <;> exact .of_eq (by simp)
  | locksAndResolution => cases h; exact .atStage (.lockAndResolve s)
  | zoneStage => cases h; exact .atStage fun c => .of_eq (s.clampZone_figures c)
  | imageStage => cases h; exact .atStage fun c => .of_eq (s.buildImage_figures c)
  | transferPairing => cases h; exact .atStage fun c => .of_eq (s.checkPairs_figures c)
  | carrierPlan => cases h; exact .atStage fun c => .of_eq (s.planCarriers_figures c)
  | extentAndTurningPoints => cases h; exact .atStage fun c => .of_eq (s.findTurningPoints_figures c)
  | speedClass => cases h; exact .atStage fun c => .of_eq (s.findSpeed_figures c)
  | completionAndGrant => cases h; exact .atStage fun c => .of_eq (s.completeArming_figures c)
  | encoderTransition a b => exact .encoderTransition a b h
  | pulseEnd head => cases h; exact .of_eq (by split <;> rfl)
  | indexPulse => exact .indexPulse h
  | stopInAssertion => cases h; exact .of_eq (by dsimp only; split <;> [rfl; (split <;> simp)])
  | stopInRelease => cases h; exact .of_eq (by dsimp only; split <;> simp)
  | yarnSensorBreak k => cases h; exact .of_eq (by dsimp only; split <;> [rfl; (split <;> simp)])
  | yarnSensorBreakEnd k => cases h; exact .of_eq rfl
  | pfwAssertion => cases h; exact .of_eq (by dsimp only; split <;> [rfl; (split <;> simp)])
  | pfwRelease => cases h; exact .of_eq rfl
  | resumeRecordWriteComplete => cases h; exact .of_eq (by split <;> [(dsimp only; split <;> simp); rfl])
  | retainedWriteComplete => cases h; exact .of_eq (by split <;> [(split <;> simp); rfl])
  | powerOn =>
    cases h
    split <;> [split; exact .of_eq rfl; exact .of_eq rfl; exact .of_eq rfl]
    · exact .holdReset s
    · exact .beginStartUp s
  | powerLoss => exact .powerLoss h
  | resetAssertion =>
    cases h
    dsimp only
    split <;> [exact .of_eq rfl; exact .of_eq rfl; skip; skip]
    all_goals exact .trans (.of_eq (s.withPins_figures _)) (.holdReset _)
  | resetRelease =>
    cases h
    dsimp only
    split <;> [exact .trans (.of_eq (s.withPins_figures _)) (.beginStartUp _); exact .of_eq rfl; exact .of_eq rfl;
      exact .of_eq rfl]
  | startUpEnd => exact .startUpEnd h
  | backupSupplyFailure => cases h; exact .of_eq rfl
  | _ => cases hc

/-- Settles O54: every command's rule and every event keeps the three invariants, and no frame, no continuation flag and
no waiting command enters them. -/
theorem stepsKeepRanges : Obligations.StepsKeepRanges := fun _ _ h =>
  step_keeps FiguresKept.frameFree (fun _ _ => FiguresKept.frameForm) (fun _ _ _ => FiguresKept.event) h

end Sys2Proof.Machine
end

section
/-! SUPPORT. What a course past QUEUED rests on, as a small standing of its own: the courses' states and rackings, the
conditions of the stroke, and whether locks, engine and stroke record are in use. O56 is a statement of the standing, and
every operation acts on it in one of a few ways (R7, R17, R18, R25, R49, R87, R125, R146, R147, R163). -/

namespace Sys2Proof.Machine

/-- The standing of the queue: for each course its state and the racking it needs, then the conditions of the stroke, and
what the head course holds. -/
structure Standing where
  courses : List (CourseState × Int)
  live : Bool
  ready : Bool
  rackKnown : Bool
  racking : Int
  valid : Bool
  supply : SupplyState
  latch : Bool
  /-- the lock sets are empty and the image is cleared -/
  unlocked : Bool
  /-- the arming engine works -/
  working : Bool
  /-- there is a stroke record -/
  stroke : Bool

/-- A course as the standing sees it. -/
def Course.standing (c : Course) : CourseState × Int := (c.state, c.racking)

/-- Whether nothing is locked and the image is cleared. -/
def State.unlocked (s : State) : Bool := decide (s.mem.locks = [] ∧ s.tech.locks = [] ∧ s.image = .cleared)

/-- The standing of a state. -/
def State.standing (s : State) : Standing :=
  ⟨s.queue.courses.map Course.standing, s.live, decide (s.geo.mode = .ready), s.pos.rackKnown, s.pos.racking,
    s.pos.valid, s.supply, s.stops.latch, s.unlocked, s.arm.stage.isSome, s.heads.stroke.isSome⟩

/-- The state of the head course, if there is one. -/
def Standing.head (w : Standing) : Option CourseState := w.courses.head?.map Prod.fst

/-- What a head course in a state rests on. -/
def Standing.supports (w : Standing) (st : CourseState) (required : Int) : Prop :=
  (st ≠ .queued → w.ready = true ∧ w.rackKnown = true ∧ w.racking = required) ∧
  (st = .arming ∨ st = .armed ∨ st = .knitting → w.supply = .on) ∧
  (st = .armed ∨ st = .knitting → w.valid = true) ∧ (st = .knitting → w.latch = false)

/-- `State.strokeOk` of the standing. -/
def Standing.strokeOk (w : Standing) : Prop :=
  match w.courses with
  | [] => True
  | (st, required) :: rest => (∀ x ∈ rest, x.1 = .queued) ∧ w.live = true ∧ w.supports st required

/-- `State.locksOk` of the standing, but for its courses behind the head. -/
def Standing.locksOk (w : Standing) : Prop :=
  match w.head with
  | none | some .queued => w.unlocked = true ∧ w.working = false ∧ w.stroke = false
  | some .arming => w.working = true ∧ w.stroke = false
  | some .armed => w.working = false ∧ w.stroke = false
  | some .knitting | some .faulted => w.working = false ∧ w.stroke = true

variable {s t u : State}

theorem State.standing_head : s.standing.head = s.head?.map Course.state := by
  simp [Standing.head, State.standing, State.head?, Course.standing, Function.comp_def]

theorem State.headIs_iff {st : CourseState} : s.headIs st = true ↔ s.standing.head = some st := by
  simp [State.headIs, State.standing_head]

theorem State.headIs_eq_false_iff {st : CourseState} : s.headIs st = false ↔ s.standing.head ≠ some st := by
  simp [State.headIs, State.standing_head]

theorem State.pastQueued_iff : s.pastQueued = true ↔ s.standing.head ≠ none ∧ s.standing.head ≠ some .queued := by
  simp only [State.pastQueued, Bool.or_eq_true, State.headIs_iff]
  rcases s.standing.head with _ | (_ | _ | _ | _ | _) <;> simp

theorem State.strokeOk_iff : s.strokeOk ↔ s.standing.strokeOk := by
  unfold State.strokeOk State.tailQueued State.emptyUnlessLive Standing.strokeOk State.head? Standing.supports
  simp only [State.pastQueued_iff, Bool.or_eq_true, State.headIs_iff]
  rcases h : s.queue.courses with _ | ⟨c, cs⟩
  · simp [State.standing, h, Standing.head]
  · simp [State.standing, h, Standing.head, Course.standing]
    tauto

theorem State.locksOk_iff (hs : s.strokeOk) : s.locksOk ↔ s.standing.locksOk := by
  obtain ⟨ht, -⟩ := hs
  unfold State.locksOk Standing.locksOk
  simp only [ht, true_and, ← Bool.not_eq_true, State.pastQueued_iff]
  have hu : s.standing.unlocked = true ↔ s.mem.locks = [] ∧ s.tech.locks = [] ∧ s.image = .cleared := by
    simp [State.standing, State.unlocked]
  have hw : s.standing.working = s.arm.stage.isSome := rfl
  have hst : s.standing.stroke = s.heads.stroke.isSome := rfl
  have hd (st : CourseState) : s.headIs st = decide (s.standing.head = some st) := by
    simp [State.headIs, State.standing_head]
  rw [← hw, ← hst, hd, hd, hd]
  rcases s.standing.head with _ | (_ | _ | _ | _ | _) <;> simp [hu]

/-! ## The ways a standing changes -/

/-- Both invariants carried from one standing to another. -/
def Standing.Kept (w w' : Standing) : Prop :=
  (w.strokeOk → w'.strokeOk) ∧ (w.strokeOk → w.locksOk → w'.locksOk)

/-- The head course in another state. -/
def Standing.headTo (w : Standing) (st : CourseState) : Standing :=
  { w with courses := match w.courses with | [] => [] | x :: rest => (st, x.2) :: rest }

/-- The standing after a stroke fault (R163). -/
def Standing.faulted (w : Standing) : Standing := { w.headTo .faulted with latch := true }

/-- The standing after the return to QUEUED (R71). -/
def Standing.requeued (w : Standing) : Standing := { w.headTo .queued with unlocked := true, working := false }

/-- The standing after the head course has left the queue with its locks and its stroke record (R72). -/
def Standing.retired (w : Standing) : Standing :=
  { w with courses := w.courses.tail, unlocked := true, stroke := false }

namespace Standing
variable {w w' w'' : Standing}

theorem Kept.refl (w : Standing) : w.Kept w := ⟨id, fun _ => id⟩

theorem Kept.trans (h : w.Kept w') (h' : w'.Kept w'') : w.Kept w'' :=
  ⟨h'.1 ∘ h.1, fun hs hl => h'.2 (h.1 hs) (h.2 hs hl)⟩

/-- An empty queue with nothing locked. -/
theorem Kept.emptied (hc : w'.courses = []) (hu : w'.unlocked = true) (hw : w'.working = false)
    (hst : w'.stroke = false) : w.Kept w' :=
  ⟨fun _ => by simp [strokeOk, hc], fun _ _ => by simp [locksOk, head, hc, hu, hw, hst]⟩

/-- The head's state by the queue. -/
theorem head_eq_some {st : CourseState} (h : w.head = some st) : ∃ required rest, w.courses = (st, required) :: rest := by
  unfold head at h
  rcases hc : w.courses with _ | ⟨⟨a, r⟩, rest⟩
  · simp [hc] at h
  · simp only [hc, List.head?_cons, Option.map_some, Option.some.injEq] at h
    exact ⟨r, rest, by rw [h]⟩

/-- A stroke fault: what a FAULTED course rests on, a KNITTING one rests on too. -/
theorem Kept.fault (h : w.head = some .knitting) : w.Kept w.faulted := by
  obtain ⟨required, rest, hc⟩ := head_eq_some h
  constructor
  · simp only [strokeOk, supports, faulted, headTo, hc]
    rintro ⟨ht, hl, hr, -⟩
    exact ⟨ht, hl, fun _ => hr (by decide), by simp, by simp, by simp⟩
  · intro _ hk
    simpa [locksOk, h, faulted, headTo, head, hc] using hk

/-- A return to QUEUED rests on nothing. -/
theorem Kept.requeue (h : w.head = some .arming ∨ w.head = some .armed) : w.Kept w.requeued := by
  obtain ⟨st, required, rest, hc⟩ : ∃ st required rest, w.courses = (st, required) :: rest := by
    rcases h with h | h <;> exact ⟨_, head_eq_some h⟩
  constructor
  · simp only [strokeOk, supports, requeued, headTo, hc]
    rintro ⟨ht, hl, -⟩
    exact ⟨ht, hl, by simp, by simp, by simp, by simp⟩
  · intro _ hk
    rcases h with h | h <;> simp [locksOk, h] at hk <;> simp [locksOk, requeued, headTo, head, hc, hk]

/-- The courses behind the head rest on nothing either. -/
theorem Kept.retire (h : w.head = some .knitting ∨ w.head = some .faulted) : w.Kept w.retired := by
  obtain ⟨st, required, rest, hc⟩ : ∃ st required rest, w.courses = (st, required) :: rest := by
    rcases h with h | h <;> exact ⟨_, head_eq_some h⟩
  have hq : w.strokeOk → w.retired.head = none ∨ w.retired.head = some .queued := by
    simp only [strokeOk, hc, retired, head, List.tail_cons]
    rintro ⟨ht, -⟩
    rcases rest with _ | ⟨x, rest⟩
    · exact .inl rfl
    · exact .inr (by simp [ht x])
  constructor
  · intro hs
    have := hq hs
    simp only [strokeOk, hc, retired, List.tail_cons] at hs ⊢
    obtain ⟨ht, hl, -⟩ := hs
    rcases rest with _ | ⟨x, rest⟩
    · trivial
    · have hx : x.1 = .queued := ht x (by simp)
      exact ⟨fun y hy => ht y (by simp [hy]), hl, by simp [supports, hx]⟩
  · intro hs hk
    have hw : w.working = false := by
      rcases h with h | h <;> simp [locksOk, h] at hk <;> exact hk.1
    rcases hq hs with hq | hq <;> simp [locksOk, hq] <;> simp [retired, hw]

/-- Where the head course is past QUEUED, what it locks is free. -/
theorem Kept.locks (h : w.head ≠ none) (h' : w.head ≠ some .queued) (unlocked : Bool) :
    w.Kept { w with unlocked := unlocked } := by
  refine ⟨fun hs => hs, fun _ hk => ?_⟩
  have he : { w with unlocked := unlocked }.head = w.head := rfl
  unfold locksOk at hk ⊢
  rw [he]
  rcases hd : w.head with _ | (_ | _ | _ | _ | _) <;> simp_all

/-- Other conditions, on which the head course rests too. -/
theorem Kept.conditions {ready rackKnown valid latch : Bool} {racking : Int} {supply : SupplyState}
    (h : ∀ st required, w.head = some st → w.supports st required →
      Standing.supports { w with ready := ready, rackKnown := rackKnown, racking := racking, valid := valid,
                                 supply := supply, latch := latch } st required) :
    w.Kept { w with ready := ready, rackKnown := rackKnown, racking := racking, valid := valid, supply := supply,
                    latch := latch } := by
  refine ⟨fun ho => ?_, fun _ hk => hk⟩
  rcases hc : w.courses with _ | ⟨⟨st, required⟩, rest⟩
  · simp [strokeOk]
  · simp only [strokeOk, hc] at ho ⊢
    obtain ⟨ht, hl, hs⟩ := ho
    exact ⟨ht, hl, h st required (by simp [head, hc]) hs⟩

/-- Only an ARMED or KNITTING course rests on P_VALID. -/
theorem Kept.valid (h : w.head ≠ some .armed) (h' : w.head ≠ some .knitting) (valid : Bool) :
    w.Kept { w with valid := valid } :=
  Kept.conditions fun _ _ hst ⟨h1, h2, _, h4⟩ => ⟨h1, h2, by rintro (rfl | rfl) <;> contradiction, h4⟩

/-- Only an ARMING, ARMED or KNITTING course rests on the supply. -/
theorem Kept.supply (h : w.head ≠ some .arming) (h' : w.head ≠ some .armed) (h'' : w.head ≠ some .knitting)
    (supply : SupplyState) : w.Kept { w with supply := supply } :=
  Kept.conditions fun _ _ hst ⟨h1, _, h3, h4⟩ => ⟨h1, by rintro (rfl | rfl | rfl) <;> contradiction, h3, h4⟩

/-- Only a KNITTING course rests on the stop latch. -/
theorem Kept.latch (h : w.head ≠ some .knitting) (latch : Bool) : w.Kept { w with latch := latch } :=
  Kept.conditions fun _ _ hst ⟨h1, h2, h3, _⟩ => ⟨h1, h2, h3, by rintro rfl; contradiction⟩

/-- A queue without a course past QUEUED rests on no condition of its mode and racking. -/
theorem Kept.free (h : w.head = none ∨ w.head = some .queued) (ready rackKnown : Bool) (racking : Int) :
    w.Kept { w with ready := ready, rackKnown := rackKnown, racking := racking } :=
  Kept.conditions fun st _ hst ⟨_, h2, h3, h4⟩ => ⟨fun hq => by rcases h with h | h <;> simp_all, h2, h3, h4⟩

end Standing

end Sys2Proof.Machine
end

section
/-! SUPPORT. What each shared operation does to the standing. -/

namespace Sys2Proof.Machine

section Same
variable (s : State)

@[simp] theorem State.withPhase_standing (x : Phase) :
    (s.withPhase x).standing = { s.standing with live := decide (x = .startUp) || decide (x = .running) } := rfl
@[simp] theorem State.withPins_standing (x : Pins) : (s.withPins x).standing = s.standing := rfl
@[simp] theorem State.withGeo_standing (x : GeometryBlock) :
    (s.withGeo x).standing = { s.standing with ready := decide (x.mode = .ready) } := rfl
@[simp] theorem State.withPos_standing (x : PositionCounter) :
    (s.withPos x).standing = { s.standing with rackKnown := x.rackKnown, racking := x.racking, valid := x.valid } := rfl
@[simp] theorem State.withMem_standing (x : PatternMemory) : (s.withMem x).standing =
    { s.standing with unlocked := decide (x.locks = [] ∧ s.tech.locks = [] ∧ s.image = .cleared) } := rfl
@[simp] theorem State.withTech_standing (x : TechniqueMemory) : (s.withTech x).standing =
    { s.standing with unlocked := decide (s.mem.locks = [] ∧ x.locks = [] ∧ s.image = .cleared) } := rfl
@[simp] theorem State.withImage_standing (x : StrokeImage) : (s.withImage x).standing =
    { s.standing with unlocked := decide (s.mem.locks = [] ∧ s.tech.locks = [] ∧ x = .cleared) } := rfl
@[simp] theorem State.withLoad_standing (x : LoadCursor) : (s.withLoad x).standing = s.standing := rfl
@[simp] theorem State.withPtrs_standing (x : Vector Pointer 8) : (s.withPtrs x).standing = s.standing := rfl
@[simp] theorem State.withQueue_standing (x : CourseQueue) :
    (s.withQueue x).standing = { s.standing with courses := x.courses.map Course.standing } := rfl
@[simp] theorem State.withArm_standing (x : ArmingEngine) :
    (s.withArm x).standing = { s.standing with working := x.stage.isSome } := rfl
@[simp] theorem State.withHeads_standing (x : HeadSequencers) :
    (s.withHeads x).standing = { s.standing with stroke := x.stroke.isSome } := rfl
@[simp] theorem State.withCatchers_standing (x : Vector Bool 8) : (s.withCatchers x).standing = s.standing := rfl
@[simp] theorem State.withCarriers_standing (x : Vector CarrierEntry 16) : (s.withCarriers x).standing = s.standing := rfl
@[simp] theorem State.withRetained_standing (x : RetainedMemory) : (s.withRetained x).standing = s.standing := rfl
@[simp] theorem State.withSupply_standing (x : SupplyState) :
    (s.withSupply x).standing = { s.standing with supply := x } := rfl
@[simp] theorem State.withStops_standing (x : StopUnit) :
    (s.withStops x).standing = { s.standing with latch := x.latch } := rfl
@[simp] theorem State.withPort_standing (p : Port) (x : PortState) : (s.withPort p x).standing = s.standing := by
  cases p <;> rfl
@[simp] theorem State.withPatternPort_standing (x : PortState) : (s.withPatternPort x).standing = s.standing := rfl
@[simp] theorem State.withDrivePort_standing (x : PortState) : (s.withDrivePort x).standing = s.standing := rfl
@[simp] theorem State.withPatternReasons_standing (x : PatternReasons) :
    (s.withPatternReasons x).standing = s.standing := rfl
@[simp] theorem State.withDriveReasons_standing (x : DriveReasons) : (s.withDriveReasons x).standing = s.standing := rfl
@[simp] theorem State.withReasonCounts_standing (x : ReasonCounts) : (s.withReasonCounts x).standing = s.standing := rfl
@[simp] theorem State.withFreeIndex_standing (x : Nat) : (s.withFreeIndex x).standing = s.standing := rfl
@[simp] theorem State.withPending_standing (x : List Instr) : (s.withPending x).standing = s.standing := rfl

/-! A block written with its own standing leaves it. -/

@[simp] theorem State.standing_ready_self : { s.standing with ready := decide (s.geo.mode = .ready) } = s.standing := rfl
@[simp] theorem State.standing_pos_self :
    { s.standing with rackKnown := s.pos.rackKnown, racking := s.pos.racking, valid := s.pos.valid } = s.standing := rfl
@[simp] theorem State.standing_unlocked_self : { s.standing with
    unlocked := decide (s.mem.locks = [] ∧ s.tech.locks = [] ∧ s.image = .cleared) } = s.standing := rfl
@[simp] theorem State.standing_courses_self :
    { s.standing with courses := s.queue.courses.map Course.standing } = s.standing := rfl
@[simp] theorem State.standing_working_self : { s.standing with working := s.arm.stage.isSome } = s.standing := rfl
@[simp] theorem State.standing_stroke_self : { s.standing with stroke := s.heads.stroke.isSome } = s.standing := rfl
@[simp] theorem State.standing_latch_self : { s.standing with latch := s.stops.latch } = s.standing := rfl

@[simp] theorem State.breakLoad_standing (b : Bool) : (s.breakLoad b).standing = s.standing := by cases b <;> rfl
@[simp] theorem State.changeCarriers_standing (f : Carrier → CarrierEntry → CarrierEntry) :
    (s.changeCarriers f).standing = s.standing := by simp [State.changeCarriers]
@[simp] theorem State.changeCarrier_standing (k : Carrier) (f : CarrierEntry → CarrierEntry) :
    (s.changeCarrier k f).standing = s.standing := by simp [State.changeCarrier]
@[simp] theorem State.raiseHeldCatchers_standing : s.raiseHeldCatchers.standing = s.standing := by
  simp [State.raiseHeldCatchers]
@[simp] theorem State.queueRetained_standing (c : RetainedChange) : (s.queueRetained c).standing = s.standing := rfl
@[simp] theorem State.raiseFault_standing : s.raiseFault.standing = s.standing := rfl
@[simp] theorem State.raiseGrantWithdrawn_standing : s.raiseGrantWithdrawn.standing = s.standing := rfl
@[simp] theorem State.raiseStrokeDone_standing : s.raiseStrokeDone.standing = s.standing := rfl
@[simp] theorem State.raiseWakeDone_standing : s.raiseWakeDone.standing = s.standing := rfl
@[simp] theorem State.raiseOutcome_standing (g : Bool) : (s.raiseOutcome g).standing = s.standing := rfl
@[simp] theorem State.clearHeadRefused_standing : s.clearHeadRefused.standing = s.standing := rfl

/-- A change of the head course that leaves its state and its racking. -/
theorem State.changeHead_standing {f : Course → Course} (h : ∀ c, (f c).standing = c.standing) :
    (s.changeHead f).standing = s.standing := by
  rcases hc : s.queue.courses with _ | ⟨c, cs⟩ <;> simp [State.changeHead, State.standing, State.live, State.unlocked, hc, h]

/-- A change of the head course that takes it to another state. -/
theorem State.changeHead_standing_to {f : Course → Course} {st : CourseState}
    (h : ∀ c, (f c).standing = (st, c.standing.2)) : (s.changeHead f).standing = s.standing.headTo st := by
  rcases hc : s.queue.courses with _ | ⟨c, cs⟩ <;>
    simp [State.changeHead, State.standing, State.live, State.unlocked, hc, h, Standing.headTo]

@[simp] theorem State.nextStage_standing (st : ArmingStage) :
    (s.nextStage st).standing = { s.standing with working := true } := rfl

@[simp] theorem State.releaseCourse_standing : s.releaseCourse.standing = { s.standing with unlocked := true } := by
  simp [State.releaseCourse]

@[simp] theorem State.returnToQueued_standing : s.returnToQueued.standing = s.standing.requeued := by
  have h := s.changeHead_standing_to (f := fun c => { c with state := .queued }) (st := .queued) fun _ => rfl
  unfold State.returnToQueued
  dsimp only
  split <;> simp [h, Standing.requeued]

@[simp] theorem State.setLatch_standing : s.setLatch.standing = { s.standing with latch := true } := by
  unfold State.setLatch
  dsimp only
  split <;> rfl

@[simp] theorem State.setLatch_latch : s.setLatch.stops.latch = true := congrArg Standing.latch s.setLatch_standing

@[simp] theorem State.strokeFault_standing (r : FaultReason) (k : Option Carrier) (hd : Option Head) :
    (s.strokeFault r k hd).standing = if s.headIs .knitting then s.standing.faulted else s.standing := by
  split
  · next h =>
    obtain ⟨c, hc, hk⟩ : ∃ c, s.head? = some c ∧ c.state = .knitting := by
      simpa [State.headIs, Option.map_eq_some_iff] using h
    have hto (u : State) := u.changeHead_standing_to
      (f := fun c => { c with state := .faulted, lastFault := some r }) (st := .faulted) fun _ => rfl
    simp [State.strokeFault, hc, hk, hto, Standing.faulted, HeadSequencers.silence]
  · next h => rw [State.strokeFault_idle (Bool.eq_false_iff.2 h)]

theorem State.retire_standing (h : s.head? ≠ none) (o : CourseOutcome) : (s.retire o).standing = s.standing.retired := by
  unfold State.retire
  split
  · next hc => simp [State.head?, hc] at h
  · next c cs hc =>
    have ht : s.standing.courses.tail = cs.map Course.standing := by simp [State.standing, hc]
    simp [Standing.retired, ht]

theorem State.discardFaulted_standing (h : s.head? ≠ none) : s.discardFaulted.standing = s.standing.retired := by
  unfold State.discardFaulted
  rw [State.retire_standing]
  · simp
  · simpa [State.head?] using h

/-! ## Heads and catchers -/

@[simp] theorem State.catchCarrier_standing (k : Carrier) (c : Int) : (s.catchCarrier k c).standing =
    if s.pins.yarn[k] = true ∧ s.headIs .knitting = true then s.standing.faulted else s.standing := by
  unfold State.catchCarrier
  dsimp only
  split
  · simp [*, State.headIs, State.head?]
  · simp [*]

@[simp] theorem State.releaseCarrier_standing (k : Carrier) (q : Int) : (s.releaseCarrier k q).standing = s.standing := by
  have hsame (u : State) := u.changeHead_standing (f := fun c => { c with parked := c.parked ++ [(k, q)] }) fun _ => rfl
  simp [State.releaseCarrier, hsame]

@[simp] theorem State.releaseCarrying_standing : s.releaseCarrying.standing = s.standing := by
  unfold State.releaseCarrying
  generalize s.image.plan = l
  induction l generalizing s with
  | nil => rfl
  | cons e es ih => rw [List.foldl_cons, ih]; split <;> simp

/-- Without a KNITTING head course there are no catcher events. -/
theorem catcherEvents_idle (h : s.headIs .knitting = false) (d : Direction) (c0 c : Int) (l : List PlanEntry) :
    (catcherEvents d c0 c l s).2 = s := by
  induction l with
  | nil => rfl
  | cons e es ih => simp only [catcherEvents, catcherEvent, h, if_true, ih]

theorem Standing.faulted_head {w : Standing} (h : w.head = some .knitting) : w.faulted.head = some .faulted := by
  obtain ⟨required, rest, hc⟩ := Standing.head_eq_some h
  simp [Standing.faulted, Standing.headTo, Standing.head, hc]

theorem catcherEvent_standing (d : Direction) (c0 c : Int) (e : PlanEntry) (h : s.headIs .knitting = true) :
    (catcherEvent d c0 c e s).2.standing = s.standing ∨ (catcherEvent d c0 c e s).2.standing = s.standing.faulted := by
  unfold catcherEvent
  rw [if_neg (by simp [h])]
  split
  · simp only [State.catchCarrier_standing]
    split
    · exact .inr rfl
    · exact .inl rfl
  · split
    · exact .inl (by simp)
    · exact .inl rfl

/-- Catcher events leave the standing, or one of them faults the stroke, which ends them (R120 to R122). -/
theorem catcherEvents_standing (d : Direction) (c0 c : Int) (l : List PlanEntry) (h : s.headIs .knitting = true) :
    (catcherEvents d c0 c l s).2.standing = s.standing ∨ (catcherEvents d c0 c l s).2.standing = s.standing.faulted := by
  induction l generalizing s with
  | nil => exact .inl rfl
  | cons e es ih =>
    simp only [catcherEvents]
    rcases catcherEvent_standing s d c0 c e h with h1 | h1
    · have hk : (catcherEvent d c0 c e s).2.headIs .knitting = true := by
        rw [State.headIs_iff, h1]; exact State.headIs_iff.1 h
      rw [← h1]
      exact ih _ hk
    · have hk : (catcherEvent d c0 c e s).2.headIs .knitting = false := by
        rw [State.headIs_eq_false_iff, h1, Standing.faulted_head (State.headIs_iff.1 h)]; decide
      rw [catcherEvents_idle _ hk]
      exact .inr h1

end Same

/-! ## The relation -/

/-- Both invariants of O56 carried from a state to a next one. -/
def ConditionsKept (s t : State) : Prop := s.standing.Kept t.standing

variable {s t u : State}

theorem ConditionsKept.of_eq (h : t.standing = s.standing) : ConditionsKept s t := by
  unfold ConditionsKept; rw [h]; exact Standing.Kept.refl _

theorem ConditionsKept.trans (h : ConditionsKept s t) (h' : ConditionsKept t u) : ConditionsKept s u :=
  Standing.Kept.trans h h'

/-- From a state of the same standing. -/
theorem ConditionsKept.after (h : ConditionsKept t u) (h' : t.standing = s.standing) : ConditionsKept s u :=
  .trans (.of_eq h') h

theorem ConditionsKept.frameFree : FrameFree ConditionsKept where
  refl _ := .of_eq rfl
  trans := .trans
  port s p x := .of_eq (s.withPort_standing p x)
  breakLoad s b := .of_eq (s.breakLoad_standing b)
  pending _ _ := .of_eq rfl

theorem ConditionsKept.of_standing {w : Standing} (h : t.standing = w) (hk : s.standing.Kept w) : ConditionsKept s t := by
  unfold ConditionsKept; rwa [h]

theorem ConditionsKept.strokeFault (s : State) (r : FaultReason) (k : Option Carrier) (hd : Option Head) :
    ConditionsKept s (s.strokeFault r k hd) := by
  refine .of_standing (s.strokeFault_standing r k hd) ?_
  split
  · next h => exact .fault (State.headIs_iff.1 h)
  · exact .refl _

theorem ConditionsKept.returnToQueued (h : s.headIs .arming = true ∨ s.headIs .armed = true) :
    ConditionsKept s s.returnToQueued := by
  rw [State.headIs_iff, State.headIs_iff] at h
  exact .of_standing s.returnToQueued_standing (.requeue h)

theorem State.head?_ne_none_of_headIs {st : CourseState} (h : s.headIs st = true) : s.head? ≠ none := by
  intro hn
  simp [State.headIs, hn] at h

theorem ConditionsKept.completeStroke (h : s.headIs .knitting = true) : ConditionsKept s s.completeStroke := by
  refine .of_standing (w := s.standing.retired) ?_ (.retire (.inl (State.headIs_iff.1 h)))
  unfold State.completeStroke
  rw [State.raiseStrokeDone_standing, State.retire_standing, State.releaseCarrying_standing]
  rw [State.headIs_iff, ← State.releaseCarrying_standing, ← State.headIs_iff] at h
  exact State.head?_ne_none_of_headIs h

theorem ConditionsKept.select (s : State) (h : Head) : ConditionsKept s (s.select h) := by
  unfold State.select
  split
  · exact .of_eq rfl
  · next r hr =>
    have hst : s.heads.stroke.isSome = true := by rw [hr]; rfl
    dsimp only
    split
    · exact .of_eq (by rw [State.withHeads_standing, ← s.standing_stroke_self, hst]; rfl)
    · split
      · exact .strokeFault s _ _ _
      · exact .of_eq (by rw [State.withHeads_standing, ← s.standing_stroke_self, hst]; rfl)

theorem ConditionsKept.runCatchers (h : s.headIs .knitting = true) (d : Direction) (c0 c : Int) :
    ConditionsKept s (s.runCatchers d c0 c) := by
  have hk := State.headIs_iff.1 h
  unfold State.runCatchers
  dsimp only
  rcases catcherEvents_standing s d c0 c s.image.plan h with h1 | h1
  · refine .of_standing (State.withImage_standing _ _) ?_
    rw [h1]
    exact .locks (by simp [hk]) (by simp [hk]) _
  · refine .of_standing (State.withImage_standing _ _) ?_
    rw [h1]
    have hf := Standing.faulted_head hk
    exact .trans (.fault hk) (.locks (by simp [hf]) (by simp [hf]) _)

theorem ConditionsKept.runWork (s : State) (p0 : Nat) (w : CountWork) : ConditionsKept s (s.runWork p0 w) := by
  unfold State.runWork
  split
  · next hk =>
    cases w with
    | select h => exact .select s h
    | catchers => dsimp only; split <;> [exact .runCatchers hk _ _ _; exact .of_eq rfl]
    | reversal => exact .strokeFault s _ _ _
    | complete => exact .completeStroke hk
  · exact .of_eq rfl

theorem ConditionsKept.runFold (p0 : Nat) (l : List CountWork) (s : State) :
    ConditionsKept s (l.foldl (fun u w => u.runWork p0 w) s) := by
  induction l generalizing s with
  | nil => exact .of_eq rfl
  | cons w ws ih => exact .trans (.runWork s p0 w) (ih _)

theorem ConditionsKept.strokeWork (s : State) (p0 : Nat) : ConditionsKept s (s.strokeWork p0) := by
  unfold State.strokeWork
  split
  · exact .of_eq rfl
  · next r hr =>
    have hsame (x : StrokeRecord) : ConditionsKept s (s.withHeads { s.heads with stroke := some x }) :=
      .of_eq (by rw [State.withHeads_standing, ← s.standing_stroke_self, hr]; rfl)
    dsimp only
    split
    · exact .trans (hsame _) (.trans (.of_eq (State.withFreeIndex_standing _ _)) (.runFold p0 _ _))
    · exact .trans (hsame _) (.runFold p0 _ _)

theorem State.followCatchers_standing (s : State) (d : Direction) (p0 : Nat) :
    (s.followCatchers d p0).standing = s.standing := by
  unfold State.followCatchers; dsimp only; split <;> simp

theorem ConditionsKept.countChanged (s : State) (p0 : Nat) : ConditionsKept s (s.countChanged p0) := by
  unfold State.countChanged
  split
  · exact .of_eq rfl
  · split
    · exact .of_eq rfl
    · split
      · exact .trans (.of_eq (State.followCatchers_standing _ _ _)) (.strokeWork _ p0)
      · exact .of_eq (State.followCatchers_standing _ _ _)
      · exact .of_eq rfl

theorem ConditionsKept.examineCompletion (s : State) : ConditionsKept s s.examineCompletion := by
  unfold State.examineCompletion
  split
  · split
    · next h => exact .completeStroke (by simp only [Bool.and_eq_true] at h; exact h.1)
    · exact .of_eq rfl
  · exact .of_eq rfl

end Sys2Proof.Machine
end

section
/-! O56. Every step keeps what a course past QUEUED rests on, and the locks, engine and stroke record it holds: each
command's own rule and each event, over the standing. -/

namespace Sys2Proof.Machine

/-! ## The ways in which a course enters and leaves its states -/

namespace Standing
variable {w : Standing}

/-- A condition set, or a supply that no course rests on yet. -/
theorem Kept.ready (w : Standing) : w.Kept { w with ready := true } :=
  Kept.conditions fun _ _ _ ⟨h1, h2, h3, h4⟩ => ⟨fun h => ⟨rfl, (h1 h).2⟩, h2, h3, h4⟩

theorem Kept.homed (w : Standing) : w.Kept { w with valid := true } :=
  Kept.conditions fun _ _ _ ⟨h1, h2, _, h4⟩ => ⟨h1, h2, fun _ => rfl, h4⟩

theorem Kept.unlatched (w : Standing) : w.Kept { w with latch := false } :=
  Kept.conditions fun _ _ _ ⟨h1, h2, h3, _⟩ => ⟨h1, h2, h3, fun _ => rfl⟩

theorem Kept.supply_of_ne (h : w.supply ≠ .on) (supply : SupplyState) : w.Kept { w with supply := supply } :=
  Kept.conditions fun _ _ _ ⟨h1, h2, h3, h4⟩ => ⟨h1, fun hst => absurd (h2 hst) h, h3, h4⟩

/-- Without power and while RESET is asserted there is no course to rest on the latch (R84, R180). -/
theorem Kept.latch_of_not_live (h : w.live = false) (latch : Bool) : w.Kept { w with latch := latch } := by
  refine ⟨fun hs => ?_, fun _ hk => hk⟩
  rcases hc : w.courses with _ | ⟨⟨st, required⟩, rest⟩
  · simp [strokeOk]
  · simp only [strokeOk, hc] at hs
    simp [h] at hs

/-- A course joins the queue's tail (R66). -/
theorem Kept.commit (hl : w.live = true) (required : Int) :
    w.Kept { w with courses := w.courses ++ [(.queued, required)] } := by
  rcases hc : w.courses with _ | ⟨⟨st, r⟩, rest⟩
  · constructor <;> simp [strokeOk, supports, locksOk, head, hc, hl]
  · constructor
    · simp only [strokeOk, supports, hc, List.cons_append]
      rintro ⟨ht, hr⟩
      refine ⟨fun x hx => ?_, hr⟩
      rcases List.mem_append.1 hx with hx | hx
      · exact ht x hx
      · simp at hx; simp [hx]
    · intro _ hk
      simpa [locksOk, head, hc] using hk

/-- A QUEUED head course leaves the queue (R75). -/
theorem Kept.discard (h : w.head = some .queued) : w.Kept { w with courses := w.courses.tail } := by
  obtain ⟨required, rest, hc⟩ := head_eq_some h
  have hk : w.locksOk → w.unlocked = true ∧ w.working = false ∧ w.stroke = false := by simp [locksOk, h]
  rcases rest with _ | ⟨⟨st, r⟩, rest⟩
  · refine ⟨fun _ => by simp [strokeOk, hc], fun _ hl => ?_⟩
    simpa [locksOk, head, hc] using hk hl
  · have hq : w.strokeOk → st = .queued := by
      simp only [strokeOk, hc]; rintro ⟨ht, -⟩; simpa using ht (st, r)
    constructor
    · intro hs
      have hst := hq hs
      subst hst
      simp only [strokeOk, hc, List.tail_cons] at hs ⊢
      obtain ⟨ht, hl, -⟩ := hs
      exact ⟨fun x hx => ht x (by simp [hx]), hl, by simp [supports]⟩
    · intro hs hl
      have hst := hq hs
      subst hst
      simpa [locksOk, head, hc] using hk hl

/-- A QUEUED head course enters ARMING, its conditions met (R125, R127). -/
theorem Kept.arm {required : Int} {rest : List (CourseState × Int)} (hc : w.courses = (.queued, required) :: rest)
    (hr : w.ready = true) (hk : w.rackKnown = true) (hq : w.racking = required) (hs : w.supply = .on) :
    w.Kept { w.headTo .arming with working := true } := by
  constructor
  · simp only [strokeOk, supports, hc, headTo]
    rintro ⟨ht, hl, -⟩
    exact ⟨ht, hl, fun _ => ⟨hr, hk, hq⟩, fun _ => hs, by simp, by simp⟩
  · intro _ hl
    have hl : w.unlocked = true ∧ w.working = false ∧ w.stroke = false := by simpa [locksOk, head, hc] using hl
    simp [locksOk, headTo, head, hc, hl]

/-- An arming refused at once leaves a QUEUED head course as it stood (R136). -/
theorem Kept.refuse (h : w.head = some .queued) : w.Kept ({ w.headTo .arming with working := true }.requeued) := by
  obtain ⟨required, rest, hc⟩ := head_eq_some h
  constructor
  · simp only [strokeOk, supports, requeued, headTo, hc]
    exact id
  · intro _ hl
    have hl : w.unlocked = true ∧ w.working = false ∧ w.stroke = false := by simpa [locksOk, h] using hl
    simp [locksOk, headTo, head, requeued, hc, hl]

/-- An ARMING head course becomes ARMED (R135). -/
theorem Kept.grant (h : w.head = some .arming) (hv : w.valid = true) :
    w.Kept { w.headTo .armed with working := false } := by
  obtain ⟨required, rest, hc⟩ := head_eq_some h
  constructor
  · simp only [strokeOk, supports, headTo, hc]
    rintro ⟨ht, hl, h1, h2, -⟩
    exact ⟨ht, hl, fun _ => h1 (by decide), fun _ => h2 (by decide), fun _ => hv, by simp⟩
  · intro _ hl
    have hl : w.working = true ∧ w.stroke = false := by simpa [locksOk, h] using hl
    simp [locksOk, headTo, head, hc, hl]

/-- An ARMED or a FAULTED head course becomes KNITTING, with its stroke record (R149, R167). -/
theorem Kept.knit (h : w.head = some .armed ∨ w.head = some .faulted) (hv : w.valid = true) (hs : w.supply = .on)
    (hl : w.latch = false) : w.Kept { w.headTo .knitting with stroke := true } := by
  obtain ⟨st, hst⟩ : ∃ st, w.head = some st := h.elim (fun h => ⟨_, h⟩) fun h => ⟨_, h⟩
  obtain ⟨required, rest, hc⟩ := head_eq_some hst
  have hnq : st ≠ .queued := by rintro rfl; simp [hst] at h
  constructor
  · simp only [strokeOk, supports, headTo, hc]
    rintro ⟨ht, hlive, h1, -⟩
    exact ⟨ht, hlive, fun _ => h1 hnq, fun _ => hs, fun _ => hv, fun _ => hl⟩
  · intro _ hk
    have hw : w.working = false := by
      rcases h with h | h <;> simp [locksOk, h] at hk <;> exact hk.1
    simp [locksOk, headTo, head, hc, hw]

end Standing

variable {s t : State}

/-! ## The rules of the commands -/

theorem ConditionsKept.softReset (s : State) : ConditionsKept s s.softReset :=
  .emptied (by simp [State.softReset, CourseQueue.initial]) (by simp [State.softReset])
    (by simp [State.softReset, ArmingEngine.initial]) (by simp [State.softReset, HeadSequencers.initial])

theorem checkCourse_queued {f : CourseFrame} {g : Geometry} {c : Course} (h : checkCourse f g = some c) :
    c.state = .queued := by
  unfold checkCourse at h
  split at h
  · split at h
    · split at h
      · cases h; rfl
      · cases h
    · cases h
  · cases h

theorem ConditionsKept.ownCommitCourse (record : CourseFrame) (hs : s.open) :
    ConditionsKept s (ownCommitCourse record s).2 := by
  unfold Machine.ownCommitCourse
  split
  · exact .of_eq rfl
  · next c hc =>
    split
    · exact .of_eq rfl
    · refine .of_standing ?_ (.commit (w := s.standing) (State.open_live hs) c.racking)
      have : c.standing = (.queued, c.racking) := by rw [Course.standing, checkCourse_queued hc]
      simp [this]
      rfl

theorem State.head_of_map {st : CourseState} (h : s.head?.map Course.state = some st) : s.headIs st = true := by
  simp [State.headIs, h]

theorem ConditionsKept.discardFaulted (h : s.headIs .faulted = true) : ConditionsKept s s.discardFaulted :=
  .of_standing (s.discardFaulted_standing (State.head?_ne_none_of_headIs h)) (.retire (.inr (State.headIs_iff.1 h)))

theorem ConditionsKept.ownDiscardHead (s : State) : ConditionsKept s (ownDiscardHead s).2 := by
  unfold Machine.ownDiscardHead
  split
  · exact .of_eq rfl
  · next h =>
    refine .of_standing (w := { s.standing with courses := s.standing.courses.tail }) ?_ (.discard ?_)
    · rw [State.clearHeadRefused_standing, State.withQueue_standing]
      exact congrArg (fun l => { s.standing with courses := l }) List.map_tail
    · rw [State.standing_head, h]
  · next h => exact .trans (.discardFaulted (State.head_of_map h)) (.of_eq rfl)
  · exact .of_eq rfl

theorem ConditionsKept.ownGoOnline (s : State) : ConditionsKept s (ownGoOnline s).2 := by
  unfold Machine.ownGoOnline
  split
  · exact .of_eq rfl
  · split
    · exact .of_standing (by simp [State.reviewCarriers]) (.ready s.standing)
    · exact .of_eq (by simp)

/-- No course is past QUEUED: there is no head course, or it is QUEUED. -/
theorem State.head_of_not_pastQueued (h : s.pastQueued = false) :
    s.standing.head = none ∨ s.standing.head = some .queued := by
  rw [← Bool.not_eq_true, State.pastQueued_iff] at h
  tauto

theorem ConditionsKept.ownGoOffline (s : State) : ConditionsKept s (ownGoOffline s).2 := by
  unfold Machine.ownGoOffline
  split
  · exact .of_eq rfl
  · next h =>
    exact .of_standing (by simp) (.free (State.head_of_not_pastQueued (Bool.eq_false_iff.2 h)) false s.standing.rackKnown
      s.standing.racking)

theorem ConditionsKept.ownSetRacking (racking : Byte) (s : State) : ConditionsKept s (ownSetRacking racking s).2 := by
  unfold Machine.ownSetRacking
  split
  · exact .of_eq rfl
  · next h =>
    split
    · next r _ =>
      exact .of_standing (by simp; rfl) (.free (State.head_of_not_pastQueued (Bool.eq_false_iff.2 h)) s.standing.ready true r)
    · exact .of_eq rfl

theorem ConditionsKept.ownActuatorsOn (s : State) : ConditionsKept s (ownActuatorsOn s).2 := by
  unfold Machine.ownActuatorsOn
  split
  · exact .of_eq rfl
  · split
    · next h => exact .supply_of_ne (w := s.standing) (by rw [show s.standing.supply = s.supply from rfl, h]; decide) .waking
    · exact .of_eq rfl
    · exact .of_eq rfl

theorem ConditionsKept.ownActuatorsOff (s : State) : ConditionsKept s (ownActuatorsOff s).2 := by
  unfold Machine.ownActuatorsOff
  split
  · exact .of_eq rfl
  · next h =>
    simp only [Bool.or_eq_true, not_or, State.headIs_iff] at h
    obtain ⟨⟨h1, h2⟩, h3⟩ := h
    exact .supply (w := s.standing) h1 h2 h3 .standby

@[simp] theorem State.enterArming_standing (s : State) :
    s.enterArming.standing = { s.standing.headTo .arming with working := true } := by
  have hto := s.changeHead_standing_to (f := fun c => { c with state := .arming, grant := none }) (st := .arming)
    fun _ => rfl
  simp [State.enterArming, hto]

@[simp] theorem State.refuseArming_standing (s : State) (tag : BitVec 16) (r : ArmingRefusal) (n : Nat) :
    (s.refuseArming tag r n).standing = s.standing.requeued := by
  have hsame := s.changeHead_standing (f := fun c => { c with lastRefusal := some ⟨r, n⟩ }) fun _ => rfl
  have hw (u : State) : u.returnToQueued.arm.stage.isSome = false := by
    rw [show u.returnToQueued.arm.stage.isSome = u.returnToQueued.standing.working from rfl,
      State.returnToQueued_standing]
    rfl
  simp [State.refuseArming, hsame, hw]
  rfl

/-- Stage 1 passes only a course whose conditions hold (R127). -/
theorem State.conditions_eq_none {c : Course} (h : s.conditions c = none) :
    s.pos.rackKnown = true ∧ s.pos.racking = c.racking ∧ s.supply = .on := by
  unfold State.conditions at h
  split_ifs at h
  simp_all

theorem ConditionsKept.ownRequestStroke (s : State) : ConditionsKept s (ownRequestStroke s).2 := by
  unfold Machine.ownRequestStroke
  split
  · exact .of_eq rfl
  · next hm =>
    split
    · exact .of_eq rfl
    · next c hc =>
      split
      · exact .of_eq rfl
      · next hq =>
        have hst : c.state = .queued := by simpa using hq
        split
        · refine .of_standing (by simp) (.refuse ?_)
          rw [State.standing_head, hc, Option.map_some, hst]
        · next hn =>
          obtain ⟨hk, hr, hs⟩ := State.conditions_eq_none hn
          have hready : s.standing.ready = true := by
            have : s.geo.mode = .ready := by cases hmode : s.geo.mode <;> simp_all
            simp [State.standing, this]
          obtain ⟨rest, hcs⟩ : ∃ rest, s.queue.courses = c :: rest := List.head?_eq_some_iff.1 hc
          refine .of_standing s.enterArming_standing (.arm (required := c.racking)
            (rest := rest.map Course.standing) ?_ hready ?_ ?_ ?_)
          · simp [State.standing, hcs, Course.standing, hst]
          · exact hk
          · exact hr
          · exact hs

theorem ConditionsKept.ownBeginStroke (s : State) : ConditionsKept s (ownBeginStroke s).2 := by
  unfold Machine.ownBeginStroke
  split_ifs with ha hl hv hs
  case neg =>
    split
    · exact .of_eq rfl
    · next g _ =>
      split_ifs
      · have hto := s.changeHead_standing_to (f := fun c => { c with state := .knitting }) (st := .knitting) fun _ => rfl
        refine .trans (.of_standing (w := { s.standing.headTo .knitting with stroke := true }) ?_ (.knit (.inl ?_) ?_ ?_ ?_))
          (.examineCompletion _)
        · simp [hto]; exact ⟨rfl, rfl, rfl⟩
        · exact State.headIs_iff.1 (by simpa using ha)
        · exact eq_true_of_ne_false hv
        · exact not_not.1 hs
        · exact Bool.eq_false_iff.2 hl
      · exact .of_eq rfl
  all_goals exact .of_eq rfl

theorem ConditionsKept.reportBroken (s : State) (l : List Carrier) : ConditionsKept s (s.reportBroken l) := by
  unfold State.reportBroken
  split
  · exact .of_eq rfl
  · exact .trans (.of_eq (State.withFreeIndex_standing _ _)) (.strokeFault _ _ _ _)

theorem ConditionsKept.ownResumeStroke (s : State) : ConditionsKept s (ownResumeStroke s).2 := by
  unfold Machine.ownResumeStroke
  split
  · exact .of_eq rfl
  · next hf =>
    split
    · split_ifs with hr hl hv hs
      case neg r g c _ _ _ _ hq hb ha =>
        have hto := s.changeHead_standing_to (f := fun c => { c with state := .knitting }) (st := .knitting) fun _ => rfl
        refine .trans (.of_standing (w := { s.standing.headTo .knitting with stroke := true }) ?_ (.knit (.inr ?_) ?_ ?_ ?_))
          (.trans (.reportBroken _ _) (.examineCompletion _))
        · simp [hto]; exact ⟨rfl, rfl, rfl⟩
        · exact State.headIs_iff.1 (by simpa using hf)
        · exact eq_true_of_ne_false hv
        · exact not_not.1 hs
        · exact Bool.eq_false_iff.2 hl
      all_goals exact .of_eq rfl
    · exact .of_eq rfl

theorem ConditionsKept.ownAbandonStroke (s : State) : ConditionsKept s (ownAbandonStroke s).2 := by
  unfold Machine.ownAbandonStroke
  split
  · exact .of_eq rfl
  · exact .of_eq rfl
  · exact .of_eq rfl
  · next h => exact .returnToQueued (.inl (State.head_of_map h))
  · next h => exact .returnToQueued (.inr (State.head_of_map h))
  · next h => exact .discardFaulted (State.head_of_map h)

theorem ConditionsKept.ownClearStop (s : State) : ConditionsKept s (ownClearStop s).2 := by
  unfold Machine.ownClearStop
  split
  · exact .of_eq rfl
  · exact .unlatched s.standing

theorem loadCells_standing (s : State) (cells : List Colour) : (s.loadCells cells).2.standing = s.standing := rfl

theorem ownWriteRow_standing (row start : BitVec 16) (data : List Byte) (s : State) :
    (ownWriteRow row start data s).2.standing = s.standing := by
  unfold ownWriteRow; split <;> [(split <;> rfl); rfl]

theorem ownRowContinue_standing (data : List Byte) (s : State) : (ownRowContinue data s).2.standing = s.standing := by
  unfold ownRowContinue; split <;> rfl

theorem ownWriteTechnique_standing (table colour front back parity : Byte) (s : State) :
    (ownWriteTechnique table colour front back parity s).2.standing = s.standing := by
  unfold ownWriteTechnique; split <;> [(split <;> rfl); rfl]

theorem ownSetPointer_standing (pointer : Byte) (current low high : BitVec 16) (mode step : Byte) (s : State) :
    (ownSetPointer pointer current low high mode step s).2.standing = s.standing := by
  unfold ownSetPointer; split <;> rfl

theorem ownSetCarrier_standing (carrier : Byte) (position : BitVec 16) (s : State) :
    (ownSetCarrier carrier position s).2.standing = s.standing := by
  unfold ownSetCarrier
  split
  · rfl
  · dsimp only; split <;> [rfl; (split <;> [rfl; (split <;> simp)])]

theorem ownSetCarrierLimit_standing (carrier speed : Byte) (s : State) :
    (ownSetCarrierLimit carrier speed s).2.standing = s.standing := by
  unfold ownSetCarrierLimit; split <;> [rfl; (split <;> simp)]

theorem ownClearResumeRecord_standing (s : State) : (ownClearResumeRecord s).2.standing = s.standing := by
  unfold ownClearResumeRecord; split <;> [rfl; (dsimp only; split <;> simp)]

theorem ownSetGeometryField_standing (field index : Byte) (value : BitVec 32) (s : State) :
    (ownSetGeometryField field index value s).2.standing = s.standing := by
  unfold ownSetGeometryField; split <;> [rfl; (split <;> simp [State.geometryChanged])]

theorem ownStoreSettings_standing (s : State) : (ownStoreSettings s).2.standing = s.standing := by
  unfold ownStoreSettings; split <;> simp

theorem ownHomeArm_standing (s : State) : (ownHomeArm s).2.standing = s.standing := by
  unfold ownHomeArm; split <;> simp

theorem clearShown_standing (c : Carried) (s : State) : (clearShown c s).standing = s.standing := by
  unfold clearShown; split <;> simp

theorem clearFault_standing (p : Port) (c : Carried) (s : State) : (clearFault p c s).standing = s.standing := by
  unfold clearFault; split <;> [(split <;> simp); rfl]

theorem clearOutcomeReason_standing (c : Carried) (s : State) : (clearOutcomeReason c s).standing = s.standing := by
  unfold clearOutcomeReason; split <;> simp

theorem finishFetch_standing (formed : Formed) (s : State) : (finishFetch formed s).2.standing = s.standing := by
  unfold finishFetch; split <;> simp [finishRead]

theorem ConditionsKept.frameForm {c : Instr} {w : FrameForm} (h : frameForm c = some w) : w.Keeps ConditionsKept := by
  cases c with
  | readStatus port frame => cases h; exact fun _ u _ => .of_eq (clearShown_standing _ u)
  | readFault port frame => cases h; exact fun _ u _ => .of_eq (clearFault_standing _ _ u)
  | readGrant frame => cases h; exact fun _ u _ => .of_eq (clearOutcomeReason_standing _ u)
  | fetchCompletion frame => cases h; exact fun formed u _ => .of_eq (finishFetch_standing formed u)
  | exchangeCell frame row cell colour => cases h; exact fun _ _ _ => .of_eq rfl
  | conditionalExchangeCell frame row cell expected new => cases h; exact fun _ _ _ => .of_eq rfl
  | softReset port e =>
    cases h
    intro u _
    unfold ownSoftReset
    split
    · exact .of_eq rfl
    · exact .softReset u
  | writeRow e row start data => cases h; exact fun u _ => .of_eq (ownWriteRow_standing row start data u)
  | rowContinue e data => cases h; exact fun u _ => .of_eq (ownRowContinue_standing data u)
  | setPointer e p current low high mode step =>
    cases h; exact fun u _ => .of_eq (ownSetPointer_standing p current low high mode step u)
  | setGeometryField e field index value =>
    cases h; exact fun u _ => .of_eq (ownSetGeometryField_standing field index value u)
  | setCarrierLimit e carrier speed => cases h; exact fun u _ => .of_eq (ownSetCarrierLimit_standing carrier speed u)
  | setRacking e racking => cases h; exact fun u _ => .ownSetRacking racking u
  | setSpeedCap e speed => cases h; exact fun _ _ => .of_eq rfl
  | writeTechnique e table colour front back parity =>
    cases h; exact fun u _ => .of_eq (ownWriteTechnique_standing table colour front back parity u)
  | commitCourse e record => cases h; exact fun u hu => .ownCommitCourse record hu
  | discardHead e => cases h; exact fun u _ => .ownDiscardHead u
  | setZone e left right => cases h; exact fun _ _ => .of_eq rfl
  | setWantLevel e level => cases h; exact fun _ _ => .of_eq rfl
  | setCarrier e carrier position => cases h; exact fun u _ => .of_eq (ownSetCarrier_standing carrier position u)
  | clearResumeRecord e => cases h; exact fun u _ => .of_eq (ownClearResumeRecord_standing u)
  | goOnline e => cases h; exact fun u _ => .ownGoOnline u
  | goOffline e => cases h; exact fun u _ => .ownGoOffline u
  | storeSettings e => cases h; exact fun u _ => .of_eq (ownStoreSettings_standing u)
  | homeArm e => cases h; exact fun u _ => .of_eq (ownHomeArm_standing u)
  | actuatorsOn e => cases h; exact fun u _ => .ownActuatorsOn u
  | actuatorsOff e => cases h; exact fun u _ => .ownActuatorsOff u
  | requestStroke e => cases h; exact fun u _ => .ownRequestStroke u
  | beginStroke e => cases h; exact fun u _ => .ownBeginStroke u
  | abandonStroke e => cases h; exact fun u _ => .ownAbandonStroke u
  | resumeStroke e => cases h; exact fun u _ => .ownResumeStroke u
  | clearStop e => cases h; exact fun u _ => .ownClearStop u
  | unknownCommand port e code => cases h; trivial
  | _ => cases h <;> exact FrameForm.look_keeps ConditionsKept.frameFree _ _ _ _ _

/-! ## The stages of arming -/

/-- A stage that passes may lock and write the image; the engine works on (R126). -/
theorem ConditionsKept.passStage (ha : s.headIs .arming = true) (hw : s.arm.stage.isSome = true) {unlocked : Bool}
    (h : t.standing = { s.standing with unlocked := unlocked, working := true }) : ConditionsKept s t := by
  rw [State.headIs_iff] at ha
  refine .of_standing (w := { s.standing with unlocked := unlocked }) ?_ (.locks (by simp [ha]) (by simp [ha]) unlocked)
  rw [h, ← hw]
  rfl

/-- A stage that refuses returns the course to QUEUED (R136). -/
theorem ConditionsKept.refuseArming (ha : s.headIs .arming = true) (tag : BitVec 16) (r : ArmingRefusal) (n : Nat) :
    ConditionsKept s (s.refuseArming tag r n) :=
  .of_standing (s.refuseArming_standing tag r n) (.requeue (.inl (State.headIs_iff.1 ha)))

theorem ConditionsKept.atStage {stage : ArmingStage} {act : Course → State}
    (h : ∀ c, s.headIs .arming = true → s.arm.stage.isSome = true → ConditionsKept s (act c)) :
    ConditionsKept s (s.atStage stage act) := by
  rcases s.atStage_cases stage act with he | ⟨c, hc, ha, hs, he⟩
  · exact .of_eq (by rw [he])
  · rw [he]
    exact h c (State.head_of_map (by rw [hc, Option.map_some, ha])) (by rw [hs]; rfl)

section Stages
variable (c : Course) (ha : s.headIs .arming = true) (hw : s.arm.stage.isSome = true)
include ha hw

theorem ConditionsKept.lockAndResolve : ConditionsKept s (s.lockAndResolve c) := by
  have hsame (u : State) := u.changeHead_standing
    (f := fun c' => { c' with resolved := (resolveEntries c.resolved c.listed s.ptrs).2 }) fun _ => rfl
  exact .passStage ha hw (by simp [State.lockAndResolve, hsame]; rfl)

theorem ConditionsKept.clampZone : ConditionsKept s (s.clampZone c) := by
  unfold State.clampZone
  dsimp only
  split
  · exact .refuseArming ha _ _ _
  · exact .passStage ha hw (by simp; rfl)

theorem ConditionsKept.buildImage : ConditionsKept s (s.buildImage c) :=
  .passStage ha hw (by simp [State.buildImage]; rfl)

theorem ConditionsKept.checkPairs : ConditionsKept s (s.checkPairs c) := by
  unfold State.checkPairs
  split
  · exact .refuseArming ha _ _ _
  · exact .passStage ha hw (s.nextStage_standing _)

theorem ConditionsKept.planCarriers : ConditionsKept s (s.planCarriers c) := by
  unfold State.planCarriers
  split
  · exact .refuseArming ha _ _ _
  · exact .passStage ha hw (by simp; rfl)

theorem ConditionsKept.findTurningPoints : ConditionsKept s (s.findTurningPoints c) := by
  unfold State.findTurningPoints
  dsimp only
  split
  · exact .refuseArming ha _ _ _
  · split
    · exact .refuseArming ha _ _ _
    · exact .passStage ha hw (by simp; rfl)

theorem ConditionsKept.findSpeed : ConditionsKept s (s.findSpeed c) :=
  .passStage ha hw (by simp [State.findSpeed]; rfl)

omit hw in
theorem ConditionsKept.completeArming : ConditionsKept s (s.completeArming c) := by
  unfold State.completeArming
  split
  · exact .refuseArming ha _ _ _
  · next hv =>
    split
    · exact .refuseArming ha _ _ _
    · refine .of_standing (w := { s.standing.headTo .armed with working := false }) ?_ (.grant (State.headIs_iff.1 ha) ?_)
      · have hto := s.changeHead_standing_to (f := fun c' => { c' with
          state := .armed, lastRefusal := none,
          grant := some ⟨(s.grantRecord c).left, (s.grantRecord c).right, (s.grantRecord c).speed⟩ }) (st := .armed)
          fun _ => rfl
        simp [State.grantStroke, hto]
      · simp only [Bool.or_eq_true, not_or, Bool.not_eq_true', Bool.not_eq_false] at hv
        exact hv.2

end Stages

/-! ## Events -/

theorem Standing.requeued_head {w : Standing} {st : CourseState} (h : w.head = some st) :
    w.requeued.head = some .queued := by
  obtain ⟨required, rest, hc⟩ := Standing.head_eq_some h
  simp [Standing.requeued, Standing.headTo, Standing.head, hc]

/-- First the head course is taken out of the states that rest on P_VALID, then P_VALID goes. -/
theorem ConditionsKept.of_lost {w : Standing} (hw : s.standing.Kept w) (h : w.head ≠ some .armed)
    (h' : w.head ≠ some .knitting) (ht : t.standing = { w with valid := false }) : ConditionsKept s t :=
  .of_standing ht (.trans hw (.valid h h' false))

/-- The loss of P_VALID takes from the head course what rested on it (R17). -/
theorem ConditionsKept.losePosition (s : State) : ConditionsKept s s.losePosition := by
  unfold State.losePosition
  rw [← State.standing_head]
  dsimp only
  split
  · next h => exact .of_lost (.refl _) (by simp [h]) (by simp [h]) rfl
  · next h =>
    have hq := Standing.requeued_head h
    exact .of_lost (.requeue (.inr h)) (by simp [hq]) (by simp [hq]) (by simp; rfl)
  · next h =>
    have hf := Standing.faulted_head h
    have hk : (s.withPos { s.pos with valid := false }).headIs .knitting = true := State.headIs_iff.2 h
    exact .of_lost (.fault h) (by simp [hf]) (by simp [hf]) (by rw [State.strokeFault_standing, if_pos hk]; rfl)
  · next h1 h2 h3 => exact .of_lost (.refl _) h2 h3 rfl

theorem ConditionsKept.takeCount (s : State) (d : Int) : ConditionsKept s (s.takeCount d) := by
  unfold State.takeCount
  dsimp only
  split
  · exact .losePosition s
  · exact .after (.countChanged _ _) rfl

theorem ConditionsKept.encoderTransition (a b : Bool) {s t : State} (h : exec (.encoderTransition a b) s = .next t) :
    ConditionsKept s t := by
  cases h
  dsimp only
  split_ifs
  · exact .of_eq rfl
  · exact .of_eq rfl
  · exact .after (.losePosition _) rfl
  · exact .after (.takeCount _ _) rfl

theorem ConditionsKept.indexPulse {s t : State} (h : exec .indexPulse s = .next t) : ConditionsKept s t := by
  cases h
  split_ifs
  · exact .of_eq rfl
  · exact .trans (.of_standing (t := s.withPos { s.pos with
      count := s.geo.record.homeCount, valid := true, homing := false }) rfl (.homed s.standing)) (.countChanged _ _)
  · exact .losePosition s
  · exact .of_eq rfl

/-- STOP_IN taken: the latch is set under a KNITTING course only together with its fault (R160). -/
theorem ConditionsKept.takeStopIn (s : State) : ConditionsKept s s.takeStopIn := by
  have hstd : s.takeStopIn.standing =
      if s.setLatch.headIs .knitting then s.setLatch.standing.faulted else s.setLatch.standing :=
    s.setLatch.strokeFault_standing _ _ _
  rw [State.setLatch_standing] at hstd
  split at hstd
  · next hk =>
    rw [State.headIs_iff, State.setLatch_standing] at hk
    exact .of_standing hstd (.fault (w := s.standing) hk)
  · next hk =>
    rw [State.headIs_iff, State.setLatch_standing] at hk
    exact .of_standing hstd (.latch (w := s.standing) hk true)

/-- The warning leaves no head course that rests on supply or latch (R169). -/
theorem State.warnCourse_standing (s : State) : s.standing.Kept s.warnCourse.standing ∧
    s.warnCourse.standing.head ≠ some .arming ∧ s.warnCourse.standing.head ≠ some .armed ∧
    s.warnCourse.standing.head ≠ some .knitting := by
  unfold State.warnCourse
  rw [← State.standing_head]
  split
  · next h => exact ⟨.refl _, by simp [h]⟩
  · next h => exact ⟨.refl _, by simp [h]⟩
  · next h => exact ⟨ConditionsKept.returnToQueued (.inl (State.headIs_iff.2 h)), by simp [Standing.requeued_head h]⟩
  · next h => exact ⟨ConditionsKept.returnToQueued (.inr (State.headIs_iff.2 h)), by simp [Standing.requeued_head h]⟩
  · next h =>
    rw [State.strokeFault_standing, if_pos (State.headIs_iff.2 h)]
    exact ⟨.fault h, by simp [Standing.faulted_head h]⟩
  · next h => exact ⟨.refl _, by simp [h]⟩

theorem ConditionsKept.takePfw (s : State) : ConditionsKept s s.takePfw := by
  obtain ⟨hk, h1, h2, h3⟩ := s.warnCourse_standing
  refine .of_standing (w := { s.warnCourse.standing with latch := true, supply := .standby }) ?_
    (.trans hk (.trans (.latch h3 true)
      (.supply (w := { s.warnCourse.standing with latch := true }) h1 h2 h3 .standby)))
  simp [State.takePfw]

/-- RESET and the loss of power leave an empty queue and nothing locked, whatever comes of it then (R180). -/
theorem ConditionsKept.cleared {latch : Bool} {u : State} (s : State)
    (h : ∃ live ready, t.standing = { (u.clearVolatile latch).standing with live := live, ready := ready }) :
    ConditionsKept s t := by
  obtain ⟨live, ready, ht⟩ := h
  refine .of_standing ht (.emptied ?_ ?_ ?_ ?_)
  · simp [State.clearVolatile, CourseQueue.initial]
  · simp [State.clearVolatile, TechniqueMemory.initial]
  · simp [State.clearVolatile, ArmingEngine.initial]
  · simp [State.clearVolatile, HeadSequencers.initial]

theorem ConditionsKept.holdReset (s u : State) : ConditionsKept s u.holdReset :=
  .cleared (u := u) (latch := u.pins.stopIn) s ⟨_, _, State.withPhase_standing _ _⟩

@[simp] theorem State.recoverRetained_standing (s : State) : s.recoverRetained.standing = s.standing := by
  simp [State.recoverRetained]

theorem ConditionsKept.beginStartUp (s u : State) : ConditionsKept s u.beginStartUp :=
  .cleared (u := u) (latch := u.pins.stopIn) s ⟨_, _, by
    rw [State.beginStartUp, State.withPhase_standing, State.recoverRetained_standing, State.loadSettings,
      State.withGeo_standing]⟩

theorem ConditionsKept.powerLoss (h : exec .powerLoss s = .next t) : ConditionsKept s t := by
  have off : ConditionsKept s ((((s.clearVolatile false).withRetained s.retained.powerLost).withCarriers
      s.retained.powerLost.carriers).withPhase .off) := .cleared (u := s) (latch := false) s ⟨_, _, by simp; exact ⟨rfl, rfl⟩⟩
  cases h
  split
  · exact .of_eq rfl
  all_goals exact off

theorem ConditionsKept.stopInAssertion (h : exec .stopInAssertion s = .next t) : ConditionsKept s t := by
  cases h
  dsimp only
  split
  · exact .of_eq rfl
  · split
    · exact .after (.takeStopIn _) rfl
    · next hp => exact .latch_of_not_live (w := s.standing) (by simp [State.standing, State.live, hp]) true
    · exact .of_eq rfl
    · exact .of_eq rfl

/-- At the end of start-up the part stays live, and takes an asserted PFW and an asserted STOP_IN (R180). -/
theorem ConditionsKept.startUpEnd (h : exec .startUpEnd s = .next t) : ConditionsKept s t := by
  cases h
  split
  · next hp =>
    have hsame : ((s.withRetained s.retained.flush).withPhase .running).standing = s.standing := by
      rw [State.withPhase_standing, State.withRetained_standing,
        show s.standing = { s.standing with live := true } by simp [State.standing, State.live, hp]]
      rfl
    dsimp only
    split_ifs
    · exact .after (.trans (.takePfw _) (.takeStopIn _)) hsame
    · exact .after (.takePfw _) hsame
    · exact .after (.takeStopIn _) hsame
    · exact .of_eq hsame
  all_goals exact .of_eq rfl

theorem ConditionsKept.event {c : Instr} (hc : Machine.frameForm c = none) (h : exec c s = .next t) :
    ConditionsKept s t := by
  cases c with
  | storeWriteComplete => cases h; exact .of_eq (by split <;> rfl)
  | wakeComplete =>
    cases h
    split
    · next hw => exact .supply_of_ne (w := s.standing) (by simp [State.standing, hw]) .on
    all_goals exact .of_eq rfl
  | locksAndResolution => cases h; exact .atStage .lockAndResolve
  | zoneStage => cases h; exact .atStage .clampZone
  | imageStage => cases h; exact .atStage .buildImage
  | transferPairing => cases h; exact .atStage .checkPairs
  | carrierPlan => cases h; exact .atStage .planCarriers
  | extentAndTurningPoints => cases h; exact .atStage .findTurningPoints
  | speedClass => cases h; exact .atStage .findSpeed
  | completionAndGrant => cases h; exact .atStage fun c ha _ => .completeArming c ha
  | encoderTransition a b => exact .encoderTransition a b h
  | pulseEnd head => cases h; exact .of_eq (by split <;> rfl)
  | indexPulse => exact .indexPulse h
  | stopInAssertion => exact .stopInAssertion h
  | stopInRelease =>
    cases h
    dsimp only
    split <;> [exact .unlatched s.standing; exact .of_eq rfl; exact .of_eq rfl; exact .of_eq rfl]
  | yarnSensorBreak k =>
    cases h
    dsimp only
    split
    · exact .of_eq rfl
    · split
      · exact .after (.strokeFault _ _ _ _) rfl
      · exact .of_eq rfl
  | yarnSensorBreakEnd k => cases h; exact .of_eq rfl
  | pfwAssertion =>
    cases h
    dsimp only
    split
    · exact .of_eq rfl
    · split <;> [exact .after (.takePfw _) rfl; exact .of_eq rfl; exact .of_eq rfl; exact .of_eq rfl]
  | pfwRelease => cases h; exact .of_eq rfl
  | resumeRecordWriteComplete => cases h; exact .of_eq (by split <;> [(dsimp only; split <;> simp); rfl])
  | retainedWriteComplete => cases h; exact .of_eq (by split <;> [(split <;> simp); rfl])
  | powerOn =>
    cases h
    split <;> [split; exact .of_eq rfl; exact .of_eq rfl; exact .of_eq rfl]
    · exact .holdReset s s
    · exact .beginStartUp s s
  | powerLoss => exact .powerLoss h
  | resetAssertion =>
    cases h
    dsimp only
    split <;> [exact .of_eq rfl; exact .of_eq rfl; exact .holdReset s _; exact .holdReset s _]
  | resetRelease =>
    cases h
    dsimp only
    split <;> [exact .beginStartUp s _; exact .of_eq rfl; exact .of_eq rfl; exact .of_eq rfl]
  | startUpEnd => exact .startUpEnd h
  | backupSupplyFailure => cases h; exact .of_eq rfl
  | _ => cases hc

/-- Settles O56: every command's rule and every event keep both invariants of the standing. -/
theorem stepsKeepStrokeConditions : Obligations.StepsKeepStrokeConditions := by
  intro s t h
  obtain ⟨hstroke, hlocks⟩ : ConditionsKept s t :=
    step_keeps ConditionsKept.frameFree (fun _ _ => ConditionsKept.frameForm) (fun _ _ _ => ConditionsKept.event) h
  have hs : s.strokeOk → t.strokeOk := fun hs => State.strokeOk_iff.2 (hstroke (State.strokeOk_iff.1 hs))
  refine ⟨hs, fun ho hl => (State.locksOk_iff (hs ho)).2 (hlocks (State.strokeOk_iff.1 ho) ?_)⟩
  exact (State.locksOk_iff ho).1 hl

end Sys2Proof.Machine
end

section
/-! O3. Frames that are not carried out: answered BUSY, FRAME or UNKNOWN, or not taken (R173 to R175, R180). -/

namespace Sys2Proof.Machine

variable {s : State}

/-! ## What a frame of each form answers, by its end -/

/-- The end of a whole frame of a form; none for one part of a read frame. -/
def FrameForm.end? : FrameForm → Option FrameEnd
  | .write _ _ _ e => some e
  | .read _ _ _ _ _ (.whole e) => some e
  | .read _ _ _ _ _ _ => none
  | .unknown _ e => some e

/-- The port of a form. -/
def FrameForm.port : FrameForm → Port
  | .write f _ _ _ => f.port
  | .read f _ _ _ _ _ => f.port
  | .unknown port _ => port

/-- Whether R9 exempts the form from BUSY. -/
def FrameForm.exempt : FrameForm → Bool
  | .read _ exempt _ _ _ _ => exempt
  | _ => false

theorem FrameForm.take_of_not_live (hl : s.live = false) (w : FrameForm) : w.take s = s.ignoreFrame w.port := by
  cases w <;> simp [FrameForm.take, takeWrite, takeRead, takeUnknown, hl, FrameForm.port]

theorem FrameForm.take_tooSoon (hl : s.live = true) {w : FrameForm} {n : Nat} (he : w.end? = some (.tooSoon n)) :
    w.take s = s.missFrame w.port n := by
  cases w with
  | write f breaks own e => cases he; simp [FrameForm.take, takeWrite, hl, FrameForm.port]
  | unknown port e => cases he; simp [FrameForm.take, takeUnknown, hl, FrameForm.port]
  | read f exempt breaks form finish frame =>
    cases frame with
    | whole e => cases he; simp [FrameForm.take, takeRead, hl, FrameForm.port]
    | opened => cases he
    | closed e => cases he

theorem zeros_append (m n : Nat) : zeros m ++ zeros n = zeros (m + n) := List.replicate_append_replicate

/-- A frame answered BUSY: after the last result come zeros (R174, R175; log 9). -/
theorem FrameForm.take_busy (hl : s.live = true) {w : FrameForm} {e : FrameEnd} (he : w.end? = some e)
    (hne : ∀ n, e ≠ .tooSoon n) (hb : s.busy w.exempt = true) : ∃ n, w.take s = s.closeFrame w.port .busy (zeros n) := by
  cases w with
  | write f breaks own e' =>
    cases he
    replace hb : s.busy false = true := hb
    cases e with
    | fits => exact ⟨f.params, by simp [FrameForm.take, takeWrite, hl, hb, FrameForm.port]⟩
    | misfit bytes bits => exact ⟨bytes, by simp [FrameForm.take, takeWrite, hl, hb, FrameForm.port]⟩
    | tooSoon n => exact absurd rfl (hne n)
  | unknown port e' =>
    cases he
    replace hb : s.busy false = true := hb
    cases e with
    | fits => exact ⟨0, by simp [FrameForm.take, takeUnknown, hl, hb, FrameForm.port, zeros]⟩
    | misfit bytes bits => exact ⟨bytes, by simp [FrameForm.take, takeUnknown, hl, hb, FrameForm.port]⟩
    | tooSoon n => exact absurd rfl (hne n)
  | read f exempt breaks form finish frame =>
    replace hb : s.busy exempt = true := hb
    cases frame with
    | whole e' =>
      cases he
      cases e with
      | fits =>
        exact ⟨f.params + f.reply,
          by simp [FrameForm.take, takeRead, endRead, State.formReply, hl, hb, FrameForm.port, zeros_append]⟩
      | misfit bytes bits =>
        refine ⟨bytes, ?_⟩
        simp only [FrameForm.take, takeRead, endRead, State.formReply, hl, hb, FrameForm.port, zeros_append, if_true]
        simp [zeros]
      | tooSoon n => exact absurd rfl (hne n)
    | opened => cases he
    | closed e' => cases he

/-- A frame of a known command whose length does not fit is refused with FRAME (R173, R175). -/
theorem FrameForm.take_misfit (hl : s.live = true) {w : FrameForm} {bytes bits : Nat}
    (he : w.end? = some (.misfit bytes bits)) (hb : s.busy w.exempt = false) (hk : ∀ port e, w ≠ .unknown port e) :
    ∃ out, w.take s = s.closeFrame w.port .frame out := by
  cases w with
  | write f breaks own e =>
    cases he
    replace hb : s.busy false = false := hb
    exact ⟨zeros bytes, by simp [FrameForm.take, takeWrite, hl, hb, FrameForm.port]⟩
  | unknown port e => exact absurd rfl (hk port e)
  | read f exempt breaks form finish frame =>
    replace hb : s.busy exempt = false := hb
    cases frame with
    | whole e => cases he; exact ⟨_, by simp [FrameForm.take, takeRead, endRead, hl, hb, FrameForm.port]; rfl⟩
    | opened => cases he
    | closed e => cases he

/-! ## A command and its form -/

theorem frameForm_port {c : Instr} {w : FrameForm} (h : frameForm c = some w) : c.port? = some w.port := by
  cases c <;> cases h <;> rfl

theorem frameForm_exempt {c : Instr} {w : FrameForm} (h : frameForm c = some w) : w.exempt = c.exempt := by
  cases c <;> cases h <;> rfl

theorem frameForm_known {c : Instr} {w : FrameForm} (h : frameForm c = some w) (hs : c.shape.isSome = true)
    (port : Port) (e : FrameEnd) : w ≠ .unknown port e := by
  rintro rfl
  cases c <;> cases h
  cases hs

/-- The form of a command of a port. -/
theorem frameForm_of_port {c : Instr} {p : Port} (h : c.port? = some p) : ∃ w, frameForm c = some w ∧ w.port = p := by
  have hs : (frameForm c).isSome = true := by rw [frameForm_isSome, h]; rfl
  obtain ⟨w, hw⟩ := Option.isSome_iff_exists.1 hs
  have := frameForm_port hw
  rw [h] at this
  exact ⟨w, hw, (Option.some.inj this).symm⟩

/-- A load frame of its own length but with too few or too many data bytes has a length that does not fit (R28, R30). -/
theorem loadEnd_cases (lo : Nat) (data : List Byte) (extra : Nat) (e : FrameEnd) :
    loadEnd lo data extra e = e ∨ (e = .fits ∧ ∃ n, loadEnd lo data extra e = .misfit n 0) := by
  unfold loadEnd
  cases e with
  | fits => dsimp only; split <;> simp
  | misfit bytes bits => exact .inl rfl
  | tooSoon n => exact .inl rfl

/-- A whole frame of a command ends in its form as it does, but for a load frame with a wrong number of data bytes. -/
theorem frameForm_end {c : Instr} {w : FrameForm} {e : FrameEnd} (h : frameForm c = some w) (he : c.end? = some e) :
    w.end? = some e ∨ (e = .fits ∧ ∃ n, w.end? = some (.misfit n 0)) := by
  cases c with
  | writeRow e' row start data =>
    cases h; cases he
    simpa [FrameForm.end?] using loadEnd_cases 0 data 4 e
  | rowContinue e' data =>
    cases h; cases he
    simpa [FrameForm.end?] using loadEnd_cases 1 data 0 e
  | unknownCommand port e' code => cases h; cases he; exact .inl rfl
  | readStatus port frame | readGeometryField port frame field index | readFault port frame | readRow frame row start count
  | testCell frame row cell | exchangeCell frame row cell colour | conditionalExchangeCell frame row cell expected new
  | scanRow frame row a b set direction | readTechnique frame table colour | readPointer frame pointer
  | fetchCompletion frame | readHeadCourse frame | readCarrier frame carrier | readResumeRecord frame | readPosition frame
  | readGrant frame => cases h; cases frame <;> cases he; exact .inl rfl
  | _ => cases h <;> cases he <;> exact .inl rfl

/-! ## The statement -/

theorem State.closeFrame_eq (s : State) (p : Port) (r : ResultCode) (l : List Byte) :
    s.closeFrame p r l = s.withPort p ⟨r, none, (s.port p).lastResult.code :: l⟩ := rfl

/-- Answered BUSY. -/
theorem exec_busy {c : Instr} {p : Port} {e : FrameEnd} (hp : c.port? = some p) (he : c.end? = some e)
    (hne : ∀ n, e ≠ .tooSoon n)
    (hb : s.phase = .startUp ∨ (s.phase = .running ∧ s.geo.storeBusy = true ∧ c.exempt = false)) :
    ∃ n, exec c s = .next (s.withPort p ⟨.busy, none, (s.port p).lastResult.code :: zeros n⟩) := by
  obtain ⟨w, hw, rfl⟩ := frameForm_of_port hp
  have hl : s.live = true := State.live_iff.2 (hb.imp id fun h => h.1)
  have hbusy : s.busy w.exempt = true := by
    rw [frameForm_exempt hw]
    rcases hb with hb | ⟨-, hst, hx⟩
    · simp [State.busy, hb]
    · simp [State.busy, hst, hx]
  obtain ⟨e', he', hne'⟩ : ∃ e', w.end? = some e' ∧ ∀ n, e' ≠ .tooSoon n := by
    rcases frameForm_end hw he with h | ⟨-, n, h⟩
    · exact ⟨e, h, hne⟩
    · exact ⟨_, h, by simp⟩
  obtain ⟨n, hn⟩ := FrameForm.take_busy hl he' hne' hbusy
  exact ⟨n, by rw [exec_frameForm hw, hn, State.closeFrame_eq]⟩

/-- Refused with FRAME. -/
theorem exec_misfit {c : Instr} {p : Port} {bytes bits : Nat} (hp : c.port? = some p) (hs : c.shape.isSome = true)
    (he : c.end? = some (.misfit bytes bits)) (hr : s.phase = .running)
    (hb : s.geo.storeBusy = false ∨ c.exempt = true) :
    ∃ out, exec c s = .next (s.withPort p ⟨.frame, none, (s.port p).lastResult.code :: out⟩) := by
  obtain ⟨w, hw, rfl⟩ := frameForm_of_port hp
  have hbusy : s.busy w.exempt = false := by
    rw [frameForm_exempt hw]
    exact State.busy_eq_false_iff.2 ⟨by simp [hr], hb⟩
  have he' : w.end? = some (.misfit bytes bits) := (frameForm_end hw he).resolve_right (by simp)
  obtain ⟨out, ho⟩ := FrameForm.take_misfit (State.live_iff.2 (.inr hr)) he' hbusy (frameForm_known hw hs)
  exact ⟨out, by rw [exec_frameForm hw, ho, State.closeFrame_eq]⟩

/-- A load frame of a wrong number of data bytes, with the bytes it clocks out. -/
theorem takeWrite_load_misfit (h : s.open) (f : FrameShape) (breaks : Bool) (own : State → ResultCode × State)
    {lo extra : Nat} {data : List Byte} (hd : ¬ (lo ≤ data.length ∧ data.length ≤ Config.maxLoadBytes)) :
    takeWrite f breaks own (loadEnd lo data extra .fits) s =
      s.closeFrame f.port .frame (zeros (extra + data.length)) := by
  simp [takeWrite, loadEnd, hd, State.open_live h, State.open_busy h]

theorem exec_tooSoon {c : Instr} {p : Port} {n : Nat} (hp : c.port? = some p) (he : c.end? = some (.tooSoon n))
    (hl : s.live = true) :
    exec c s = .next (s.withPort p ⟨(s.port p).lastResult, (s.port p).frame, List.replicate (n + 1) 0xFF⟩) := by
  obtain ⟨w, hw, rfl⟩ := frameForm_of_port hp
  have he' : w.end? = some (.tooSoon n) := (frameForm_end hw he).resolve_right (by simp)
  rw [exec_frameForm hw, FrameForm.take_tooSoon hl he']
  rfl

theorem exec_not_live {c : Instr} {p : Port} (hp : c.port? = some p) (hl : s.live = false) :
    exec c s = .next (s.withPort p ⟨(s.port p).lastResult, none, []⟩) := by
  obtain ⟨w, hw, rfl⟩ := frameForm_of_port hp
  rw [exec_frameForm hw, FrameForm.take_of_not_live hl]
  rfl

/-- A frame whose command byte names no command (R173, R175, R27). -/
theorem takeUnknown_misfit (h : s.open) (port : Port) (bytes bits : Nat) :
    takeUnknown port (.misfit bytes bits) s =
      (s.breakLoad (decide (port = .pattern))).closeFrame port .unknown (zeros bytes) := by
  simp [takeUnknown, State.open_live h, State.open_busy h]

/-- Settles O3, from what a frame of each form answers by its end. -/
theorem framesNotCarriedOut : Obligations.FramesNotCarriedOut := by
  refine ⟨fun c s p e hp he hne hb => exec_busy hp he hne hb,
    ⟨fun c s p bytes bits hp hs he hr hb => exec_misfit hp hs he hr hb, fun s row start data ho hd => ?_,
      fun s data ho hd => ?_⟩,
    ⟨fun c s p n hp he hl => exec_tooSoon hp he (State.live_iff.2 hl.symm), fun c s p hp hl => ?_⟩,
    fun s code bytes bits ho => ⟨?_, ?_⟩⟩
  · have hd : ¬ (0 ≤ data.length ∧ data.length ≤ Config.maxLoadBytes) := by simp [Config.maxLoadBytes]; omega
    exact congrArg _ (takeWrite_load_misfit ho _ _ _ hd)
  · have hd' : ¬ (1 ≤ data.length ∧ data.length ≤ Config.maxLoadBytes) := by
      rcases hd with rfl | hd <;> simp [Config.maxLoadBytes]; omega
    have := takeWrite_load_misfit (extra := 0) ho (Layout.rowContinue data.length) false (ownRowContinue data) hd'
    rw [Nat.zero_add] at this
    exact congrArg _ this
  · exact exec_not_live hp (by rcases hl with hl | hl <;> simp [State.live, hl])
  · exact congrArg _ (takeUnknown_misfit ho .pattern bytes bits)
  · exact congrArg _ (takeUnknown_misfit ho .drive bytes bits)

end Sys2Proof.Machine
end

section
/-! O20, O28, O29, O30. The position counter, homing, the racking and the actuator supply (R12 to R20, R144 to R146). -/

namespace Sys2Proof.Machine

variable {s : State}

/-! ## READ_POSITION (R19) -/

theorem byteOf_nat (n : Nat) : byteOf (n : Int) = BitVec.ofNat 8 n := BitVec.ofInt_natCast 8 n

/-- The reply of READ_POSITION, written out. -/
theorem formPosition_reply (s : State) : (formPosition s).reply =
    [BitVec.ofNat 8 (s.pos.count / 65536), BitVec.ofNat 8 (s.pos.count / 256), BitVec.ofNat 8 s.pos.count,
      (if s.pos.valid then 1 else 0) + (if s.pos.homing then 2 else 0), BitVec.ofInt 8 s.pos.racking] := by
  have hflags : flagBits [s.pos.valid, s.pos.homing] =
      (if s.pos.valid then 1 else 0) + (if s.pos.homing then 2 else 0) := by
    cases s.pos.valid <;> cases s.pos.homing <;> rfl
  have hcount : be3 s.pos.count = [BitVec.ofNat 8 (s.pos.count / 65536), BitVec.ofNat 8 (s.pos.count / 256),
      BitVec.ofNat 8 s.pos.count] := by
    simp only [be3, ← byteOf_nat]
    rfl
  simp only [formPosition, Formed.plain, hflags, hcount]
  rfl

/-- A whole frame of a read command that R9 exempts is answered also while the settings store is written. -/
theorem takeRead_exempt (h : s.phase = .running) (f : FrameShape) (form : State → Formed)
    (finish : Formed → State → ResultCode × State) :
    takeRead f true false form finish (.whole .fits) s =
      (finish (form s) s).2.closeFrame f.port (finish (form s) s).1 (zeros f.params ++ (form s).reply) := by
  simp [takeRead, endRead, State.formReply, State.live, State.busy, h]

/-- Settles O20, from the reply written out and R9's exemption. -/
theorem positionReads : Obligations.PositionReads := by
  intro s h
  have hread := takeRead_exempt h Layout.readPosition formPosition (finishRead formPosition noEffect)
  rw [finishRead_self, formPosition_reply] at hread
  exact congrArg _ hread

/-! ## HOME_ARM, SET_RACKING, ACTUATORS_ON, ACTUATORS_OFF -/

/-- A whole frame of a Drive Port command without a reply answers what its own rule answers. -/
theorem takeWrite_drive {t : State} {r : ResultCode} (h : s.open) {f : FrameShape} (hf : f.port = .drive)
    {own : State → ResultCode × State} (ho : own s = (r, t)) :
    takeWrite f false own .fits s = t.withDrivePort ⟨r, none, t.drivePort.lastResult.code :: zeros f.params⟩ := by
  rw [takeWrite_fits h, hf, State.breakLoad_false, ho]
  rfl

theorem exec_homeArm (h : s.open) : exec (.homeArm .fits) s =
    if (s.headIs .arming || s.headIs .knitting) = true then
      .next (s.withDrivePort ⟨.notNow, none, [s.drivePort.lastResult.code]⟩)
    else .next ((s.withPos { s.pos with homing := true }).withDrivePort
      ⟨.ok, none, [s.drivePort.lastResult.code]⟩) := by
  split
  next hc => exact congrArg _ (takeWrite_drive h rfl (if_pos hc))
  next hc => exact congrArg _ (takeWrite_drive h rfl (if_neg hc))

theorem exec_setRacking (h : s.open) (racking : Byte) : exec (.setRacking .fits racking) s =
    if s.pastQueued = true then .next (s.withDrivePort ⟨.notNow, none, s.drivePort.lastResult.code :: zeros 1⟩)
    else if -8 ≤ racking.toInt ∧ racking.toInt ≤ 8 then
      .next ((s.withPos { s.pos with racking := racking.toInt, rackKnown := true }).withDrivePort
        ⟨.ok, none, s.drivePort.lastResult.code :: zeros 1⟩)
    else .next (s.withDrivePort ⟨.range, none, s.drivePort.lastResult.code :: zeros 1⟩) := by
  split
  next hq => exact congrArg _ (takeWrite_drive h rfl (if_pos hq))
  next hq =>
    split
    next hr => exact congrArg _ (takeWrite_drive h rfl (by simp only [ownSetRacking, rackingOf, if_neg hq, if_pos hr]))
    next hr => exact congrArg _ (takeWrite_drive h rfl (by simp only [ownSetRacking, rackingOf, if_neg hq, if_neg hr]))

theorem exec_actuatorsOn (h : s.open) : exec (.actuatorsOn .fits) s =
    if s.pins.pfw = true then .next (s.withDrivePort ⟨.notNow, none, [s.drivePort.lastResult.code]⟩)
    else .next ((s.withSupply (if s.supply = .standby then .waking else s.supply)).withDrivePort
      ⟨.ok, none, [s.drivePort.lastResult.code]⟩) := by
  split
  next hp => exact congrArg _ (takeWrite_drive h rfl (if_pos hp))
  next hp =>
    split
    next hs => exact congrArg _ (takeWrite_drive h rfl (by simp only [ownActuatorsOn, if_neg hp, hs]))
    next hs =>
      have ho : ownActuatorsOn s = (.ok, s.withSupply s.supply) := by
        unfold ownActuatorsOn
        rw [if_neg hp]
        split
        · contradiction
        · rfl
        · rfl
      exact congrArg _ (takeWrite_drive h rfl ho)

theorem exec_actuatorsOff (h : s.open) : exec (.actuatorsOff .fits) s =
    if (s.headIs .arming || s.headIs .armed || s.headIs .knitting) = true then
      .next (s.withDrivePort ⟨.notNow, none, [s.drivePort.lastResult.code]⟩)
    else .next ((s.withSupply .standby).withDrivePort ⟨.ok, none, [s.drivePort.lastResult.code]⟩) := by
  split
  next hc => exact congrArg _ (takeWrite_drive h rfl (if_pos hc))
  next hc => exact congrArg _ (takeWrite_drive h rfl (if_neg hc))

theorem exec_wakeComplete (h : s.supply = .waking) : exec .wakeComplete s =
    .next (((s.withSupply .on).withDriveReasons { s.driveReasons with wakeDone := true }).withReasonCounts
      { s.reasonCounts with wakeDone := s.reasonCounts.wakeDone + 1 }) := by
  change execWakeComplete s = _
  rw [execWakeComplete, h]
  rfl

theorem exec_wakeComplete_idle (h : s.supply ≠ .waking) : exec .wakeComplete s = .next s := by
  change execWakeComplete s = _
  unfold execWakeComplete
  split
  · contradiction
  · rfl
  · rfl

/-! ## Counts and index pulses (R12 to R17) -/

/-- With no course KNITTING or FAULTED a change of P changes nothing else. -/
theorem State.countChanged_idle (hk : s.headIs .knitting = false) (hf : s.headIs .faulted = false) (p0 : Nat) :
    s.countChanged p0 = s := by
  unfold State.countChanged
  split
  · rfl
  next =>
    cases hc : s.head? with
    | none => rfl
    | some c => cases hst : c.state <;> simp_all [State.headIs]

/-- With a FAULTED head the attached carriers follow the catchers, and nothing else changes. -/
theorem State.countChanged_faulted {c : Course} (hc : s.head? = some c) (hf : c.state = .faulted) (p0 : Nat) :
    s.countChanged p0 = s.followCatchers c.direction p0 := by
  unfold State.countChanged
  split
  next h => simp [State.followCatchers, h]
  next => simp [hc, hf]

theorem State.followCatchers_eq (s : State) (d : Direction) (p0 : Nat) : s.followCatchers d p0 =
    if catcherIndex s.geo.record d p0 = catcherIndex s.geo.record d s.pos.count then s
    else s.changeCarriers fun _ e =>
      e.follow (s.geo.record.clampPosition (catcherIndex s.geo.record d s.pos.count)) := rfl

theorem State.followCatchers_get (d : Direction) (p0 : Nat) (k : Carrier) :
    (s.followCatchers d p0).carriers[k] =
      if catcherIndex s.geo.record d p0 = catcherIndex s.geo.record d s.pos.count then s.carriers[k]
      else s.carriers[k].follow (s.geo.record.clampPosition (catcherIndex s.geo.record d s.pos.count)) := by
  rw [State.followCatchers_eq]
  split
  · rfl
  · exact State.changeCarriers_get _ k

theorem State.followCatchers_sameBut (d : Direction) (p0 : Nat) :
    (s.followCatchers d p0).sameBut s [.carriers, .retained] := by
  rw [State.followCatchers_eq]
  split
  · intro b _
    cases b <;> rfl
  · exact State.changeCarriers_sameBut _

theorem State.followCatchers_retained (d : Direction) (p0 : Nat) :
    ∃ l, (s.followCatchers d p0).retained = { s.retained with writes := s.retained.writes ++ l } := by
  rw [State.followCatchers_eq]
  split
  · exact ⟨[], by simp⟩
  · exact State.changeCarriers_retained _

theorem State.takeCount_move {p : Nat} {d : Int} (hp : (p : Int) = (s.pos.count : Int) + d) (hmax : p ≤ Config.maxCount) :
    s.takeCount d = (s.withPos { s.pos with count := p }).countChanged s.pos.count := by
  have hin : ¬ ((p : Int) < 0 ∨ (Config.maxCount : Int) < p) := by omega
  simp only [State.takeCount, ← hp, if_neg hin, Int.toNat_natCast]

theorem State.takeCount_limit {d : Int} (h : (s.pos.count : Int) + d < 0 ∨ (Config.maxCount : Int) < s.pos.count + d) :
    s.takeCount d = s.losePosition := if_pos h

/-- One channel changes its level: a valid transition. -/
def oneLevelChanged (x y a b : Bool) : Prop := (a ≠ x ∧ b = y) ∨ (a = x ∧ b ≠ y)

/-- The table of R12, in the words of the statements. -/
theorem encoderStep_eq {x y a b : Bool} (h : oneLevelChanged x y a b) :
    encoderStep x y a b = if (a ≠ x ↔ a ≠ b) then 1 else -1 := by
  revert h
  unfold oneLevelChanged
  cases x <;> cases y <;> cases a <;> cases b <;> decide

/-- A valid transition of a part that counts is a count. -/
theorem exec_encoderTransition_valid {a b : Bool} (hl : s.live = true)
    (hv : oneLevelChanged s.pos.levelA s.pos.levelB a b) :
    exec (.encoderTransition a b) s =
      .next ((s.moved a b s.pos.count).takeCount (if (a ≠ s.pos.levelA ↔ a ≠ b) then 1 else -1)) := by
  have hne : ¬ (s.pos.levelA = a ∧ s.pos.levelB = b) := by
    rintro ⟨rfl, rfl⟩
    simp [oneLevelChanged] at hv
  have hone : ¬ (s.pos.levelA ≠ a ∧ s.pos.levelB ≠ b) := by
    rintro ⟨ha, hb⟩
    rcases hv with ⟨-, h⟩ | ⟨h, -⟩
    · exact hb h.symm
    · exact ha h.symm
  rw [← encoderStep_eq hv]
  change execEncoderTransition a b s = _
  simp only [execEncoderTransition, hl, if_neg hne, if_neg hone]
  rfl

/-- A count to a P in its range. -/
theorem exec_encoderTransition_counts {a b : Bool} {p : Nat} (h : s.countsTo a b p) :
    exec (.encoderTransition a b) s = .next ((s.moved a b p).countChanged s.pos.count) := by
  obtain ⟨hl, hv, hp, hmax⟩ := h
  rw [exec_encoderTransition_valid hl hv, State.takeCount_move (s := s.moved a b s.pos.count) hp hmax]
  rfl

/-- Settles O29, from what a count is and what follows it. -/
theorem encoderCounts : Obligations.EncoderCounts := by
  refine ⟨fun s a b p h => ?_, fun s a b h => ?_⟩
  · rw [exec_encoderTransition_counts h]
    refine ⟨⟨_, rfl, by rw [State.countChanged_pos]; rfl, by rw [State.countChanged_pins]; rfl⟩, fun hk hf => ?_,
      fun c hc hf => ?_⟩
    · rw [State.countChanged_idle (s := s.moved a b p) hk hf]
    · rw [State.countChanged_faulted (s := s.moved a b p) hc hf]
      exact ⟨_, rfl, fun k => State.followCatchers_get _ _ k, State.followCatchers_sameBut _ _,
        State.followCatchers_retained _ _⟩
  · change execEncoderTransition a b s = _
    rcases h with hl | heq
    · simp [execEncoderTransition, hl]
    · simp [execEncoderTransition, heq]

/-! ## HOME_COUNT and the index pulse (R16) -/

theorem exec_indexPulse_homing (hl : s.live = true) (hh : s.pos.homing = true) : exec .indexPulse s =
    .next ((s.withPos { s.pos with count := s.geo.record.homeCount, valid := true, homing := false }).countChanged
      s.pos.count) := by
  change execIndexPulse s = _
  simp only [execIndexPulse, hl, hh, if_true]
  rfl

/-- An index pulse with homing not armed. -/
theorem exec_indexPulse_check (hl : s.live = true) (hh : s.pos.homing = false) : exec .indexPulse s =
    .next (if s.pos.valid = true ∧
        (s.pos.count + s.geo.record.indexTol < s.geo.record.homeCount ∨
          s.geo.record.homeCount + s.geo.record.indexTol < s.pos.count) then s.losePosition else s) := by
  have habs : (s.geo.record.indexTol : Int) < |(s.pos.count : Int) - s.geo.record.homeCount| ↔
      (s.pos.count + s.geo.record.indexTol < s.geo.record.homeCount ∨
        s.geo.record.homeCount + s.geo.record.indexTol < s.pos.count) := by
    rw [lt_abs]
    omega
  change execIndexPulse s = _
  simp [execIndexPulse, hl, hh, habs]

/-- Settles O28, command by command. -/
theorem homingRackingAndSupply : Obligations.HomingRackingAndSupply := by
  refine ⟨fun s h => ⟨exec_homeArm h, exec_setRacking h⟩, fun s hl => ⟨fun hh => ?_, fun hh hnear => ?_⟩,
    fun s => ⟨exec_actuatorsOn, exec_actuatorsOff, exec_wakeComplete, exec_wakeComplete_idle⟩⟩
  · rw [exec_indexPulse_homing hl hh]
    refine ⟨⟨_, rfl, by simp⟩, fun hk hf => ?_⟩
    exact congrArg _ (State.countChanged_idle (by exact hk) (by exact hf) _)
  · rw [exec_indexPulse_check hl hh, if_neg]
    rintro ⟨hv, hfar⟩
    rcases hnear with hv' | hnear
    · simp [hv] at hv'
    · omega

/-! ## The loss of P_VALID (R13, R14, R16, R17) -/

theorem exec_encoderTransition_illegal {a b : Bool} (hl : s.live = true) (ha : a ≠ s.pos.levelA) (hb : b ≠ s.pos.levelB) :
    exec (.encoderTransition a b) s = .next (s.moved a b s.pos.count).losePosition := by
  change execEncoderTransition a b s = _
  simp only [execEncoderTransition, hl, if_neg fun h : s.pos.levelA = a ∧ s.pos.levelB = b => ha h.1.symm,
    if_pos (⟨ha.symm, hb.symm⟩ : s.pos.levelA ≠ a ∧ s.pos.levelB ≠ b)]
  rfl

/-- A count that would take P out of its range. -/
theorem exec_encoderTransition_limit {a b : Bool} (hl : s.live = true)
    (hv : oneLevelChanged s.pos.levelA s.pos.levelB a b)
    (hlim : (s.pos.count = 0 ∧ ¬ (a ≠ s.pos.levelA ↔ a ≠ b)) ∨ (s.pos.count = 1048575 ∧ (a ≠ s.pos.levelA ↔ a ≠ b))) :
    exec (.encoderTransition a b) s = .next (s.moved a b s.pos.count).losePosition := by
  rw [exec_encoderTransition_valid hl hv, State.takeCount_limit]
  have hcount : (s.moved a b s.pos.count).pos.count = s.pos.count := rfl
  rw [hcount]
  rcases hlim with ⟨h0, hdown⟩ | ⟨hmax, hup⟩
  · rw [if_neg hdown, h0]
    exact .inl (by decide)
  · rw [if_pos hup, hmax]
    exact .inr (by decide)

/-- The loss of P_VALID where no course is ARMING, ARMED or KNITTING. -/
theorem State.losePosition_idle (h1 : s.headIs .arming = false) (h2 : s.headIs .armed = false)
    (h3 : s.headIs .knitting = false) : s.losePosition = s.withPos { s.pos with valid := false } := by
  unfold State.losePosition
  cases hc : s.head? with
  | none => rfl
  | some c => cases hst : c.state <;> simp_all [State.headIs]

/-- The loss of P_VALID by the state of the head course. -/
theorem State.losePosition_cons {c : Course} {cs : List Course} (h : s.queue.courses = c :: cs) : s.losePosition =
    match c.state with
    | .arming => (s.withPos { s.pos with valid := false }).withArm { s.arm with positionLost := true }
    | .armed => (s.withPos { s.pos with valid := false }).returnToQueued.raiseGrantWithdrawn
    | .knitting => (s.withPos { s.pos with valid := false }).strokeFault .encoder none none
    | _ => s.withPos { s.pos with valid := false } := by
  simp only [State.losePosition, State.head?_cons h, Option.map_some]
  cases c.state <;> rfl

theorem State.raiseGrantWithdrawn_sameBut (s : State) :
    s.raiseGrantWithdrawn.sameBut s [.driveReasons, .reasonCounts] := by
  intro b hb
  cases b <;> simp_all [Block.same]

theorem State.returnToQueued_sameBut (s : State) :
    s.returnToQueued.sameBut s [.queue, .mem, .tech, .image, .arm, .driveReasons] := by
  intro b hb
  cases b <;> simp_all [Block.same]

/-- Settles O30, from the causes and from the loss by the state of the head course. -/
theorem positionLost : Obligations.PositionLost := by
  refine ⟨⟨fun s a b hl ha hb => exec_encoderTransition_illegal hl ha hb,
    fun s a b hl hv hlim => exec_encoderTransition_limit hl hv hlim, fun s hl hh hv hfar => ?_⟩,
    fun s => ⟨State.losePosition_idle, fun c cs h => ?_⟩⟩
  · rw [exec_indexPulse_check hl hh, if_pos ⟨hv, hfar⟩]
  · rw [State.losePosition_cons h]
    refine ⟨fun hst => by rw [hst], fun hst => by rw [hst], fun hst => ?_⟩
    rw [hst]
    obtain ⟨hq, hm, ht, hi, ha, hd⟩ :=
      State.returnToQueued_effect (s := s.withPos { s.pos with valid := false }) h
    refine ⟨by simp, by simpa using hq, by simpa using hm, by simpa using ht, by simpa using hi, by simpa using ha,
      by simp [hd, hst], by simp, fun b hb => ?_⟩
    cases b <;> simp_all [Block.same]

end Sys2Proof.Machine
end

section
/-! O17, O18. The geometry commands and the settings store (R2 to R10, R110). -/

namespace Sys2Proof.Machine

variable {s : State}

/-! ## Four signed bytes (R181) -/

/-- Two strings of bits side by side, as a number. -/
theorem append_byte_toNat {n : Nat} (x : BitVec n) (b : Byte) : (x ++ b).toNat = x.toNat * 256 + b.toNat := by
  rw [BitVec.toNat_append, ← Nat.shiftLeft_add_eq_or_of_lt b.isLt, Nat.shiftLeft_eq]

theorem byteOf_toNat (x : Int) : (byteOf x).toNat = (x % 256).toNat := by
  rw [byteOf, BitVec.toNat_ofInt]
  rfl

/-- The four bytes of a value carry it where it is in their range. -/
theorem be4_toInt {x : Int} (hlo : -2147483648 ≤ x) (hhi : x ≤ 2147483647) :
    (byteOf (x / 16777216) ++ byteOf (x / 65536) ++ byteOf (x / 256) ++ byteOf x).toInt = x := by
  rw [BitVec.toInt_eq_toNat_cond]
  simp only [append_byte_toNat, byteOf_toNat]
  omega

/-- A value in its field's range fits four signed bytes (R1, R181). -/
theorem GeometryField.hasValue_fits {f : GeometryField} {v : Int} (h : f.hasValue v) :
    -2147483648 ≤ v ∧ v ≤ 2147483647 := by
  cases f <;> simp only [GeometryField.hasValue] at h <;> omega

/-- Every value read of a block in range fits four signed bytes. -/
theorem GeometryBlock.fieldValue_fits {b : GeometryBlock} (hr : b.record.inRange) (hc : b.check ≤ 5) {f : GeometryField}
    {i : Nat} {v : Int} (h : b.fieldValue f i = some v) : -2147483648 ≤ v ∧ v ≤ 2147483647 := by
  by_cases hf : f = .geometryCheck
  · subst hf
    simp only [GeometryBlock.fieldValue, unindexed_eq_some, Option.some.injEq] at h
    omega
  · exact GeometryField.hasValue_fits ((Geometry.inRange_iff b).1 hr f i v hf h)

/-! ## SET_GEOMETRY_FIELD (R2, R4, R110) -/

/-- The carriers a change of the geometry record loses (R110). -/
theorem State.geometryChanged_get (g : Geometry) (k : Carrier) : (s.geometryChanged g).carriers[k] =
    if s.geo.record.carrierRail[k] ≠ g.carrierRail[k] ∨
        (s.geo.record.carriers < g.carriers ∧ s.geo.record.carriers ≤ k.val)
    then ⟨.unknown, s.carriers[k].rail⟩ else s.carriers[k] :=
  State.changeCarriers_get _ k

/-- A record's CARRIERS and CARRIER_RAIL as values read. -/
theorem GeometryBlock.fieldValue_carriers (b : GeometryBlock) : b.fieldValue .carriers 0 = some (b.record.carriers : Int) :=
  rfl

theorem GeometryBlock.fieldValue_carrierRail (b : GeometryBlock) (k : Carrier) :
    b.fieldValue .carrierRail (k.val + 1) = some ((b.record.carrierRail[k].val : Int) + 1) := by
  simp [GeometryBlock.fieldValue, Carrier.ofNumber_eq_some.2 (rfl : k.val + 1 = k.val + 1)]

/-- R110's condition on the record before and after a write of one field, in terms of the field. -/
theorem Geometry.setField_losesCarrier {b : GeometryBlock} {g : Geometry} {f : GeometryField} {i : Nat} {v : Int}
    (h : b.record.setField f i v = some g) (k : Carrier) :
    (g.carrierRail[k] ≠ b.record.carrierRail[k] ∨ (g.carriers < b.record.carriers ∧ g.carriers ≤ k.val)) ↔
      ((f = .carrierRail ∧ i = k.val + 1 ∧ v ≠ (b.record.carrierRail[k].val : Int) + 1) ∨
        (f = .carriers ∧ v < b.record.carriers ∧ v ≤ k.val)) := by
  have hrail := Geometry.setField_fieldValue h b rfl .carrierRail (k.val + 1)
  have hcount := Geometry.setField_fieldValue h b rfl .carriers 0
  rw [GeometryBlock.fieldValue_carrierRail, GeometryBlock.fieldValue_carrierRail] at hrail
  rw [GeometryBlock.fieldValue_carriers, GeometryBlock.fieldValue_carriers] at hcount
  have hindex : f.hasIndex i := ((Geometry.setField_isSome b.record f i v).1 (by rw [h]; rfl)).1
  have hne : g.carrierRail[k] ≠ b.record.carrierRail[k] ↔
      (g.carrierRail[k].val : Int) + 1 ≠ (b.record.carrierRail[k].val : Int) + 1 := by
    rw [Ne, Fin.ext_iff]; omega
  rw [hne]
  by_cases hfr : f = .carrierRail
  · subst hfr
    by_cases hi : i = k.val + 1 <;> simp_all [eq_comm]
  · by_cases hfc : f = .carriers
    · subst hfc
      have hi : i = 0 := hindex
      simp_all
      omega
    · simp_all [eq_comm]

/-- SET_GEOMETRY_FIELD in OFFLINE, where the field is written. -/
theorem exec_setGeometryField {field index : Byte} {value : BitVec 32} {f : GeometryField} {g : Geometry} (h : s.open)
    (hm : s.geo.mode = .offline) (hf : GeometryField.ofCode field = some f)
    (hg : s.geo.record.setField f index.toNat value.toInt = some g) :
    exec (.setGeometryField .fits field index value) s =
      .next (((s.withGeo { s.geo with record := g }).geometryChanged s.geo.record).withDrivePort
        ⟨.ok, none, s.drivePort.lastResult.code :: zeros 6⟩) := by
  have ho : ownSetGeometryField field index value s =
      (.ok, (s.withGeo { s.geo with record := g }).geometryChanged s.geo.record) := by
    simp [ownSetGeometryField, hm, hf, hg]
  exact congrArg _ (takeWrite_drive h rfl ho)

theorem exec_setGeometryField_range {field index : Byte} {value : BitVec 32} (h : s.open) (hm : s.geo.mode = .offline)
    (hno : ∀ f, GeometryField.ofCode field = some f → f.hasIndex index.toNat → ¬ f.hasValue value.toInt) :
    exec (.setGeometryField .fits field index value) s =
      .next (s.withDrivePort ⟨.range, none, s.drivePort.lastResult.code :: zeros 6⟩) := by
  have hnone : ((GeometryField.ofCode field).bind fun f => s.geo.record.setField f index.toNat value.toInt) = none := by
    rw [Option.bind_eq_none_iff]
    intro f hf
    rw [← Option.not_isSome_iff_eq_none, Geometry.setField_isSome]
    exact fun ⟨hi, hv⟩ => hno f hf hi hv
  have ho : ownSetGeometryField field index value s = (.range, s) := by
    simp only [ownSetGeometryField, hm, hnone]
    rfl
  exact congrArg _ (takeWrite_drive h rfl ho)

/-! ## READ_GEOMETRY_FIELD (R3) -/

/-- A whole frame of a both-port command that only reads. -/
theorem exec_readGeometryField {port : Port} {field index : Byte} (h : s.open) :
    exec (.readGeometryField port (.whole .fits) field index) s =
      .next ((s.breakLoad (decide (port = .pattern))).withPort port
        ⟨(formGeometryField field index s).result, none,
          (s.port port).lastResult.code :: ([0, 0] ++ (formGeometryField field index s).reply)⟩) := by
  have hread := takeRead_whole h (Layout.readGeometryField port) false (Port.breaksLoad port)
    (formGeometryField field index) (finishRead (formGeometryField field index) noEffect)
  rw [finishRead_self] at hread
  refine (congrArg Host.Outcome.next hread).trans ?_
  have hbusy : decide ((formGeometryField field index s).result ≠ .busy) = true := by
    unfold formGeometryField
    split <;> rfl
  rw [hbusy, Bool.and_true]
  cases port <;> rfl

theorem formGeometryField_eq {field index : Byte} {f : GeometryField} {v : Int}
    (hf : GeometryField.ofCode field = some f) (hv : s.geo.fieldValue f index.toNat = some v) :
    formGeometryField field index s = .plain (be4 v) .ok := by
  simp [formGeometryField, hf, hv]

theorem formGeometryField_range {field index : Byte}
    (hno : ∀ f, GeometryField.ofCode field = some f → ¬ f.hasIndex index.toNat) :
    formGeometryField field index s = .plain (zeros 4) .range := by
  have hnone : ((GeometryField.ofCode field).bind fun f => s.geo.fieldValue f index.toNat) = none := by
    rw [Option.bind_eq_none_iff]
    intro f hf
    rw [← Option.not_isSome_iff_eq_none, GeometryBlock.fieldValue_isSome]
    exact hno f hf
  simp only [formGeometryField, hnone]

/-- Settles O17, from what a write of one field does to every value read. -/
theorem geometryFields : Obligations.GeometryFields := by
  refine ⟨⟨fun s field index value f h hm hf hi hv => ?_, fun s field index value h hm hno => ?_,
    fun s field index value h hm => ?_⟩, fun s port field index h hr hc => ⟨fun f hf hi => ?_, fun hno => ?_⟩⟩
  · obtain ⟨g, hg⟩ := Option.isSome_iff_exists.1 ((Geometry.setField_isSome s.geo.record f index.toNat _).2 ⟨hi, hv⟩)
    refine ⟨_, g, exec_setGeometryField h hm hf hg, by simp, fun f' i => ?_, fun k => ?_, by simp, fun b hb => ?_, ?_⟩
    · simpa using Geometry.setField_fieldValue hg s.geo rfl f' i
    · simp only [← Geometry.setField_losesCarrier hg k]
      exact State.geometryChanged_get (s := s.withGeo { s.geo with record := g }) s.geo.record k
    · cases b <;> simp_all [Block.same]
    · exact State.changeCarriers_retained (s := s.withGeo { s.geo with record := g }) _
  · exact exec_setGeometryField_range h hm hno
  · exact congrArg _ (takeWrite_drive h rfl (if_pos hm))
  · obtain ⟨v, hv⟩ := Option.isSome_iff_exists.1 ((GeometryBlock.fieldValue_isSome s.geo f index.toNat).2 hi)
    obtain ⟨-, -, -, hrange, -⟩ := hr
    obtain ⟨hlo, hhi⟩ := GeometryBlock.fieldValue_fits hrange hc hv
    refine ⟨v, _, _, _, _, hv, be4_toInt hlo hhi, ?_⟩
    rw [exec_readGeometryField h, formGeometryField_eq hf hv]
    rfl
  · rw [exec_readGeometryField h, formGeometryField_range hno]
    rfl

/-! ## GO_ONLINE, GO_OFFLINE and the settings store (R5 to R8, R10) -/

theorem mem_allCarriers (k : Carrier) : k ∈ allCarriers := by
  revert k
  decide

/-- The cross checks in order, in the words of the statement (R5). -/
theorem Geometry.crossCheck_eq (g : Geometry) : g.crossCheck =
    if ¬ ((g.bedOrigin : Int) + (g.bedNeedles - 1) * g.cpn ≤ 1048575) then 1
    else if ¬ 2 * g.cpn ≤ g.margin then 2 else if ¬ g.backlash < g.cpn then 3
    else if ¬ g.travelLo < g.travelHi then 4 else if ∃ k : Carrier, g.rails < g.carrierRail[k].val + 1 then 5 else 0 := by
  have hrails : (allCarriers.any fun k => decide (g.rails < g.carrierRail[k].val + 1)) = true ↔
      ∃ k : Carrier, g.rails < g.carrierRail[k].val + 1 := by
    simp only [List.any_eq_true, decide_eq_true_eq, mem_allCarriers, true_and]
  simp only [Geometry.crossCheck, not_le, not_lt, hrails]

theorem State.reviewCarriers_get (k : Carrier) : s.reviewCarriers.carriers[k] = match s.carriers[k].status with
    | .parked p => if p < -32 ∨ (s.geo.record.bedNeedles : Int) + 31 < p then ⟨.unknown, s.carriers[k].rail⟩
      else s.carriers[k]
    | _ => s.carriers[k] :=
  (State.changeCarriers_get _ k).trans (by cases s.carriers[k].status <;> rfl)

/-- What GO_ONLINE touches where the cross checks hold. -/
theorem State.reviewed_sameBut (g : GeometryBlock) (p : PortState) :
    ((s.withGeo g).reviewCarriers.withDrivePort p).sameBut s [.geo, .carriers, .retained, .drivePort] := by
  intro b hb
  cases b <;> simp_all [Block.same]

theorem exec_goOnline_pass (h : s.open) (hm : s.geo.mode = .offline) (hc : s.geo.record.crossCheck = 0) :
    exec (.goOnline .fits) s = .next (((s.withGeo { s.geo with check := 0, mode := .ready }).reviewCarriers).withDrivePort
      ⟨.ok, none, [s.drivePort.lastResult.code]⟩) :=
  congrArg _ (takeWrite_drive h rfl (by simp [ownGoOnline, hm, hc]))

theorem exec_goOnline_fail (h : s.open) (hm : s.geo.mode = .offline) (hc : s.geo.record.crossCheck ≠ 0) :
    exec (.goOnline .fits) s = .next ((s.withGeo { s.geo with check := s.geo.record.crossCheck }).withDrivePort
      ⟨.geometry, none, [s.drivePort.lastResult.code]⟩) :=
  congrArg _ (takeWrite_drive h rfl (by simp [ownGoOnline, hm, hc]))

theorem exec_goOffline (h : s.open) : exec (.goOffline .fits) s =
    if s.pastQueued = true then .next (s.withDrivePort ⟨.notNow, none, [s.drivePort.lastResult.code]⟩)
    else .next ((s.withGeo { s.geo with mode := .offline }).withDrivePort
      ⟨.ok, none, [s.drivePort.lastResult.code]⟩) := by
  split
  next hq => exact congrArg _ (takeWrite_drive h rfl (if_pos hq))
  next hq => exact congrArg _ (takeWrite_drive h rfl (if_neg hq))

theorem exec_storeSettings (h : s.open) : exec (.storeSettings .fits) s =
    match s.geo.mode with
    | .ready => .next (s.withDrivePort ⟨.notNow, none, [s.drivePort.lastResult.code]⟩)
    | .offline => .next ((s.withGeo { s.geo with storeBusy := true }).withDrivePort
        ⟨.ok, none, [s.drivePort.lastResult.code]⟩) := by
  split
  next hm => exact congrArg _ (takeWrite_drive h rfl (if_pos hm))
  next hm => exact congrArg _ (takeWrite_drive h rfl (if_neg (by simp [hm])))

theorem exec_storeWriteComplete (s : State) : exec .storeWriteComplete s =
    .next (if s.geo.storeBusy then
      s.withGeo ⟨s.geo.record, s.geo.check, s.geo.mode, false, false, ⟨s.geo.record, true⟩⟩ else s) := rfl

/-- Settles O18, command by command. -/
theorem onlineAndSettings : Obligations.OnlineAndSettings := by
  refine ⟨⟨fun s n h hm hn => ?_, fun s h hm => ?_, fun s h => exec_goOffline h⟩, fun s h => exec_storeSettings h,
    fun s hb => ?_, fun s hb => ?_⟩
  · replace hn : n = s.geo.record.crossCheck := hn.trans (Geometry.crossCheck_eq _).symm
    subst hn
    refine ⟨fun hc => exec_goOnline_fail h hm hc, fun hc => ⟨_, exec_goOnline_pass h hm hc, by simp, fun k => ?_, by simp,
      State.reviewed_sameBut _ _, ?_⟩⟩
    · rw [State.withDrivePort_carriers, State.reviewCarriers_get]
      rfl
    · rw [State.withDrivePort_retained]
      exact State.changeCarriers_retained _
  · exact congrArg _ (takeWrite_drive h rfl (if_pos hm))
  · rw [exec_storeWriteComplete, if_pos hb]
  · rw [exec_storeWriteComplete, if_neg (by simp [hb])]

end Sys2Proof.Machine
end

section
/-! O42. The beginning of a stroke (R147 to R149, R155). -/

namespace Sys2Proof.Machine

variable {s : State}

/-- The part right after BEGIN_STROKE, before the completion condition is examined (R149). -/
def State.begun (s : State) (g : GrantRecord) : State :=
  ((s.changeHead fun c => { c with state := .knitting }).withPos { s.pos with homing := false }).withHeads
    { s.heads with stroke := some (s.beginRecord g) }

/-- The start side, in the words of the statement (R148). -/
theorem GrantRecord.onStartSide_iff (g : GrantRecord) (p : Int) :
    g.onStartSide p = true ↔ match g.direction with | .l2r => p ≤ g.start | .r2l => g.start ≤ p := by
  cases h : g.direction <;> simp [GrantRecord.onStartSide, h]

/-- The end point, in the words of the statement (R155). -/
theorem StrokeRecord.atEnd_iff (r : StrokeRecord) (p : Int) :
    r.atEnd p = true ↔ match r.direction with | .l2r => r.finish ≤ p | .r2l => p ≤ r.finish := by
  cases h : r.direction <;> simp [StrokeRecord.atEnd, h]

theorem State.begun_sameBut (g : GrantRecord) : (s.begun g).sameBut s [.queue, .pos, .heads] := by
  intro b hb
  cases b <;> simp_all [Block.same, State.begun]

/-- The completion condition right after the begin (R155). -/
theorem State.begun_examineCompletion {c : Course} {cs : List Course} (h : s.queue.courses = c :: cs) (g : GrantRecord) :
    (s.begun g).examineCompletion =
      if (s.beginRecord g).atEnd s.pos.count = true then (s.begun g).completeStroke else s.begun g := by
  have hk : (s.begun g).headIs .knitting = true := by
    simp [State.begun, State.headIs, State.head?, State.changeHead, h]
  have hr : (s.begun g).heads.stroke = some (s.beginRecord g) := rfl
  have hp : (s.begun g).pos.count = s.pos.count := rfl
  simp only [State.examineCompletion, hr, hk, hp, Bool.true_and]

/-- BEGIN_STROKE where every check passes (R148, R149). -/
theorem ownBeginStroke_begins {g : GrantRecord} (ha : s.headIs .armed = true) (hl : s.stops.latch = false)
    (hv : s.pos.valid = true) (hs : s.supply = .on) (hg : s.arm.outcome = some (.grant g))
    (hside : g.onStartSide s.pos.count = true) : ownBeginStroke s = (.ok, (s.begun g).examineCompletion) := by
  have hgrant : s.arm.grant = some g := by rw [ArmingEngine.grant, hg]
  simp only [ownBeginStroke, ha, hl, hv, hs, hgrant, hside, if_true]
  rfl

theorem ownBeginStroke_wrongSide {g : GrantRecord} (ha : s.headIs .armed = true) (hl : s.stops.latch = false)
    (hv : s.pos.valid = true) (hs : s.supply = .on) (hg : s.arm.outcome = some (.grant g))
    (hside : g.onStartSide s.pos.count = false) : ownBeginStroke s = (.wrongSide, s) := by
  have hgrant : s.arm.grant = some g := by rw [ArmingEngine.grant, hg]
  simp [ownBeginStroke, ha, hl, hv, hs, hgrant, hside]

/-- Settles O42, from the checks of R148 in order and the state right after the begin. -/
theorem beginStroke : Obligations.BeginStroke := by
  refine ⟨fun s c cs g ho h hc hg hl hv hs hside => ⟨s.begun g, State.changeHead_courses h _, rfl,
    ⟨s.beginRecord g, rfl, rfl, rfl, rfl, fun hd => by simp [State.beginRecord]⟩, State.begun_sameBut g,
    fun hshort => ?_, fun hend => ?_⟩, fun s ho => ⟨fun ha => ?_, fun ha => ⟨fun hl => ?_, fun hl hv => ?_,
      fun hl hv hs => ?_, fun g hg hl hv hs hside => ?_⟩⟩⟩
  · have ha : s.headIs .armed = true := by rw [State.headIs_cons h, hc]; rfl
    have hown := ownBeginStroke_begins ha hl hv hs hg ((GrantRecord.onStartSide_iff g _).2 hside)
    have hnot : ¬ (s.beginRecord g).atEnd s.pos.count = true := by
      rw [StrokeRecord.atEnd_iff]
      simp only [State.beginRecord]
      split <;> simp_all
    rw [State.begun_examineCompletion h, if_neg hnot] at hown
    exact congrArg _ (takeWrite_drive ho rfl hown)
  · have ha : s.headIs .armed = true := by rw [State.headIs_cons h, hc]; rfl
    have hown := ownBeginStroke_begins ha hl hv hs hg ((GrantRecord.onStartSide_iff g _).2 hside)
    rw [State.begun_examineCompletion h, if_pos ((StrokeRecord.atEnd_iff _ _).2 hend)] at hown
    have hw := takeWrite_drive ho (f := Layout.beginStroke) rfl hown
    have hport : (s.begun g).completeStroke.drivePort = s.drivePort := by simp [State.begun]
    rw [hport] at hw
    exact congrArg _ hw
  · exact congrArg _ (takeWrite_drive ho rfl (if_pos ha))
  · exact congrArg _ (takeWrite_drive ho rfl (by simp [ownBeginStroke, ha, hl]))
  · exact congrArg _ (takeWrite_drive ho rfl (by simp [ownBeginStroke, ha, hl, hv]))
  · exact congrArg _ (takeWrite_drive ho rfl (by simp [ownBeginStroke, ha, hl, hv, hs]))
  · have hnot : g.onStartSide s.pos.count = false := by
      rw [← Bool.not_eq_true, GrantRecord.onStartSide_iff]
      split <;> simp_all
    exact congrArg _ (takeWrite_drive ho rfl (ownBeginStroke_wrongSide ha hl hv hs hg hnot))

end Sys2Proof.Machine
end

section
/-! O52, O53, O59. RESET, the loss of power, start-up, and the state after reset (R10, R11, R107, R108, R169, R171, R180). -/

namespace Sys2Proof.Machine

variable {s : State}

/-! ## The volatile blocks at rest (R180) -/

/-- Every block that no store keeps is at its power-on value, the input levels and the stores of `s` given. -/
def State.AtRest (t s : State) : Prop :=
  t.geo = { s.geo with check := 0, mode := .offline, storeBusy := false, store :=
    { s.geo.store with checkGood := s.geo.store.checkGood && !s.geo.storeBusy } } ∧
  t.pos = ⟨0, false, false, 0, false, s.pins.encA, s.pins.encB⟩ ∧ t.mem = ⟨[], []⟩ ∧ t.load = ⟨0, 0, false, false⟩ ∧
  (∀ (b : Fin 8) (k : Colour), t.tech.entry b k = ⟨.miss, .miss, .all⟩) ∧ t.tech.locks = [] ∧
  (∀ p : Fin 8, t.ptrs[p] = ⟨0, 0, 511, .fixed, 1⟩) ∧ t.queue = ⟨[], [], 0, 1279, 2⟩ ∧ t.arm = .initial ∧
  t.image = .cleared ∧ t.heads = .initial ∧ (∀ r : Rail, t.catchers[r] = false) ∧ t.supply = .standby ∧
  t.patternPort = ⟨.busy, none, []⟩ ∧ t.drivePort = ⟨.busy, none, []⟩ ∧
  t.patternReasons = ⟨false, false, false, false⟩ ∧ t.driveReasons = ⟨false, false, false, false, false, false⟩

theorem TechniqueMemory.initial_entry (b : Fin 8) (k : Colour) :
    TechniqueMemory.initial.entry b k = ⟨.miss, .miss, .all⟩ := by
  simp [TechniqueMemory.entry, TechniqueMemory.initial, TechniqueEntry.blank]

theorem pointersInitial_get (p : Fin 8) : pointersInitial[p] = ⟨0, 0, 511, .fixed, 1⟩ := by
  simp [pointersInitial, Pointer.initial]

theorem catchersRaised_get (r : Rail) : catchersRaised[r] = false := by
  revert r
  decide

theorem State.clearVolatile_atRest (s : State) (latch : Bool) : (s.clearVolatile latch).AtRest s :=
  ⟨rfl, rfl, rfl, rfl, TechniqueMemory.initial_entry, rfl, pointersInitial_get, rfl, rfl, rfl, rfl, catchersRaised_get,
    rfl, rfl, rfl, rfl, rfl⟩

/-! The blocks that a store or a pin keeps, and the reasons' counts, stay. -/

@[simp] theorem State.clearVolatile_pins (latch : Bool) : (s.clearVolatile latch).pins = s.pins := by
  simp [State.clearVolatile]
@[simp] theorem State.clearVolatile_carriers (latch : Bool) : (s.clearVolatile latch).carriers = s.carriers := by
  simp [State.clearVolatile]
@[simp] theorem State.clearVolatile_retained (latch : Bool) : (s.clearVolatile latch).retained = s.retained := by
  simp [State.clearVolatile]
@[simp] theorem State.clearVolatile_reasonCounts (latch : Bool) :
    (s.clearVolatile latch).reasonCounts = s.reasonCounts := by
  simp [State.clearVolatile]
@[simp] theorem State.clearVolatile_freeIndex (latch : Bool) : (s.clearVolatile latch).freeIndex = s.freeIndex := by
  simp [State.clearVolatile]

/-! ## RESET and the loss of power (R107, R180) -/

theorem exec_resetAssertion (h : s.phase = .running ∨ s.phase = .startUp) :
    exec .resetAssertion s = .next (s.withPins { s.pins with reset := true }).holdReset := by
  change execResetAssertion s = _
  rcases h with h | h <;> simp only [execResetAssertion, h]

theorem exec_powerLoss (h : s.phase ≠ .off) : exec .powerLoss s =
    .next ((((s.clearVolatile false).withRetained s.retained.powerLost).withCarriers s.retained.carriers).withPhase .off) := by
  change execPowerLoss s = _
  unfold execPowerLoss
  split
  · contradiction
  · rfl
  · rfl
  · rfl

/-- Settles O52, from the volatile blocks at rest. -/
theorem resetAndPowerLoss : Obligations.ResetAndPowerLoss := by
  refine ⟨fun s h => ⟨_, exec_resetAssertion h, rfl, ?_, rfl, rfl, by simp [State.holdReset],
      by simp [State.holdReset], by simp [State.holdReset], by simp [State.holdReset]⟩,
    fun s h => ⟨_, exec_powerLoss h, rfl, ?_, by simp, rfl, rfl, rfl, by simp, by simp⟩, fun s h => ?_, fun s h => ?_⟩
  · exact State.clearVolatile_atRest (s.withPins { s.pins with reset := true }) s.pins.stopIn
  · exact State.clearVolatile_atRest s false
  · change execResetAssertion s = _
    rcases h with h | h <;> simp only [execResetAssertion, h]
  · change execPowerLoss s = _
    simp only [execPowerLoss, h]

/-! ## Start-up (R11, R108, R159, R171, R180) -/

/-- Whether the settings store's check word is good at the start-up; a write cut short has left it bad (R10, R11). -/
def State.settingsGood (s : State) : Bool := s.geo.store.checkGood && !s.geo.storeBusy

/-- Whether retained memory's check word is good at the start-up (R107, R108; log 15, log 16). -/
def State.retainedGood (s : State) : Bool := s.retained.flush.checkGood && !s.retained.backupFailed

theorem RetainedMemory.apply_backupFailed (m : RetainedMemory) (c : RetainedChange) :
    (m.apply c).backupFailed = m.backupFailed := by
  cases c <;> rfl

theorem RetainedMemory.flush_backupFailed (m : RetainedMemory) : m.flush.backupFailed = m.backupFailed := by
  have hfold (l : List RetainedChange) (n : RetainedMemory) :
      (l.foldl RetainedMemory.apply n).backupFailed = n.backupFailed := by
    induction l generalizing n with
    | nil => rfl
    | cons c cs ih => rw [List.foldl_cons, ih, RetainedMemory.apply_backupFailed]
  exact hfold m.writes m

/-- A carrier is recovered exactly if it was PARKED, is in use and stands on the recorded rail (R108). -/
theorem recoverEntry_eq (g : Geometry) (good : Bool) (k : Carrier) (e : CarrierEntry) : recoverEntry g good k e =
    if good = true ∧ k.val < g.carriers ∧ e.parkedAt.isSome = true ∧ e.rail = g.carrierRail[k] then e
    else ⟨.unknown, e.rail⟩ := by
  obtain ⟨st, rail⟩ := e
  cases st <;> simp [recoverEntry, CarrierEntry.parkedAt, CarrierEntry.lost]

/-- What the start-up of `s` begins with. -/
def State.StartsUp (s t : State) : Prop :=
  t.phase = .startUp ∧
  t.geo = {
    record := if s.settingsGood then s.geo.store.record else Geometry.defaults
    check := 0, mode := .offline, storeBusy := false, settingsBlank := !s.settingsGood
    store := { s.geo.store with checkGood := s.settingsGood } } ∧
  t.retained.lost = !s.retainedGood ∧
  (∀ k : Carrier, t.carriers[k] =
    if s.retained.flush.checkGood = true ∧ s.retained.backupFailed = false ∧ k.val < t.geo.record.carriers ∧
        s.retained.flush.carriers[k].parkedAt.isSome = true ∧
        s.retained.flush.carriers[k].rail = t.geo.record.carrierRail[k]
    then s.retained.flush.carriers[k] else ⟨.unknown, s.retained.flush.carriers[k].rail⟩) ∧
  t.stops = ⟨s.pins.stopIn, none, if s.retainedGood then s.retained.flush.resume else none⟩ ∧
  t.patternReasons = ⟨false, false, false, t.stops.resume.isSome⟩ ∧ t.queue = ⟨[], [], 0, 1279, 2⟩ ∧
  t.pos = ⟨0, false, false, 0, false, s.pins.encA, s.pins.encB⟩ ∧ t.mem = ⟨[], []⟩

/-- The recovery from retained memory, block by block (R108, R171). -/
theorem State.recoverRetained_effect (s : State) :
    s.recoverRetained.retained.lost = !s.retainedGood ∧
    (∀ k : Carrier, s.recoverRetained.carriers[k] =
      recoverEntry s.geo.record s.retainedGood k s.retained.flush.carriers[k]) ∧
    s.recoverRetained.stops =
      { s.stops with resume := if s.retainedGood then s.retained.flush.resume else none } ∧
    s.recoverRetained.patternReasons = { s.patternReasons with
      resumeValid := (if s.retainedGood then s.retained.flush.resume else none).isSome } := by
  simp [State.recoverRetained, State.retainedGood, RetainedMemory.flush_backupFailed]

theorem State.beginStartUp_startsUp (s : State) : s.StartsUp s.beginStartUp := by
  let u := (s.clearVolatile s.pins.stopIn).loadSettings
  have hretained : u.retained = s.retained := by simp [u, State.loadSettings]
  have hgood : u.retainedGood = s.retainedGood := by rw [State.retainedGood, hretained]; rfl
  obtain ⟨hlost, hcarriers, hstops, hreasons⟩ := u.recoverRetained_effect
  rw [hgood] at hlost hcarriers hstops hreasons
  rw [hretained] at hcarriers hstops hreasons
  have hresume : s.beginStartUp.stops.resume = if s.retainedGood then s.retained.flush.resume else none :=
    congrArg StopUnit.resume hstops
  refine ⟨rfl, rfl, hlost, fun k => ?_, hstops, ?_, rfl, rfl, rfl⟩
  · refine (hcarriers k).trans ((recoverEntry_eq _ _ _ _).trans ?_)
    simp only [State.retainedGood, Bool.and_eq_true, Bool.not_eq_true', and_assoc]
    rfl
  · rw [hresume]
    exact hreasons

@[simp] theorem State.beginStartUp_pins (s : State) : s.beginStartUp.pins = s.pins := by
  simp [State.beginStartUp, State.recoverRetained, State.loadSettings]

/-! ## Power-on and the release of RESET (R180) -/

theorem exec_powerOn (h : s.phase = .off) :
    exec .powerOn s = .next (if s.pins.reset then s.holdReset else s.beginStartUp) := by
  change execPowerOn s = _
  simp only [execPowerOn, h]

theorem exec_powerOn_on (h : s.phase ≠ .off) : exec .powerOn s = .next s := by
  change execPowerOn s = _
  unfold execPowerOn
  split
  · contradiction
  · rfl
  · rfl
  · rfl

theorem exec_resetRelease (h : s.phase = .held) :
    exec .resetRelease s = .next (s.withPins { s.pins with reset := false }).beginStartUp := by
  change execResetRelease s = _
  simp only [execResetRelease, h]

theorem exec_resetRelease_idle (h : s.phase ≠ .held) :
    exec .resetRelease s = .next (s.withPins { s.pins with reset := false }) := by
  change execResetRelease s = _
  unfold execResetRelease
  dsimp only
  split
  · contradiction
  · rfl
  · rfl
  · rfl

/-! ## The end of start-up (R159, R169, R180) -/

/-- Without a course the latch is all that STOP_IN sets. -/
theorem State.setLatch_empty (h : s.queue.courses = []) : s.setLatch = s.withStops { s.stops with latch := true } := by
  simp only [State.setLatch, State.headIs_nil h]
  rfl

theorem State.takeStopIn_empty (h : s.queue.courses = []) :
    s.takeStopIn = s.withStops { s.stops with latch := true } := by
  rw [State.takeStopIn, State.setLatch_empty h]
  exact State.strokeFault_idle (State.headIs_nil (by exact h) _) _ _ _

/-- Without a course the power-fail warning sets the latch, puts the supply in STANDBY and writes a resume record of the
pointers alone (R169, R170). -/
theorem State.takePfw_empty (h : s.queue.courses = []) : s.takePfw =
    ((s.withStops { s.stops with latch := true, resume := some ⟨none, [], none, s.ptrs⟩ }).withSupply
      .standby).withRetained { s.retained with writes := s.retained.writes ++ [.resume ⟨none, [], none, s.ptrs⟩] } := by
  have hhead : s.head? = none := by simp [State.head?, h]
  have hwarn : s.warnCourse = s := by simp [State.warnCourse, hhead]
  have hafter : ((s.withStops { s.stops with latch := true }).withSupply .standby).resumeRecordAfter none =
      ⟨none, [], none, s.ptrs⟩ := by
    simp only [State.resumeRecordAfter]
    rw [State.headIs_nil (by exact h)]
    simp [State.head?, h]
  simp only [State.takePfw, hwarn, State.setLatch_empty h, hhead, Option.map_none, hafter]
  rfl

/-- The part at the end of start-up, before PFW and STOP_IN are looked at. -/
def State.startedUp (s : State) : State := (s.withRetained s.retained.flush).withPhase .running

theorem exec_startUpEnd (h : s.phase = .startUp) : exec .startUpEnd s = .next
    (let t := if s.pins.pfw then s.startedUp.takePfw else s.startedUp
     if t.pins.stopIn then t.takeStopIn else t) := by
  change execStartUpEnd s = _
  simp only [execStartUpEnd, h]
  rfl

/-- The end of start-up with PFW not asserted. -/
theorem exec_startUpEnd_stopIn (h : s.phase = .startUp) (hp : s.pins.pfw = false) :
    exec .startUpEnd s = .next (if s.pins.stopIn then s.startedUp.takeStopIn else s.startedUp) := by
  have hno : ¬ s.pins.pfw = true := by simp [hp]
  rw [exec_startUpEnd h, if_neg hno]
  rfl

/-- The end of start-up with PFW asserted and no course: STOP_IN then adds nothing. -/
theorem exec_startUpEnd_pfw (h : s.phase = .startUp) (hq : s.queue.courses = []) (hp : s.pins.pfw = true) :
    exec .startUpEnd s = .next s.startedUp.takePfw := by
  have htaken := State.takePfw_empty (s := s.startedUp) hq
  rw [exec_startUpEnd h, if_pos hp]
  dsimp only
  split
  · rw [State.takeStopIn_empty (by rw [htaken]; exact hq), htaken]
    rfl
  · rfl

theorem exec_startUpEnd_idle (h : s.phase ≠ .startUp) : exec .startUpEnd s = .next s := by
  change execStartUpEnd s = _
  unfold execStartUpEnd
  split
  · contradiction
  · rfl
  · rfl
  · rfl

/-- What the power-fail warning touches without a course. -/
theorem State.takePfw_empty_sameBut (h : s.queue.courses = []) :
    s.takePfw.sameBut s [.supply, .stops, .retained] := by
  rw [State.takePfw_empty h]
  intro b hb
  cases b <;> simp_all [Block.same]

/-- Settles O53, from the recovery block by block and the end of start-up without a course. -/
theorem startUp : Obligations.StartUp := by
  refine ⟨⟨fun s h hr => ⟨_, exec_powerOn h, ?_⟩, fun s h => ⟨_, exec_resetRelease h, ?_, by simp⟩,
    fun s h hr => ⟨_, exec_powerOn h, ?_⟩, fun s h => exec_powerOn_on h, fun s h => exec_resetRelease_idle h⟩,
    fun s h hp hi => ?_, fun s h hq hp hi => ?_, fun s h hq hp => ⟨_, exec_startUpEnd_pfw h hq hp, ?_⟩,
    fun s h => exec_startUpEnd_idle h, fun s => rfl⟩
  · rw [if_neg (by simp [hr])]
    exact ⟨s.beginStartUp_startsUp, s.beginStartUp_pins⟩
  · exact (s.withPins { s.pins with reset := false }).beginStartUp_startsUp
  · rw [if_pos hr]
    exact ⟨rfl, rfl, rfl, by simp [State.holdReset]⟩
  · rw [exec_startUpEnd_stopIn h hp, if_neg (by simp [hi])]
    rfl
  · rw [exec_startUpEnd_stopIn h hp, if_pos hi, State.takeStopIn_empty (by exact hq)]
    rfl
  · have htaken := State.takePfw_empty (s := s.startedUp) hq
    refine ⟨by rw [htaken]; rfl, by rw [htaken]; rfl, by rw [htaken]; rfl, by rw [htaken]; rfl, by rw [htaken]; rfl,
      fun b hb => ?_⟩
    have hkept := State.takePfw_empty_sameBut (s := s.startedUp) hq b (fun h' => hb (by simp_all))
    cases b <;> simp_all [Block.same, State.startedUp]

end Sys2Proof.Machine
end

section
/-! O59. The state after reset meets every invariant: no course, no record waiting, no carrier placed (log 3, log 4). -/

namespace Sys2Proof.Machine

theorem State.reset_carrier (k : Carrier) : State.reset.carriers[k] = ⟨.unknown, 0⟩ := by
  simp [State.reset, carriersNeverPlaced, CarrierEntry.neverPlaced]

theorem State.reset_headIs (st : CourseState) : State.reset.headIs st = false := State.headIs_nil rfl st

theorem State.reset_attached (k : Carrier) : State.reset.attached k = false := by
  rw [State.attached, State.reset_carrier]
  rfl

/-- A table of carriers never placed has none PARKED. -/
theorem carriersNeverPlaced_not_parked (k : Carrier) (x : Int) : carriersNeverPlaced[k].status ≠ .parked x := by
  simp [carriersNeverPlaced, CarrierEntry.neverPlaced]

theorem State.reset_memoryOk : State.reset.memoryOk :=
  ⟨rfl, .inl ⟨by decide, by decide⟩⟩

theorem State.reset_pointersOk : State.reset.pointersOk := by
  intro p
  have hp : State.reset.ptrs[p] = ⟨0, 0, 511, .fixed, 1⟩ := pointersInitial_get p
  rw [hp]
  simp [Pointer.inBand, Config.rowCount]

theorem State.reset_rangesOk : State.reset.rangesOk :=
  ⟨by decide, by decide, by decide, Geometry.defaults_inRange, Geometry.defaults_inRange⟩

theorem State.reset_tailQueued : State.reset.tailQueued := by
  intro c hc
  cases hc

theorem State.reset_queueOk : State.reset.queueOk :=
  ⟨by decide, State.reset_tailQueued, rfl, by decide⟩

theorem State.reset_strokeOk : State.reset.strokeOk := by
  refine ⟨State.reset_tailQueued, fun _ => rfl, ?_, ?_, ?_, ?_⟩ <;> simp [State.pastQueued, State.reset_headIs]

theorem State.reset_locksOk : State.reset.locksOk :=
  ⟨State.reset_tailQueued, fun _ => ⟨rfl, rfl, rfl⟩, rfl, rfl⟩

theorem State.reset_carriersOk : State.reset.carriersOk := by
  have hplan : State.reset.image.plan = [] := rfl
  have hcatchers (r : Rail) : State.reset.catchers[r] = false := catchersRaised_get r
  refine ⟨State.reset_strokeOk, State.reset_locksOk, fun _ => ⟨fun k _ => ?_, fun k hk => ?_, fun k hk => ?_, fun k => ?_,
    ?_, fun e he => ?_, fun r => ?_⟩⟩
  · rw [State.reset_carrier]
  · rw [State.reset_carrier] at hk
    cases hk
  · rw [State.reset_carrier] at hk
    cases hk
  · simp [State.reset_attached, hplan]
  · simp [hplan]
  · simp [hplan] at he
  · simp [State.reset_attached, hcatchers]

theorem State.reset_linesOk : State.reset.linesOk := by
  unfold State.linesOk
  decide

theorem State.reset_extent : ∀ sys : System, State.reset.image.extents[sys] = none := by decide

theorem State.reset_latchOk : State.reset.latchOk := by
  refine ⟨fun _ => rfl, ?_, ?_⟩ <;> decide

theorem State.reset_parkedOk : State.reset.parkedOk := by
  have hplan : State.reset.image.plan = [] := rfl
  have hnone (k : Carrier) (x : Int) : State.reset.carriers[k].status ≠ .parked x := carriersNeverPlaced_not_parked k x
  refine ⟨State.reset_carriersOk, rfl, fun n => ?_, fun _ => ⟨fun j k x _ _ hj => absurd hj (hnone j x),
    fun k x hk => absurd hk (hnone k x), fun sys l r h => ?_, fun e he => ?_⟩⟩
  · have hwrites : State.reset.retained.writes = [] := rfl
    rw [hwrites, List.take_nil]
    exact fun j k x _ _ hj => absurd hj (carriersNeverPlaced_not_parked j x)
  · rw [State.reset_extent] at h
    cases h
  · simp [hplan] at he

/-- Settles O59, invariant by invariant. -/
theorem resetMeetsInvariants : Obligations.ResetMeetsInvariants :=
  ⟨State.reset_memoryOk, State.reset_pointersOk, State.reset_rangesOk, State.reset_queueOk, State.reset_strokeOk,
    State.reset_locksOk, State.reset_carriersOk, State.reset_latchOk, State.reset_linesOk,
    rfl, State.reset_parkedOk⟩

end Sys2Proof.Machine
end

section
/-! SUPPORT. The pattern cells and the technique tables: no operation but a load, an exchange, WRITE_TECHNIQUE and the loss
of what is volatile writes either, whatever it does to the locks (R26, R50, R103). -/

namespace Sys2Proof.Machine

/-! ## The technique tables, operation by operation -/

section Same
variable (s : State)

@[simp] theorem State.releaseCourse_tables : s.releaseCourse.tech.tables = s.tech.tables := rfl

@[simp] theorem State.returnToQueued_tables : s.returnToQueued.tech.tables = s.tech.tables := by
  unfold State.returnToQueued; dsimp only; split <;> simp

@[simp] theorem State.losePosition_tables : s.losePosition.tech.tables = s.tech.tables := by
  unfold State.losePosition; dsimp only; split <;> simp

@[simp] theorem State.retire_tables (o : CourseOutcome) : (s.retire o).tech.tables = s.tech.tables := by
  unfold State.retire; split <;> simp

@[simp] theorem State.discardFaulted_tables : s.discardFaulted.tech.tables = s.tech.tables := by
  simp [State.discardFaulted]

@[simp] theorem State.completeStroke_tables : s.completeStroke.tech.tables = s.tech.tables := by
  simp [State.completeStroke]

@[simp] theorem State.examineCompletion_tables : s.examineCompletion.tech.tables = s.tech.tables := by
  unfold State.examineCompletion; split <;> [(split <;> simp); rfl]

@[simp] theorem State.runWork_tables (p0 : Nat) (w : CountWork) : (s.runWork p0 w).tech.tables = s.tech.tables := by
  unfold State.runWork
  split
  · cases w with
    | select h => simp
    | catchers => dsimp only; split <;> simp
    | reversal => simp
    | complete => simp
  · rfl

@[simp] theorem runFold_tables (p0 : Nat) (l : List CountWork) :
    (l.foldl (fun u w => u.runWork p0 w) s).tech.tables = s.tech.tables := by
  induction l generalizing s with
  | nil => rfl
  | cons w ws ih => rw [List.foldl_cons, ih, State.runWork_tables]

@[simp] theorem State.strokeWork_tables (p0 : Nat) : (s.strokeWork p0).tech.tables = s.tech.tables := by
  unfold State.strokeWork
  split
  · rfl
  · dsimp only; split <;> simp

@[simp] theorem State.countChanged_tables (p0 : Nat) : (s.countChanged p0).tech.tables = s.tech.tables := by
  unfold State.countChanged
  split
  · rfl
  · split
    · rfl
    · split <;> simp

@[simp] theorem State.resume_tables (r : StrokeRecord) : (s.resume r).tech.tables = s.tech.tables := by
  simp [State.resume]

@[simp] theorem State.refuseArming_tables (tag : BitVec 16) (r : ArmingRefusal) (n : Nat) :
    (s.refuseArming tag r n).tech.tables = s.tech.tables := by simp [State.refuseArming]

@[simp] theorem State.warnCourse_tables : s.warnCourse.tech.tables = s.tech.tables := by
  unfold State.warnCourse; split <;> simp

@[simp] theorem State.takePfw_tables : s.takePfw.tech.tables = s.tech.tables := by simp [State.takePfw]

@[simp] theorem State.lockAndResolve_tables (c : Course) : (s.lockAndResolve c).tech.tables = s.tech.tables := by
  simp [State.lockAndResolve]

@[simp] theorem State.clampZone_tables (c : Course) : (s.clampZone c).tech.tables = s.tech.tables := by
  unfold State.clampZone; dsimp only; split <;> simp

@[simp] theorem State.checkPairs_tables (c : Course) : (s.checkPairs c).tech.tables = s.tech.tables := by
  unfold State.checkPairs; split <;> simp

@[simp] theorem State.planCarriers_tables (c : Course) : (s.planCarriers c).tech.tables = s.tech.tables := by
  unfold State.planCarriers; split <;> simp

@[simp] theorem State.findTurningPoints_tables (c : Course) : (s.findTurningPoints c).tech.tables = s.tech.tables := by
  unfold State.findTurningPoints; dsimp only; split <;> [simp; (split <;> simp)]

@[simp] theorem State.completeArming_tables (c : Course) : (s.completeArming c).tech.tables = s.tech.tables := by
  unfold State.completeArming; split <;> [simp; (split <;> simp)]

@[simp] theorem State.softReset_tables : s.softReset.tech.tables = s.tech.tables := by
  simp [State.softReset]

end Same

/-! ## The relation -/

/-- Every cell and every technique entry is as it was; the locks may have changed. -/
def StoresKept (s t : State) : Prop := t.mem.cells = s.mem.cells ∧ t.tech.tables = s.tech.tables

variable {s t u : State}

theorem StoresKept.refl (s : State) : StoresKept s s := ⟨rfl, rfl⟩

theorem StoresKept.trans (h : StoresKept s t) (h' : StoresKept t u) : StoresKept s u :=
  ⟨h'.1.trans h.1, h'.2.trans h.2⟩

/-- What leaves the figures leaves the cells. -/
theorem StoresKept.of_figures (hf : t.figures = s.figures) (ht : t.tech.tables = s.tech.tables) : StoresKept s t :=
  ⟨congrArg Figures.cells hf, ht⟩

/-- What leaves both blocks leaves what they store. -/
theorem StoresKept.of_blocks (hm : t.mem = s.mem) (ht : t.tech = s.tech) : StoresKept s t :=
  ⟨congrArg PatternMemory.cells hm, congrArg TechniqueMemory.tables ht⟩

theorem StoresKept.frameFree : FrameFree StoresKept where
  refl := .refl
  trans := .trans
  port s p x := .of_blocks (by simp) (by simp)
  breakLoad s b := .of_blocks (by simp) (by simp)
  pending s x := .of_blocks rfl rfl

/-! ## The rules of the commands -/

theorem StoresKept.ownSoftReset (s : State) : StoresKept s (ownSoftReset s).2 := by
  unfold Machine.ownSoftReset
  split
  · exact .refl s
  · exact ⟨by simp [State.softReset, State.releaseCourse], s.softReset_tables⟩

theorem StoresKept.ownSetPointer (pointer : Byte) (current low high : BitVec 16) (mode step : Byte) (s : State) :
    StoresKept s (ownSetPointer pointer current low high mode step s).2 := by
  unfold Machine.ownSetPointer; split <;> exact .refl _

theorem StoresKept.ownCommitCourse (record : CourseFrame) (s : State) :
    StoresKept s (ownCommitCourse record s).2 := by
  unfold Machine.ownCommitCourse; split <;> [exact .refl s; (split <;> exact .refl _)]

theorem StoresKept.ownDiscardHead (s : State) : StoresKept s (ownDiscardHead s).2 :=
  .of_figures (ownDiscardHead_figures s) (by unfold Machine.ownDiscardHead; split <;> simp [State.clearHeadRefused])

theorem StoresKept.ownSetCarrier (carrier : Byte) (position : BitVec 16) (s : State) :
    StoresKept s (ownSetCarrier carrier position s).2 :=
  .of_figures (ownSetCarrier_figures carrier position s) (by
    unfold Machine.ownSetCarrier
    split
    · rfl
    · dsimp only; split <;> [rfl; (split <;> [rfl; (split <;> simp)])])

theorem StoresKept.ownSetCarrierLimit (carrier speed : Byte) (s : State) :
    StoresKept s (ownSetCarrierLimit carrier speed s).2 := by
  unfold Machine.ownSetCarrierLimit; split <;> [exact .refl s; (split <;> exact .refl _)]

theorem StoresKept.ownClearResumeRecord (s : State) : StoresKept s (ownClearResumeRecord s).2 :=
  .of_figures (ownClearResumeRecord_figures s) (by
    unfold Machine.ownClearResumeRecord; split <;> [rfl; (dsimp only; split <;> simp)])

theorem StoresKept.ownSetGeometryField (field index : Byte) (value : BitVec 32) (s : State) :
    StoresKept s (ownSetGeometryField field index value s).2 := by
  unfold Machine.ownSetGeometryField
  split
  · exact .refl s
  · split
    · exact .of_blocks (by simp) (by simp)
    · exact .refl s

theorem StoresKept.ownGoOnline (s : State) : StoresKept s (ownGoOnline s).2 :=
  .of_figures (ownGoOnline_figures s) (by unfold Machine.ownGoOnline; split <;> [rfl; (split <;> simp)])

theorem StoresKept.ownGoOffline (s : State) : StoresKept s (ownGoOffline s).2 := by
  unfold Machine.ownGoOffline; split <;> exact .refl _

theorem StoresKept.ownStoreSettings (s : State) : StoresKept s (ownStoreSettings s).2 := by
  unfold Machine.ownStoreSettings; split <;> exact .refl _

theorem StoresKept.ownHomeArm (s : State) : StoresKept s (ownHomeArm s).2 := by
  unfold Machine.ownHomeArm; split <;> exact .refl _

theorem StoresKept.ownSetRacking (racking : Byte) (s : State) : StoresKept s (ownSetRacking racking s).2 := by
  unfold Machine.ownSetRacking; split <;> [exact .refl s; (split <;> exact .refl _)]

theorem StoresKept.ownActuatorsOn (s : State) : StoresKept s (ownActuatorsOn s).2 := by
  unfold Machine.ownActuatorsOn; split <;> [exact .refl s; (split <;> exact .refl _)]

theorem StoresKept.ownActuatorsOff (s : State) : StoresKept s (ownActuatorsOff s).2 := by
  unfold Machine.ownActuatorsOff; split <;> exact .refl _

theorem StoresKept.ownRequestStroke (s : State) : StoresKept s (ownRequestStroke s).2 :=
  .of_figures (ownRequestStroke_figures s) (by
    unfold Machine.ownRequestStroke
    split
    · rfl
    · split
      · rfl
      · split <;> [rfl; (split <;> simp)])

theorem StoresKept.ownBeginStroke (s : State) : StoresKept s (ownBeginStroke s).2 :=
  .of_figures (ownBeginStroke_figures s) (by
    unfold Machine.ownBeginStroke
    split_ifs
    case neg => split <;> [rfl; (dsimp only; split <;> simp)]
    all_goals rfl)

theorem StoresKept.ownAbandonStroke (s : State) : StoresKept s (ownAbandonStroke s).2 :=
  .of_figures (ownAbandonStroke_figures s) (by unfold Machine.ownAbandonStroke; split <;> simp)

theorem StoresKept.ownResumeStroke (s : State) : StoresKept s (ownResumeStroke s).2 :=
  .of_figures (ownResumeStroke_figures s) (by
    unfold Machine.ownResumeStroke
    split
    · rfl
    · split
      · split_ifs
        case neg => simp
        all_goals rfl
      · rfl)

theorem StoresKept.ownClearStop (s : State) : StoresKept s (ownClearStop s).2 := by
  unfold Machine.ownClearStop; split <;> exact .refl _

theorem StoresKept.clearShown (c : Carried) (s : State) : StoresKept s (clearShown c s) := by
  unfold Machine.clearShown; split <;> exact .refl _

theorem StoresKept.clearFault (p : Port) (c : Carried) (s : State) : StoresKept s (clearFault p c s) :=
  .of_figures (clearFault_figures p c s) (by unfold Machine.clearFault; split <;> [(split <;> simp); rfl])

theorem StoresKept.clearOutcomeReason (c : Carried) (s : State) : StoresKept s (clearOutcomeReason c s) := by
  unfold Machine.clearOutcomeReason; split <;> exact .refl _

theorem StoresKept.finishFetch (formed : Formed) (s : State) : StoresKept s (finishFetch formed s).2 := by
  unfold Machine.finishFetch; split <;> exact .refl _

/-- The commands that write a cell or a technique entry: the loads, the exchanges, WRITE_TECHNIQUE (R26, R50). -/
def writesStores : Instr → Bool
  | .writeRow _ _ _ _ => true
  | .rowContinue _ _ => true
  | .exchangeCell _ _ _ _ => true
  | .conditionalExchangeCell _ _ _ _ _ => true
  | .writeTechnique _ _ _ _ _ _ => true
  | _ => false

/-- No command's rule but those five writes a cell or a technique entry. -/
theorem StoresKept.frameForm {c : Instr} {w : FrameForm} (hc : writesStores c = false) (h : frameForm c = some w) :
    w.Keeps StoresKept := by
  cases c with
  | writeRow e row start data => cases hc
  | rowContinue e data => cases hc
  | exchangeCell frame row cell colour => cases hc
  | conditionalExchangeCell frame row cell expected new => cases hc
  | writeTechnique e table colour front back parity => cases hc
  | readStatus port frame => cases h; exact fun _ u _ => .clearShown _ u
  | readFault port frame => cases h; exact fun _ u _ => .clearFault _ _ u
  | readGrant frame => cases h; exact fun _ u _ => .clearOutcomeReason _ u
  | fetchCompletion frame => cases h; exact fun formed u _ => .finishFetch formed u
  | softReset port e => cases h; exact fun u _ => .ownSoftReset u
  | setPointer e p current low high mode step =>
    cases h; exact fun u _ => .ownSetPointer p current low high mode step u
  | setGeometryField e field index value => cases h; exact fun u _ => .ownSetGeometryField field index value u
  | setCarrierLimit e carrier speed => cases h; exact fun u _ => .ownSetCarrierLimit carrier speed u
  | setRacking e racking => cases h; exact fun u _ => .ownSetRacking racking u
  | setSpeedCap e speed => cases h; exact fun _ _ => .refl _
  | commitCourse e record => cases h; exact fun u _ => .ownCommitCourse record u
  | discardHead e => cases h; exact fun u _ => .ownDiscardHead u
  | setZone e left right => cases h; exact fun _ _ => .refl _
  | setWantLevel e level => cases h; exact fun _ _ => .refl _
  | setCarrier e carrier position => cases h; exact fun u _ => .ownSetCarrier carrier position u
  | clearResumeRecord e => cases h; exact fun u _ => .ownClearResumeRecord u
  | goOnline e => cases h; exact fun u _ => .ownGoOnline u
  | goOffline e => cases h; exact fun u _ => .ownGoOffline u
  | storeSettings e => cases h; exact fun u _ => .ownStoreSettings u
  | homeArm e => cases h; exact fun u _ => .ownHomeArm u
  | actuatorsOn e => cases h; exact fun u _ => .ownActuatorsOn u
  | actuatorsOff e => cases h; exact fun u _ => .ownActuatorsOff u
  | requestStroke e => cases h; exact fun u _ => .ownRequestStroke u
  | beginStroke e => cases h; exact fun u _ => .ownBeginStroke u
  | abandonStroke e => cases h; exact fun u _ => .ownAbandonStroke u
  | resumeStroke e => cases h; exact fun u _ => .ownResumeStroke u
  | clearStop e => cases h; exact fun u _ => .ownClearStop u
  | unknownCommand port e code => cases h; trivial
  | _ => cases h <;> exact FrameForm.look_keeps StoresKept.frameFree _ _ _ _ _

/-! ## Events -/

theorem StoresKept.atStage {stage : ArmingStage} {act : Course → State} (h : ∀ c, StoresKept s (act c)) :
    StoresKept s (s.atStage stage act) := by
  rcases s.atStage_cases stage act with he | ⟨c, -, -, -, he⟩
  · rw [he]; exact .refl s
  · rw [he]; exact h c

theorem StoresKept.countChanged (s : State) (p0 : Nat) : StoresKept s (s.countChanged p0) :=
  .of_figures (s.countChanged_figures p0) (s.countChanged_tables p0)

theorem StoresKept.losePosition (s : State) : StoresKept s s.losePosition :=
  .of_figures s.losePosition_figures s.losePosition_tables

theorem StoresKept.takeCount (s : State) (d : Int) : StoresKept s (s.takeCount d) := by
  unfold State.takeCount
  dsimp only
  split
  · exact .losePosition s
  · exact .trans (.of_blocks rfl rfl) (.countChanged _ _)

theorem StoresKept.encoderTransition (a b : Bool) (h : exec (.encoderTransition a b) s = .next t) : StoresKept s t := by
  cases h
  dsimp only
  split_ifs
  · exact .refl s
  · exact .refl s
  · exact .trans (.of_blocks rfl rfl) (.losePosition _)
  · exact .trans (.of_blocks rfl rfl) (.takeCount _ _)

theorem StoresKept.indexPulse (h : exec .indexPulse s = .next t) : StoresKept s t := by
  cases h
  split_ifs
  · exact .refl s
  · exact .trans (.of_blocks rfl rfl) (.countChanged _ _)
  · exact .losePosition s
  · exact .refl s

theorem StoresKept.startUpEnd (h : exec .startUpEnd s = .next t) : StoresKept s t := by
  cases h
  split
  · dsimp only; split_ifs <;> exact .of_figures (by simp) (by simp)
  all_goals exact .refl s

/-- No event but a power-on, a loss of power and RESET writes a cell or a technique entry. -/
theorem StoresKept.event {c : Instr} (hp : c.isPower = false) (hc : Machine.frameForm c = none)
    (h : exec c s = .next t) : StoresKept s t := by
  cases c with
  | powerOn => cases hp
  | powerLoss => cases hp
  | resetAssertion => cases hp
  | resetRelease => cases hp
  | storeWriteComplete => cases h; split <;> exact .refl _
  | wakeComplete => cases h; split <;> exact .refl _
  | locksAndResolution => cases h; exact .atStage fun c => ⟨by simp [State.lockAndResolve], s.lockAndResolve_tables c⟩
  | zoneStage => cases h; exact .atStage fun c => .of_figures (s.clampZone_figures c) (s.clampZone_tables c)
  | imageStage => cases h; exact .atStage fun c => .of_blocks (by simp) (by simp)
  | transferPairing => cases h; exact .atStage fun c => .of_figures (s.checkPairs_figures c) (s.checkPairs_tables c)
  | carrierPlan => cases h; exact .atStage fun c => .of_figures (s.planCarriers_figures c) (s.planCarriers_tables c)
  | extentAndTurningPoints =>
    cases h; exact .atStage fun c => .of_figures (s.findTurningPoints_figures c) (s.findTurningPoints_tables c)
  | speedClass => cases h; exact .atStage fun c => .of_blocks (by simp) (by simp)
  | completionAndGrant =>
    cases h; exact .atStage fun c => .of_figures (s.completeArming_figures c) (s.completeArming_tables c)
  | encoderTransition a b => exact .encoderTransition a b h
  | pulseEnd head => cases h; split <;> exact .refl _
  | indexPulse => exact .indexPulse h
  | stopInAssertion =>
    cases h; dsimp only; split <;> [exact .refl _; (split <;> exact .of_blocks (by simp) (by simp))]
  | stopInRelease => cases h; dsimp only; split <;> exact .of_blocks (by simp) (by simp)
  | yarnSensorBreak k =>
    cases h; dsimp only; split <;> [exact .refl _; (split <;> exact .of_blocks (by simp) (by simp))]
  | yarnSensorBreakEnd k => cases h; exact .refl _
  | pfwAssertion => cases h; dsimp only; split <;> [exact .refl _; (split <;> exact .of_figures (by simp) (by simp))]
  | pfwRelease => cases h; exact .refl _
  | resumeRecordWriteComplete => cases h; split <;> [(dsimp only; split <;> exact .refl _); exact .refl s]
  | retainedWriteComplete => cases h; split <;> [(split <;> exact .refl _); exact .refl s]
  | startUpEnd => exact .startUpEnd h
  | backupSupplyFailure => cases h; exact .refl _
  | _ => cases hc

end Sys2Proof.Machine
end

section
/-! SUPPORT. The forward write of a load, by the address of the cursor: one cell, a run of cells, where it stops, and what
it never touches (R24, R29, R31, R32). -/

namespace Sys2Proof.Machine

/-- The address after the last cell of the memory (R24). -/
abbrev memoryEnd : Nat := Config.rowCount * Config.cellCount

variable {locks : List Nat} {cs : List Colour} {m : Memory} {row cell : Nat}

/-- The row of an address. -/
theorem cellAddress_div (hc : cell < Config.cellCount) : cellAddress row cell / Config.cellCount = row := by
  simp only [cellAddress, Config.cellCount] at *; omega

theorem cellAddress_lt_memoryEnd (hc : cell < Config.cellCount) :
    cellAddress row cell < memoryEnd ↔ row < Config.rowCount := by
  simp only [cellAddress, memoryEnd, Config.cellCount, Config.rowCount] at *; omega

/-- A cell after a write to a cell, by their addresses. -/
theorem Memory.read_write_address (hm : Memory.wf m = true) (r j : Nat) (c : Colour) :
    Memory.read (Memory.write m row cell c) r j =
      if cellAddress r j = cellAddress row cell then c else Memory.read m r j :=
  Store.read_write (Memory.wf_store hm) _ _ _

/-- One cell is written at the cursor, which moves on by one cell, into the next row after the last (R29). -/
theorem forwardWrite_cons (c : Colour) (hc : cell < Config.cellCount) (hr : row < Config.rowCount) (hl : row ∉ locks) :
    ∃ row' cell', forwardWrite locks (c :: cs) m row cell = forwardWrite locks cs (Memory.write m row cell c) row' cell' ∧
      cellAddress row' cell' = cellAddress row cell + 1 ∧ cell' < Config.cellCount := by
  simp only [forwardWrite, if_neg (Nat.not_le.2 hr), if_neg hl]
  split
  · next hn => exact ⟨row, cell + 1, rfl, (Nat.add_assoc ..).symm, hn⟩
  · refine ⟨row + 1, 0, rfl, ?_, by decide⟩
    simp only [cellAddress, Config.cellCount] at *
    omega

/-- The memory `m'` is `m` with the first `n` of the cells written from address `a` on. -/
def Memory.WrittenFrom (m m' : Memory) (cells : List Colour) (a n : Nat) : Prop :=
  ∀ r j, j < Config.cellCount → Memory.read m' r j =
    if a ≤ cellAddress r j ∧ cellAddress r j < a + n then cells.getD (cellAddress r j - a) 0 else Memory.read m r j

/-- A run of `n` cells that meets no locked row and ends within the memory: the write goes on behind it with the other
cells (R29). -/
theorem forwardWrite_run {n : Nat} (hm : Memory.wf m = true) (hc : cell < Config.cellCount) (hn : n ≤ cs.length)
    (hend : cellAddress row cell + n ≤ memoryEnd)
    (hfree : ∀ i < n, (cellAddress row cell + i) / Config.cellCount ∉ locks) :
    ∃ m' row' cell', forwardWrite locks cs m row cell = forwardWrite locks (cs.drop n) m' row' cell' ∧
      cellAddress row' cell' = cellAddress row cell + n ∧ cell' < Config.cellCount ∧
      m.WrittenFrom m' cs (cellAddress row cell) n := by
  induction n generalizing cs m row cell with
  | zero => exact ⟨m, row, cell, rfl, (Nat.add_zero _).symm, hc, fun r j _ => (if_neg (by omega)).symm⟩
  | succ n ih =>
    obtain _ | ⟨c, cs⟩ := cs
    · cases hn
    have hr : row < Config.rowCount := (cellAddress_lt_memoryEnd hc).1 (by omega)
    have hl : row ∉ locks := by simpa [cellAddress_div hc] using hfree 0 (by omega)
    obtain ⟨row₁, cell₁, hstep, haddr, hc₁⟩ := forwardWrite_cons (cs := cs) (m := m) c hc hr hl
    obtain ⟨m', row', cell', hrun, haddr', hc', hread⟩ := ih (row := row₁) (Memory.wf_write hm c hr hc) hc₁
      (Nat.le_of_succ_le_succ hn) (by omega) fun i hi => by
        rw [haddr, Nat.add_assoc, Nat.add_comm 1]; exact hfree (i + 1) (by omega)
    refine ⟨m', row', cell', hstep.trans hrun, by omega, hc', fun r j hj => ?_⟩
    rw [hread r j hj, haddr, Memory.read_write_address hm]
    by_cases hfirst : cellAddress r j = cellAddress row cell
    · simp [hfirst]
    · by_cases hin : cellAddress row cell + 1 ≤ cellAddress r j ∧ cellAddress r j < cellAddress row cell + 1 + n
      · rw [if_pos hin, if_pos (by omega),
          show cellAddress r j - cellAddress row cell = cellAddress r j - (cellAddress row cell + 1) + 1 by omega]
        rfl
      · rw [if_neg hin, if_neg hfirst, if_neg (by omega)]

/-- With cells left, the write stops at the end of the memory with RANGE, and at a locked row with IN_USE (R31, R32). -/
theorem forwardWrite_stop (hcs : cs ≠ []) (hc : cell < Config.cellCount) (hend : cellAddress row cell ≤ memoryEnd)
    (hstop : cellAddress row cell / Config.cellCount ∈ locks ∨ cellAddress row cell = memoryEnd) :
    forwardWrite locks cs m row cell =
      (m, row, cell, if cellAddress row cell = memoryEnd then .range else .inUse) := by
  obtain ⟨c, cs, rfl⟩ := List.exists_cons_of_ne_nil hcs
  rw [cellAddress_div hc] at hstop
  have hlt := cellAddress_lt_memoryEnd (row := row) hc
  by_cases hr : row < Config.rowCount
  · have hne : cellAddress row cell ≠ memoryEnd := (hlt.2 hr).ne
    simp only [forwardWrite, if_neg (Nat.not_le.2 hr), if_pos (hstop.resolve_right hne), if_neg hne]
  · have heq : cellAddress row cell = memoryEnd := by omega
    simp only [forwardWrite, if_pos (Nat.not_lt.1 hr), if_pos heq]

/-- No cell of a locked row is written (R26, R32). -/
theorem forwardWrite_read_locked {r j : Nat} (hm : Memory.wf m = true) (hc : cell < Config.cellCount)
    (hr : r ∈ locks) (hj : j < Config.cellCount) :
    Memory.read (forwardWrite locks cs m row cell).1 r j = Memory.read m r j := by
  induction cs generalizing m row cell with
  | nil => rfl
  | cons c cs ih =>
    by_cases hrow : row < Config.rowCount
    · by_cases hl : row ∈ locks
      · simp only [forwardWrite, if_neg (Nat.not_le.2 hrow), if_pos hl]
      · obtain ⟨row', cell', hstep, -, hc'⟩ := forwardWrite_cons (cs := cs) (m := m) c hc hrow hl
        have hne : ¬(r = row ∧ j = cell) := fun h => hl (h.1 ▸ hr)
        rw [hstep, ih (Memory.wf_write hm c hrow hc) hc', Memory.read_write hm c hc hj, if_neg hne]
    · simp only [forwardWrite, if_pos (Nat.not_lt.1 hrow)]

theorem State.load_cell_lt {s : State} (h : s.memoryOk) : s.load.cell < Config.cellCount := by
  obtain ⟨-, ⟨-, hc⟩ | ⟨-, hc⟩⟩ := h
  · exact hc
  · rw [hc]; decide

/-- A load writes no cell of a locked row (R26, R32). -/
theorem State.loadCells_read_locked {s : State} (hs : s.memoryOk) (cells : List Colour) {r j : Nat}
    (hr : r ∈ s.mem.locks) (hj : j < Config.cellCount) :
    Memory.read (s.loadCells cells).2.mem.cells r j = Memory.read s.mem.cells r j :=
  forwardWrite_read_locked hs.1 (State.load_cell_lt hs) hr hj

end Sys2Proof.Machine
end

section
/-! O14. No locked row and no locked table changes but by a power-on, a loss of power or RESET: every other step either
writes no cell and no entry at all, or keeps the locks and writes around them (R26, R50, R103). -/

namespace Sys2Proof.Machine

variable {s t u : State}

/-- The locks stay, and no cell of a locked row and no entry of a locked table is written. -/
structure LockedKept (s t : State) : Prop where
  figures : FiguresKept s t
  rowLocks : t.mem.locks = s.mem.locks
  tableLocks : t.tech.locks = s.tech.locks
  rows : s.memoryOk → ∀ r ∈ s.mem.locks, ∀ j < Config.cellCount,
    Memory.read t.mem.cells r j = Memory.read s.mem.cells r j
  tables : ∀ b ∈ s.tech.locks, ∀ k : Colour, t.tech.entry b k = s.tech.entry b k

theorem LockedKept.of_blocks (hf : FiguresKept s t) (hm : t.mem = s.mem) (ht : t.tech = s.tech) : LockedKept s t where
  figures := hf
  rowLocks := by rw [hm]
  tableLocks := by rw [ht]
  rows _ _ _ _ _ := by rw [hm]
  tables _ _ _ := by rw [ht]

theorem LockedKept.refl (s : State) : LockedKept s s := .of_blocks (.of_eq rfl) rfl rfl

theorem LockedKept.trans (h : LockedKept s t) (h' : LockedKept t u) : LockedKept s u where
  figures := .trans h.figures h'.figures
  rowLocks := h'.rowLocks.trans h.rowLocks
  tableLocks := h'.tableLocks.trans h.tableLocks
  rows hs r hr j hj := (h'.rows (h.figures.1 hs) r (h.rowLocks ▸ hr) j hj).trans (h.rows hs r hr j hj)
  tables b hb k := (h'.tables b (h.tableLocks ▸ hb) k).trans (h.tables b hb k)

theorem LockedKept.frameFree : FrameFree LockedKept where
  refl := .refl
  trans := .trans
  port s p x := .of_blocks (FiguresKept.frameFree.port s p x) (by simp) (by simp)
  breakLoad s b := .of_blocks (FiguresKept.frameFree.breakLoad s b) (by simp) (by simp)
  pending s x := .of_blocks (.of_eq rfl) rfl rfl

/-- Cells in place of the cells, where at most one cell of a row that is not locked has been written. -/
theorem LockedKept.withCells {m : Memory} (h : m = s.mem.cells ∨ ∃ r j c, r < Config.rowCount ∧ j < Config.cellCount ∧
    r ∉ s.mem.locks ∧ m = Memory.write s.mem.cells r j c) : LockedKept s (s.withMem { s.mem with cells := m }) := by
  rcases h with rfl | ⟨r, j, c, hr, hj, hl, rfl⟩
  · exact .refl s
  · exact {
      figures := .withCells s fun hw => Memory.wf_write hw c hr hj
      rowLocks := rfl
      tableLocks := rfl
      rows := fun hs r' hr' j' hj' => by
        have hne : ¬(r' = r ∧ j' = j) := fun h => hl (h.1 ▸ hr')
        exact (Memory.read_write hs.1 c hj hj').trans (if_neg hne)
      tables := fun _ _ _ => rfl }

theorem LockedKept.loadCells (s : State) (cells : List Colour) : LockedKept s (s.loadCells cells).2 where
  figures := .loadCells s cells
  rowLocks := rfl
  tableLocks := rfl
  rows hs _ hr _ hj := State.loadCells_read_locked hs cells hr hj
  tables _ _ _ := rfl

/-! ## The five commands that write -/

theorem LockedKept.ownWriteRow (row start : BitVec 16) (data : List Byte) (s : State) :
    LockedKept s (ownWriteRow row start data s).2 := by
  unfold Machine.ownWriteRow
  split
  · next r j hr hj =>
    split
    · exact .refl s
    · refine .trans (t := s.withLoad ⟨r, j, true, false⟩) (.of_blocks ⟨fun h => ⟨h.1, .inl ?_⟩, id, id⟩ rfl rfl)
        (.loadCells _ _)
      exact ⟨(rowOf_eq_some hr).2, (cellOf_eq_some hj).2⟩
  · exact .refl s

theorem LockedKept.ownRowContinue (data : List Byte) (s : State) : LockedKept s (ownRowContinue data s).2 := by
  unfold Machine.ownRowContinue
  split
  · exact .loadCells s _
  · exact .refl s

theorem LockedKept.finishExchange (row cell : BitVec 16) (colour : Byte) (formed : Formed) (s : State) :
    LockedKept s (finishExchange row cell colour formed s).2 := by
  refine .withCells ?_
  unfold exchangeCell
  split
  · next r j c hr hj _ =>
    split
    · exact .inl rfl
    · next hl => exact .inr ⟨r, j, c, (rowOf_eq_some hr).2, (cellOf_eq_some hj).2, hl, rfl⟩
  · exact .inl rfl

theorem LockedKept.finishConditional (row cell : BitVec 16) (expected new : Byte) (formed : Formed) (s : State) :
    LockedKept s (finishConditional row cell expected new formed s).2 := by
  refine .withCells ?_
  unfold conditionalExchange
  split
  · next r j x c hr hj _ _ =>
    split
    · exact .inl rfl
    · next hl =>
      dsimp only
      split
      · exact .inr ⟨r, j, c, (rowOf_eq_some hr).2, (cellOf_eq_some hj).2, hl, rfl⟩
      · exact .inl rfl
  · exact .inl rfl

/-- A write of one entry leaves the entries of every other table (R47). -/
theorem TechniqueMemory.setEntry_entry_of_ne (m : TechniqueMemory) {b b' : Fin 8} (h : b' ≠ b) (k k' : Colour)
    (e : TechniqueEntry) : (m.setEntry b k e).entry b' k' = m.entry b' k' := by
  have hne : b.val ≠ b'.val := fun hv => h (Fin.ext hv.symm)
  simp [TechniqueMemory.entry, TechniqueMemory.setEntry, Vector.getElem_set_ne, hne]

theorem LockedKept.ownWriteTechnique (table colour front back parity : Byte) (s : State) :
    LockedKept s (ownWriteTechnique table colour front back parity s).2 := by
  unfold Machine.ownWriteTechnique
  split
  · next b k f g p _ _ _ _ _ =>
    split
    · exact .refl s
    · next hl => exact {
        figures := .of_eq rfl
        rowLocks := rfl
        tableLocks := rfl
        rows := fun _ _ _ _ _ => rfl
        tables := fun b' hb' k' => s.tech.setEntry_entry_of_ne (ne_of_mem_of_not_mem hb' hl) k k' ⟨f, g, p⟩ }
  · exact .refl s

theorem LockedKept.frameForm {c : Instr} {w : FrameForm} (hc : writesStores c = true) (h : Machine.frameForm c = some w) :
    w.Keeps LockedKept := by
  cases c with
  | writeRow e row start data => cases h; exact fun u _ => .ownWriteRow row start data u
  | rowContinue e data => cases h; exact fun u _ => .ownRowContinue data u
  | exchangeCell frame row cell colour => cases h; exact fun formed u _ => .finishExchange row cell colour formed u
  | conditionalExchangeCell frame row cell expected new =>
    cases h; exact fun formed u _ => .finishConditional row cell expected new formed u
  | writeTechnique e table colour front back parity =>
    cases h; exact fun u _ => .ownWriteTechnique table colour front back parity u
  | _ => cases hc

/-! ## The statement -/

/-- A step but a power-on, a loss of power or RESET writes nothing, or keeps the locks and what they lock. -/
theorem storesKept_or_lockedKept {c : Instr} (hp : c.isPower = false) (h : exec c s = .next t) :
    StoresKept s t ∨ LockedKept s t := by
  cases hf : frameForm c with
  | none => exact .inl (.event hp hf h)
  | some w =>
    rw [exec_frameForm hf] at h
    cases h
    cases hw : writesStores c with
    | false => exact .inl (FrameForm.take_keeps StoresKept.frameFree (StoresKept.frameForm hw hf) s)
    | true => exact .inr (FrameForm.take_keeps LockedKept.frameFree (LockedKept.frameForm hw hf) s)

/-- Settles O14, from what the commands that write keep and from what every other step leaves. -/
theorem lockedRowsAndTablesKeep : Obligations.LockedRowsAndTablesKeep := by
  intro c s t hs hp h
  rcases storesKept_or_lockedKept hp h with ⟨hcells, htables⟩ | hk
  · exact ⟨fun r _ j _ => by rw [hcells], fun b _ k => by simp only [TechniqueMemory.entry, htables]⟩
  · exact ⟨hk.rows hs, hk.tables⟩

end Sys2Proof.Machine
end

section
/-! O8, O9. WRITE_ROW and ROW_CONTINUE: the frame, its checks, and the forward write from the cursor (R27 to R32). -/

namespace Sys2Proof.Machine

variable {s : State}

/-- A whole frame of a Pattern Port command without a reply answers what its own rule answers. -/
theorem takeWrite_pattern {t : State} {r : ResultCode} (h : s.open) {f : FrameShape} (hf : f.port = .pattern)
    {breaks : Bool} {own : State → ResultCode × State} (ho : own (s.breakLoad breaks) = (r, t)) :
    takeWrite f breaks own .fits s =
      t.withPatternPort ⟨r, none, t.patternPort.lastResult.code :: zeros f.params⟩ := by
  rw [takeWrite_fits h, hf, ho]
  rfl

theorem unpackCells_length (data : List Byte) : (unpackCells data).length = 2 * data.length := by
  induction data with
  | nil => rfl
  | cons b data ih =>
    simp only [unpackCells, List.flatMap_cons, List.length_append, List.length_cons, List.length_nil] at *
    omega

/-- A load frame of a length the command can have fits (R28, R30). -/
theorem loadEnd_fits {lo : Nat} {data : List Byte} {extra : Nat} (hlo : lo ≤ data.length) (hhi : data.length ≤ 640) :
    loadEnd lo data extra .fits = .fits := if_pos ⟨hlo, hhi⟩

/-! ## The forward write of a load -/

/-- A load of which `n` cells were written before it ended with result `r`: what it leaves (R27, R29, R31, R32). -/
structure State.Loaded (s : State) (cells : List Colour) (n : Nat) (r : ResultCode) (m : Memory) (l : LoadCursor) :
    Prop where
  loads : s.loadCells cells = (r, (s.withMem ⟨m, s.mem.locks⟩).withLoad l)
  address : l.address = s.load.address + n
  cell : l.cell < Config.cellCount
  continuation : l.continuation = decide (r = .ok)
  overrun : l.overrun = (s.load.overrun || decide (r = .range))
  written : s.mem.cells.WrittenFrom m cells s.load.address n

theorem State.Loaded.of_write {cells : List Colour} {n : Nat} {r : ResultCode} {m : Memory} {row cell : Nat}
    (hrun : forwardWrite s.mem.locks cells s.mem.cells s.load.row s.load.cell = (m, row, cell, r))
    (haddr : cellAddress row cell = s.load.address + n) (hc : cell < Config.cellCount)
    (hread : s.mem.cells.WrittenFrom m cells s.load.address n) :
    s.Loaded cells n r m ⟨row, cell, decide (r = .ok), s.load.overrun || decide (r = .range)⟩ where
  loads := by simp only [State.loadCells, hrun]
  address := haddr
  cell := hc
  continuation := rfl
  overrun := rfl
  written := hread

/-- A load that meets no locked row and ends within the memory (R29). -/
theorem State.loadCells_whole (hs : s.memoryOk) (cells : List Colour) (hend : s.load.address + cells.length ≤ memoryEnd)
    (hfree : ∀ i < cells.length, (s.load.address + i) / Config.cellCount ∉ s.mem.locks) :
    ∃ m l, s.Loaded cells cells.length .ok m l := by
  obtain ⟨m, row, cell, hrun, haddr, hc, hread⟩ := forwardWrite_run hs.1 (State.load_cell_lt hs) le_rfl hend hfree
  rw [List.drop_length, forwardWrite] at hrun
  exact ⟨m, _, .of_write hrun haddr hc hread⟩

/-- A load that after `n` cells stands at a locked row or at the end of the memory (R31, R32). -/
theorem State.loadCells_stopped (hs : s.memoryOk) {cells : List Colour} {n : Nat} (hn : n < cells.length)
    (hend : s.load.address + n ≤ memoryEnd)
    (hstop : (s.load.address + n) / Config.cellCount ∈ s.mem.locks ∨ s.load.address + n = memoryEnd)
    (hfree : ∀ i < n, (s.load.address + i) / Config.cellCount ∉ s.mem.locks) :
    ∃ m l, s.Loaded cells n (if s.load.address + n = memoryEnd then .range else .inUse) m l := by
  obtain ⟨m, row, cell, hrun, haddr, hc, hread⟩ := forwardWrite_run hs.1 (State.load_cell_lt hs) hn.le hend hfree
  have hadd : cellAddress row cell = s.load.address + n := haddr
  rw [forwardWrite_stop (by simpa using hn) hc (by rwa [hadd]) (by rwa [hadd]), hadd] at hrun
  exact ⟨m, _, .of_write hrun haddr hc hread⟩

/-! ## ROW_CONTINUE and WRITE_ROW -/

theorem rowOf_of_lt {b : BitVec 16} (h : b.toNat < 512) : rowOf b = some b.toNat := if_pos h
theorem rowOf_of_le {b : BitVec 16} (h : 512 ≤ b.toNat) : rowOf b = none := if_neg (Nat.not_lt.2 h)
theorem cellOf_of_lt {b : BitVec 16} (h : b.toNat < 1280) : cellOf b = some b.toNat := if_pos h
theorem cellOf_of_le {b : BitVec 16} (h : 1280 ≤ b.toNat) : cellOf b = none := if_neg (Nat.not_lt.2 h)

/-- ROW_CONTINUE without continuation (R30). -/
theorem exec_rowContinue_notNow (h : s.open) {data : List Byte} (h1 : 1 ≤ data.length) (h2 : data.length ≤ 640)
    (hc : s.load.continuation = false) : exec (.rowContinue .fits data) s =
      .next (s.withPatternPort ⟨.notNow, none, s.patternPort.lastResult.code :: zeros data.length⟩) := by
  change Host.Outcome.next (takeWrite _ _ _ (loadEnd 1 data 0 .fits) s) = _
  rw [loadEnd_fits h1 h2, takeWrite_pattern h rfl (if_neg (by simp [hc]))]
  rfl

/-- ROW_CONTINUE with continuation is a load from the cursor (R30). -/
theorem exec_rowContinue (h : s.open) {data : List Byte} (h1 : 1 ≤ data.length) (h2 : data.length ≤ 640)
    (hc : s.load.continuation = true) {n : Nat} {r : ResultCode} {m : Memory} {l : LoadCursor}
    (hl : s.Loaded (unpackCells data) n r m l) : exec (.rowContinue .fits data) s =
      .next (((s.withMem ⟨m, s.mem.locks⟩).withLoad l).withPatternPort
        ⟨r, none, s.patternPort.lastResult.code :: zeros data.length⟩) := by
  change Host.Outcome.next (takeWrite _ _ _ (loadEnd 1 data 0 .fits) s) = _
  rw [loadEnd_fits h1 h2, takeWrite_pattern h rfl ((if_pos hc).trans hl.loads)]
  rfl

/-- The cursor as WRITE_ROW sets it once its checks hold: its row and start cell, LOAD_OVERRUN cleared (R28). -/
def State.atRow (s : State) (row start : BitVec 16) : State := s.withLoad ⟨row.toNat, start.toNat, true, false⟩

theorem State.atRow_memoryOk (hs : s.memoryOk) {row start : BitVec 16} (hr : row.toNat < 512) (hj : start.toNat < 1280) :
    (s.atRow row start).memoryOk := ⟨hs.1, .inl ⟨hr, hj⟩⟩

/-- WRITE_ROW that passes its checks is a load from its row and start cell (R28). -/
theorem exec_writeRow (h : s.open) {row start : BitVec 16} {data : List Byte} (hr : row.toNat < 512)
    (hj : start.toNat < 1280) (hlock : row.toNat ∉ s.mem.locks) (h2 : data.length ≤ 640) {n : Nat} {r : ResultCode}
    {m : Memory} {l : LoadCursor} (hl : (s.atRow row start).Loaded (unpackCells data) n r m l) :
    exec (.writeRow .fits row start data) s =
      .next (((s.withMem ⟨m, s.mem.locks⟩).withLoad l).withPatternPort
        ⟨r, none, s.patternPort.lastResult.code :: zeros (4 + data.length)⟩) := by
  have hown : ownWriteRow row start data (s.breakLoad true) = (s.atRow row start).loadCells (unpackCells data) := by
    simp only [ownWriteRow, rowOf_of_lt hr, cellOf_of_lt hj]
    exact if_neg hlock
  change Host.Outcome.next (takeWrite _ _ _ (loadEnd 0 data 4 .fits) s) = _
  rw [loadEnd_fits (Nat.zero_le _) h2, takeWrite_pattern h rfl (hown.trans hl.loads)]
  rfl

/-- WRITE_ROW refused by its checks writes nothing and only clears continuation (R27, R28). -/
theorem exec_writeRow_refused (h : s.open) {row start : BitVec 16} {data : List Byte} (h2 : data.length ≤ 640)
    {r : ResultCode} (hown : ownWriteRow row start data s.loadBroken = (r, s.loadBroken)) :
    exec (.writeRow .fits row start data) s =
      .next (s.loadBroken.withPatternPort ⟨r, none, s.patternPort.lastResult.code :: zeros (4 + data.length)⟩) := by
  change Host.Outcome.next (takeWrite _ _ _ (loadEnd 0 data 4 .fits) s) = _
  rw [loadEnd_fits (Nat.zero_le _) h2, takeWrite_pattern h rfl hown]
  rfl

theorem ownWriteRow_range {row start : BitVec 16} {data : List Byte} (h : 512 ≤ row.toNat ∨ 1280 ≤ start.toNat) :
    ownWriteRow row start data s = (.range, s) := by
  rcases h with h | h
  · simp only [ownWriteRow, rowOf_of_le h]
  · rw [ownWriteRow, cellOf_of_le h]
    cases rowOf row <;> rfl

theorem ownWriteRow_inUse {row start : BitVec 16} {data : List Byte} (hr : row.toNat < 512) (hj : start.toNat < 1280)
    (hlock : row.toNat ∈ s.mem.locks) : ownWriteRow row start data s = (.inUse, s) := by
  simp only [ownWriteRow, rowOf_of_lt hr, cellOf_of_lt hj, if_pos hlock]

/-! ## The statements -/

/-- Settles O8, from the load that meets no locked row and ends within the memory. -/
theorem loadWritesForward : Obligations.LoadWritesForward := by
  refine ⟨fun s row start data h hs hr hj h2 hend hlock hfree => ?_, fun s data h hs hc h1 h2 hend hfree => ?_⟩
  · obtain ⟨m, l, hl⟩ := State.loadCells_whole (State.atRow_memoryOk hs hr hj) (unpackCells data)
      (by rw [unpackCells_length]; exact hend)
      (fun i hi hmem => hfree _ hmem i (by rwa [unpackCells_length] at hi) rfl)
    rw [unpackCells_length] at hl
    exact ⟨m, l, exec_writeRow h hr hj hlock h2 hl, hl.address, hl.cell, hl.continuation, hl.overrun,
      fun r _ j hj => hl.written r j hj⟩
  · obtain ⟨m, l, hl⟩ := State.loadCells_whole hs (unpackCells data)
      (by rw [unpackCells_length]; exact hend)
      (fun i hi hmem => hfree _ hmem i (by rwa [unpackCells_length] at hi) rfl)
    rw [unpackCells_length] at hl
    exact ⟨m, l, exec_rowContinue h h1 h2 hc hl, hl.address, hl.cell, hl.continuation,
      hl.overrun.trans (Bool.or_false _), fun r _ j hj => hl.written r j hj⟩

/-- The continuation flag and LOAD_OVERRUN after a load that stopped (R31, R32). -/
theorem State.Loaded.stopped_flags {cells : List Colour} {n : Nat} {p : Prop} [Decidable p] {m : Memory} {l : LoadCursor}
    (hl : s.Loaded cells n (if p then .range else .inUse) m l) :
    l.continuation = false ∧ l.overrun = (s.load.overrun || decide p) := by
  refine ⟨hl.continuation.trans ?_, hl.overrun.trans ?_⟩ <;> by_cases hp : p <;> simp [hp]

/-- Settles O9, from the load that stops and from the checks of WRITE_ROW and ROW_CONTINUE. -/
theorem loadStops : Obligations.LoadStops := by
  refine ⟨⟨fun s data h h1 h2 hc => exec_rowContinue_notNow h h1 h2 hc,
    fun s data n h hs hc h1 h2 hn hend hstop hfree => ?_,
    fun s row start data n h hs hr hj hlock h2 hn => ?_⟩,
    fun s row start data h h2 => ⟨fun hrange => exec_writeRow_refused h h2 (ownWriteRow_range hrange),
      fun hr hj hlock => exec_writeRow_refused h h2 (ownWriteRow_inUse hr hj hlock)⟩⟩
  · obtain ⟨m, l, hl⟩ := State.loadCells_stopped hs (by rwa [unpackCells_length]) hend hstop hfree
    obtain ⟨hcont, hover⟩ := hl.stopped_flags
    exact ⟨m, l, _, exec_rowContinue h h1 h2 hc hl, rfl, hl.address, hl.cell, hcont, hover,
      fun r _ j hj => hl.written r j hj⟩
  · dsimp only
    intro hend hstop hfree
    obtain ⟨m, l, hl⟩ := State.loadCells_stopped (State.atRow_memoryOk hs hr hj) (cells := unpackCells data)
      (by rwa [unpackCells_length]) hend hstop hfree
    obtain ⟨hcont, hover⟩ := hl.stopped_flags
    exact ⟨m, l, _, exec_writeRow h hr hj hlock h2 hl, rfl, hl.address, hl.cell, hcont,
      hover.trans (Bool.false_or _), fun r _ j hj => hl.written r j hj⟩

end Sys2Proof.Machine
end

section
/-! O10, O11, O12, O13. Reading a row and single cells, the exchanges, and SCAN_ROW (R24, R33 to R38). -/

namespace Sys2Proof.Machine

variable {s : State}

/-! ## Pattern Port commands with a reply -/

/-- A whole frame of a Pattern Port command that only reads: the reply and its result, and continuation cleared (R27,
R176). -/
theorem takeRead_look (h : s.open) {f : FrameShape} (hf : f.port = .pattern) {form : State → Formed} {reply : List Byte}
    {r : ResultCode} (hform : form s = .plain reply r) (hr : r ≠ .busy) :
    takeRead f false true form (finishRead form noEffect) (.whole .fits) s =
      s.loadBroken.withPatternPort ⟨r, none, s.patternPort.lastResult.code :: (zeros f.params ++ reply)⟩ := by
  rw [takeRead_whole h, finishRead_self, hform, hf]
  simp [Formed.plain, hr, State.loadBroken]

/-- A whole frame of a Pattern Port command that exchanges: the reply and the cells as its checks find the state (R35,
R36, R176). -/
theorem takeRead_exchange (h : s.open) {f : FrameShape} (hf : f.port = .pattern) {form : State → Formed}
    {finish : Formed → State → ResultCode × State} {reply : List Byte} {r : ResultCode} {m : Memory}
    (hform : form s = .plain reply r) (hfinish : ∀ formed, finish formed s = (r, s.withMem ⟨m, s.mem.locks⟩))
    (hr : r ≠ .busy) : takeRead f false true form finish (.whole .fits) s =
      (s.loadBroken.withMem ⟨m, s.mem.locks⟩).withPatternPort
        ⟨r, none, s.patternPort.lastResult.code :: (zeros f.params ++ reply)⟩ := by
  rw [takeRead_whole h, hfinish, hform, hf]
  simp [Formed.plain, hr, State.loadBroken]
  rfl

theorem byteOf_colour (c : Colour) : byteOf (c.toNat : Int) = c.setWidth 8 := by
  rw [byteOf_nat, BitVec.ofNat_toNat]

theorem colourOf_of_lt {b : Byte} (h : b.toNat < 16) : colourOf b = some (b.setWidth 4) := by
  rw [colourOf, if_pos h, BitVec.ofNat_toNat]

theorem colourOf_of_le {b : Byte} (h : 16 ≤ b.toNat) : colourOf b = none := if_neg (Nat.not_lt.2 h)

/-! ## READ_ROW (R33) -/

theorem unpackCells_getD (data : List Byte) (i : Nat) : (unpackCells data).getD i 0 =
    if i % 2 = 0 then (data.getD (i / 2) 0).extractLsb' 4 4 else (data.getD (i / 2) 0).extractLsb' 0 4 := by
  induction data generalizing i with
  | nil => simp [unpackCells]
  | cons b data ih =>
    match i with
    | 0 => rfl
    | 1 => rfl
    | i + 2 =>
      rw [show (i + 2) % 2 = i % 2 by omega, show (i + 2) / 2 = i / 2 + 1 by omega]
      exact ih i

theorem packCells_getD (cells : List Colour) (i : Nat) :
    (packCells cells).getD i 0 = cells.getD (2 * i) 0 ++ cells.getD (2 * i + 1) 0 := by
  induction cells using packCells.induct generalizing i with
  | case1 => simp [packCells]
  | case2 a => cases i <;> simp [packCells]
  | case3 a b cs ih =>
    cases i with
    | zero => rfl
    | succ i => exact ih i

/-- Bytes followed by zeros, cut to a length that reaches byte `k`. -/
theorem take_zeros_getD (l : List Byte) {n p k : Nat} (hk : k < n) : ((l ++ zeros p).take n).getD k 0 = l.getD k 0 := by
  rw [List.getD_eq_getElem?_getD, List.getElem?_take, if_pos hk, List.getD_eq_getElem?_getD]
  by_cases hl : k < l.length
  · rw [List.getElem?_append_left hl]
  · rw [List.getElem?_append_right (by omega), List.getElem?_eq_none (l := l) (by omega)]
    simp only [zeros, List.getElem?_replicate]
    split <;> rfl

/-- Cells packed and then read back from the bytes that hold them, 0 beyond them (R24). -/
theorem unpackCells_packCells_getD (cells : List Colour) {n p i : Nat} (hi : i < 2 * n) :
    (unpackCells ((packCells cells ++ zeros p).take n)).getD i 0 = cells.getD i 0 := by
  rw [unpackCells_getD, take_zeros_getD _ (by omega), packCells_getD]
  split
  · next h => rw [show 2 * (i / 2) = i by omega]; exact BitVec.extractLsb'_append_eq_left
  · next h =>
    rw [show 2 * (i / 2) + 1 = i by omega]
    exact BitVec.extractLsb'_append_eq_right

theorem be2_nat (n : Nat) : be2 n = [BitVec.ofNat 8 (n / 256), BitVec.ofNat 8 n] := by
  rw [← byteOf_nat, ← byteOf_nat]
  rfl

/-- A count and what follows it, brought to a length. -/
theorem padTo_be2 (x : Int) (l : List Byte) (n : Nat) :
    padTo (2 + n) (be2 x ++ l) = be2 x ++ (l ++ zeros (2 + n)).take n := by
  rw [padTo, be2, Nat.add_comm 2 n]
  rfl

theorem natIn_of_le {lo hi n : Nat} (h1 : lo ≤ n) (h2 : n ≤ hi) : natIn lo hi n = some n :=
  natIn_eq_some.2 ⟨h1, h2, rfl⟩

/-- The number of cells READ_ROW returns (R33). -/
def returnedCount (start count : BitVec 16) : Nat := min count.toNat (1280 - start.toNat)

/-- The cells READ_ROW returns (R33). -/
def State.returnedCells (s : State) (row start count : BitVec 16) : List Colour :=
  (List.range (returnedCount start count)).map fun i => Memory.read s.mem.cells row.toNat (start.toNat + i)

theorem State.returnedCells_getD (row start count : BitVec 16) (i : Nat) :
    (s.returnedCells row start count).getD i 0 =
      if i < returnedCount start count then Memory.read s.mem.cells row.toNat (start.toNat + i) else 0 := by
  rw [List.getD_eq_getElem?_getD, State.returnedCells, List.getElem?_map]
  split
  · next h => rw [List.getElem?_range h]; rfl
  · next h => rw [List.getElem?_eq_none (by simpa using h)]; rfl

/-- The bytes of the returned cells, as many as the requested count takes (R33). -/
def State.returnedBytes (s : State) (row start count : BitVec 16) : List Byte :=
  (packCells (s.returnedCells row start count) ++ zeros (2 + (count.toNat + 1) / 2)).take ((count.toNat + 1) / 2)

theorem State.returnedBytes_length (row start count : BitVec 16) :
    (s.returnedBytes row start count).length = (count.toNat + 1) / 2 := by
  rw [State.returnedBytes, List.length_take, List.length_append, zeros, List.length_replicate]
  omega

/-- The returned bytes hold the returned cells, and 0 beyond them (R24, R33). -/
theorem State.returnedBytes_cells (row start count : BitVec 16) {i : Nat} (hi : i < 2 * ((count.toNat + 1) / 2)) :
    (unpackCells (s.returnedBytes row start count))[i]? = some
      (if i < returnedCount start count then Memory.read s.mem.cells row.toNat (start.toNat + i) else 0) := by
  have hget : (unpackCells (s.returnedBytes row start count)).getD i 0 = _ :=
    (unpackCells_packCells_getD _ hi).trans (s.returnedCells_getD row start count i)
  have hlen : i < (unpackCells (s.returnedBytes row start count)).length := by
    rwa [unpackCells_length, State.returnedBytes_length]
  rw [List.getD_eq_getElem?_getD, List.getElem?_eq_getElem hlen, Option.getD_some] at hget
  rw [List.getElem?_eq_getElem hlen, hget]

/-- The bytes of the reply of READ_ROW (R33, R181). -/
theorem Layout.readRow_reply (count : BitVec 16) : (Layout.readRow count).reply =
    2 + if 1 ≤ count.toNat ∧ count.toNat ≤ 1280 then (count.toNat + 1) / 2 else 0 := rfl

theorem formRow_eq {row start count : BitVec 16} (hr : row.toNat < 512) (hj : start.toNat < 1280)
    (h1 : 1 ≤ count.toNat) (h2 : count.toNat ≤ 1280) : formRow row start count s =
      .plain (be2 (returnedCount start count) ++ s.returnedBytes row start count) .ok := by
  simp only [formRow, rowOf_of_lt hr, cellOf_of_lt hj, natIn_of_le h1 (show count.toNat ≤ Config.cellCount from h2),
    Layout.readRow_reply, if_pos (And.intro h1 h2)]
  exact congrArg (Formed.plain · .ok) (padTo_be2 _ _ _)

theorem formRow_range {row start count : BitVec 16}
    (h : 512 ≤ row.toNat ∨ 1280 ≤ start.toNat ∨ count.toNat = 0 ∨ 1280 < count.toNat) :
    formRow row start count s = .plain (zeros (Layout.readRow count).reply) .range := by
  have hnone : rowOf row = none ∨ cellOf start = none ∨ natIn 1 Config.cellCount count.toNat = none := by
    rcases h with h | h | h
    · exact .inl (rowOf_of_le h)
    · exact .inr (.inl (cellOf_of_le h))
    · refine .inr (.inr (if_neg ?_))
      simp only [Config.cellCount]
      omega
  unfold formRow
  split
  · simp_all
  · rfl

/-- Settles O10, from the layout of the reply and from the cells read back from it. -/
theorem readRowReturnsCells : Obligations.ReadRowReturnsCells := by
  refine ⟨fun s row start count h hr hj h1 h2 => ?_, fun s row start count h hrange => ?_⟩
  · refine ⟨be2 (returnedCount start count) ++ s.returnedBytes row start count,
      congrArg _ (takeRead_look h rfl (formRow_eq hr hj h1 h2) (by decide)), ?_, ?_, fun i hi => ?_⟩
    · rw [be2_nat, List.length_append, State.returnedBytes_length]
      rfl
    · rw [be2_nat]
      rfl
    · rw [be2_nat]
      exact s.returnedBytes_cells row start count hi
  · have hread := takeRead_look h (f := Layout.readRow count) rfl (formRow_range (s := s) hrange) (by decide)
    rw [zeros_append, Layout.readRow_reply, ← Nat.add_assoc] at hread
    exact congrArg _ hread

/-! ## TEST_CELL (R34) -/

theorem formCell_eq {row cell : BitVec 16} (hr : row.toNat < 512) (hj : cell.toNat < 1280) : formCell row cell s =
    .plain [(Memory.read s.mem.cells row.toNat cell.toNat).setWidth 8] .ok := by
  simp only [formCell, rowOf_of_lt hr, cellOf_of_lt hj, byteOf_colour]

theorem formCell_range {row cell : BitVec 16} (h : 512 ≤ row.toNat ∨ 1280 ≤ cell.toNat) :
    formCell row cell s = .plain [0] .range := by
  unfold formCell
  rcases h with h | h
  · rw [rowOf_of_le h]
  · rw [cellOf_of_le h]; cases rowOf row <;> rfl

/-- Settles O11, from the reply in and out of range. -/
theorem testCellReads : Obligations.TestCellReads := fun s row cell h =>
  ⟨fun hr hj => congrArg _ (takeRead_look h rfl (formCell_eq hr hj) (by decide)),
    fun hrange => congrArg _ (takeRead_look h rfl (formCell_range hrange) (by decide))⟩

/-! ## EXCHANGE_CELL and CONDITIONAL_EXCHANGE_CELL (R35, R36) -/

section Exchange
variable {row cell : BitVec 16}

theorem exchangeCell_eq {colour : Byte} (hr : row.toNat < 512) (hj : cell.toNat < 1280) (hc : colour.toNat < 16)
    (hl : row.toNat ∉ s.mem.locks) : exchangeCell row cell colour s =
      (.ok, (Memory.read s.mem.cells row.toNat cell.toNat).setWidth 8,
        Memory.write s.mem.cells row.toNat cell.toNat (colour.setWidth 4)) := by
  simp only [exchangeCell, rowOf_of_lt hr, cellOf_of_lt hj, colourOf_of_lt hc, if_neg hl, byteOf_colour]

theorem exchangeCell_inUse {colour : Byte} (hr : row.toNat < 512) (hj : cell.toNat < 1280) (hc : colour.toNat < 16)
    (hl : row.toNat ∈ s.mem.locks) : exchangeCell row cell colour s = (.inUse, 0, s.mem.cells) := by
  simp only [exchangeCell, rowOf_of_lt hr, cellOf_of_lt hj, colourOf_of_lt hc, if_pos hl]

theorem exchangeCell_range {colour : Byte} (h : 512 ≤ row.toNat ∨ 1280 ≤ cell.toNat ∨ 16 ≤ colour.toNat) :
    exchangeCell row cell colour s = (.range, 0, s.mem.cells) := by
  have hnone : rowOf row = none ∨ cellOf cell = none ∨ colourOf colour = none :=
    h.imp rowOf_of_le (.imp cellOf_of_le colourOf_of_le)
  unfold exchangeCell
  split
  · simp_all
  · rfl

theorem conditionalExchange_eq {expected new : Byte} (hr : row.toNat < 512) (hj : cell.toNat < 1280)
    (hx : expected.toNat < 16) (hc : new.toNat < 16) (hl : row.toNat ∉ s.mem.locks) :
    conditionalExchange row cell expected new s =
      (.ok, [(Memory.read s.mem.cells row.toNat cell.toNat).setWidth 8,
          if Memory.read s.mem.cells row.toNat cell.toNat = expected.setWidth 4 then 1 else 0],
        if Memory.read s.mem.cells row.toNat cell.toNat = expected.setWidth 4 then
          Memory.write s.mem.cells row.toNat cell.toNat (new.setWidth 4) else s.mem.cells) := by
  simp only [conditionalExchange, rowOf_of_lt hr, cellOf_of_lt hj, colourOf_of_lt hx, colourOf_of_lt hc, if_neg hl,
    byteOf_colour]
  split <;> rfl

theorem conditionalExchange_inUse {expected new : Byte} (hr : row.toNat < 512) (hj : cell.toNat < 1280)
    (hx : expected.toNat < 16) (hc : new.toNat < 16) (hl : row.toNat ∈ s.mem.locks) :
    conditionalExchange row cell expected new s = (.inUse, [0, 0], s.mem.cells) := by
  simp only [conditionalExchange, rowOf_of_lt hr, cellOf_of_lt hj, colourOf_of_lt hx, colourOf_of_lt hc, if_pos hl]

theorem conditionalExchange_range {expected new : Byte}
    (h : 512 ≤ row.toNat ∨ 1280 ≤ cell.toNat ∨ 16 ≤ expected.toNat ∨ 16 ≤ new.toNat) :
    conditionalExchange row cell expected new s = (.range, [0, 0], s.mem.cells) := by
  have hnone : rowOf row = none ∨ cellOf cell = none ∨ colourOf expected = none ∨ colourOf new = none :=
    h.imp rowOf_of_le (.imp cellOf_of_le (.imp colourOf_of_le colourOf_of_le))
  unfold conditionalExchange
  split
  · simp_all
  · rfl

/-- EXCHANGE_CELL answers what its checks find (R35). -/
theorem exec_exchangeCell (h : s.open) {colour b : Byte} {r : ResultCode} {m : Memory}
    (hx : exchangeCell row cell colour s = (r, b, m)) (hr : r ≠ .busy) :
    exec (.exchangeCell (.whole .fits) row cell colour) s =
      .next ((s.loadBroken.withMem ⟨m, s.mem.locks⟩).withPatternPort
        ⟨r, none, s.patternPort.lastResult.code :: (zeros 5 ++ [b])⟩) :=
  congrArg _ (takeRead_exchange h rfl (by simp only [formExchange, hx]) (fun _ => by simp only [finishExchange, hx]) hr)

/-- CONDITIONAL_EXCHANGE_CELL answers what its checks find (R36). -/
theorem exec_conditionalExchangeCell (h : s.open) {expected new : Byte} {reply : List Byte} {r : ResultCode} {m : Memory}
    (hx : conditionalExchange row cell expected new s = (r, reply, m)) (hr : r ≠ .busy) :
    exec (.conditionalExchangeCell (.whole .fits) row cell expected new) s =
      .next ((s.loadBroken.withMem ⟨m, s.mem.locks⟩).withPatternPort
        ⟨r, none, s.patternPort.lastResult.code :: (zeros 6 ++ reply)⟩) :=
  congrArg _ (takeRead_exchange h rfl (by simp only [formConditional, hx])
    (fun _ => by simp only [finishConditional, hx]) hr)

end Exchange

/-- Settles O12, from what the checks of the two exchanges find. -/
theorem exchangeCells : Obligations.ExchangeCells := by
  intro s row cell h hs
  refine ⟨fun colour hr hj hc hl => ?_, fun expected new hr hj hx hc hl => ?_,
    fun colour hrange => exec_exchangeCell h (exchangeCell_range hrange) (by decide),
    fun colour hr hj hc hl => exec_exchangeCell h (exchangeCell_inUse hr hj hc hl) (by decide),
    fun expected new hrange => exec_conditionalExchangeCell h (conditionalExchange_range hrange) (by decide),
    fun expected new hr hj hx hc hl =>
      exec_conditionalExchangeCell h (conditionalExchange_inUse hr hj hx hc hl) (by decide)⟩
  · exact ⟨_, exec_exchangeCell h (exchangeCell_eq hr hj hc hl) (by decide),
      fun r _ j hj' => Memory.read_write hs.1 _ hj hj'⟩
  · refine ⟨_, exec_conditionalExchangeCell h (conditionalExchange_eq hr hj hx hc hl) (by decide), fun r _ j hj' => ?_⟩
    by_cases hold : Memory.read s.mem.cells row.toNat cell.toNat = expected.setWidth 4
    · rw [if_pos hold, Memory.read_write hs.1 _ hj hj']
      by_cases hcell : r = row.toNat ∧ j = cell.toNat
      · obtain ⟨rfl, rfl⟩ := hcell
        simp [hold]
      · rw [if_neg hcell, if_neg fun hx => hcell ⟨hx.1, hx.2.1⟩]
    · rw [if_neg hold, if_neg]
      rintro ⟨rfl, rfl, hx⟩
      exact hold hx

/-! ## SCAN_ROW (R37, R38) -/

/-- What a search of an ordered list finds comes, in that order, before every other element that the test accepts. -/
theorem find?_before {α : Type} {R : α → α → Prop} {p : α → Bool} {l : List α} {x y : α} (hl : l.Pairwise R)
    (hx : l.find? p = some x) (hy : y ∈ l) (hp : p y = true) : y = x ∨ R x y := by
  obtain ⟨-, as, bs, rfl, has⟩ := List.find?_eq_some_iff_append.1 hx
  rw [List.pairwise_append, List.pairwise_cons] at hl
  obtain ⟨-, ⟨hbs, -⟩, -⟩ := hl
  rcases List.mem_append.1 hy with hy | hy
  · exact absurd hp (by simpa using has y hy)
  · exact (List.mem_cons.1 hy).imp_right (hbs y)

/-- The cells searched, in the direction of the search (R38). -/
def searchList (a b : Nat) (reverse : Bool) : List Nat :=
  if reverse then (List.range' a (b + 1 - a)).reverse else List.range' a (b + 1 - a)

theorem mem_searchList {a b i : Nat} {reverse : Bool} (h : a ≤ b) : i ∈ searchList a b reverse ↔ a ≤ i ∧ i ≤ b := by
  cases reverse <;> simp [searchList] <;> omega

/-- `i` comes before `j` in the direction of the search (R38). -/
def searchBefore (reverse : Bool) (i j : Nat) : Prop := if reverse then j < i else i < j

theorem searchList_pairwise (a b : Nat) (reverse : Bool) : (searchList a b reverse).Pairwise (searchBefore reverse) := by
  cases reverse
  · exact List.pairwise_lt_range' 1
  · exact List.pairwise_reverse.2 (List.pairwise_lt_range' 1)

/-- A search finds a cell that is accepted, and none before it is (R38). -/
theorem searchRange_eq_some {p : Nat → Bool} {a b j : Nat} {reverse : Bool} (h : a ≤ b)
    (hj : searchRange p a b reverse = some j) :
    p j = true ∧ a ≤ j ∧ j ≤ b ∧ ∀ i, a ≤ i → i ≤ b → searchBefore reverse i j → p i = false := by
  change (searchList a b reverse).find? p = some j at hj
  obtain ⟨hlo, hhi⟩ := (mem_searchList h).1 (List.mem_of_find?_eq_some hj)
  refine ⟨List.find?_some hj, hlo, hhi, fun i hi hi' hbefore => Bool.eq_false_iff.2 fun hp => ?_⟩
  rcases find?_before (searchList_pairwise a b reverse) hj ((mem_searchList h).2 ⟨hi, hi'⟩) hp with rfl | hafter
  · cases reverse <;> simp [searchBefore] at hbefore
  · cases reverse <;> simp only [searchBefore] at hbefore hafter <;> exact absurd hbefore (by simpa using hafter.le)

/-- A search that finds nothing accepts no cell of its range (R38). -/
theorem searchRange_eq_none {p : Nat → Bool} {a b : Nat} {reverse : Bool} (h : a ≤ b)
    (hj : searchRange p a b reverse = none) {i : Nat} (hi : a ≤ i) (hi' : i ≤ b) : p i = false :=
  have hnone : (searchList a b reverse).find? p = none := hj
  Bool.eq_false_iff.2 (List.find?_eq_none.1 hnone i ((mem_searchList h).2 ⟨hi, hi'⟩))

section Scan
variable {row a b set : BitVec 16} {direction : Byte}

/-- The reply bytes of SCAN_ROW: the found flag and the cell (R37). -/
def foundBytes : Option Nat → List Byte
  | some j => [1, BitVec.ofNat 8 (j / 256), BitVec.ofNat 8 j]
  | none => [0, 0, 0]

/-- The search of SCAN_ROW (R37, R38). -/
def State.scan (s : State) (row a b set : BitVec 16) (direction : Byte) : Option Nat :=
  searchRange (fun j => inColourSet set (Memory.read s.mem.cells row.toNat j)) (scanBound a) (scanBound b)
    (decide (direction ≠ 0))

theorem formScan_eq (hr : row.toNat < 512) (h : scanBound a ≤ scanBound b) : formScan row a b set direction s =
    .plain (foundBytes (s.scan row a b set direction)) .ok := by
  simp only [formScan, rowOf_of_lt hr, if_neg (Nat.not_lt.2 h)]
  change (match s.scan row a b set direction with
    | some j => Formed.plain (1 :: be2 j) .ok | none => .plain (zeros 3) .ok) = _
  cases s.scan row a b set direction with
  | none => rfl
  | some j => exact congrArg (fun bytes => Formed.plain (1 :: bytes) .ok) (be2_nat j)

theorem formScan_empty (hr : row.toNat < 512) (h : scanBound b < scanBound a) : formScan row a b set direction s =
    .plain (zeros 3) .empty := by
  simp only [formScan, rowOf_of_lt hr, if_pos h]

theorem formScan_range (hr : 512 ≤ row.toNat) : formScan row a b set direction s = .plain (zeros 3) .range := by
  simp only [formScan, rowOf_of_le hr]

end Scan

/-- Settles O13, from the search in either direction. -/
theorem scanRowFinds : Obligations.ScanRowFinds := by
  refine ⟨fun s row a b set direction h hr hab => ?_,
    fun s row a b set direction h hr hab => congrArg _ (takeRead_look h rfl (formScan_empty hr hab) (by decide)),
    fun s row a b set direction h hr => congrArg _ (takeRead_look h rfl (formScan_range hr) (by decide))⟩
  refine ⟨s.scan row a b set direction, ?_, fun j hj => ?_, fun hnone i hi hi' => searchRange_eq_none hab hnone hi hi'⟩
  · refine congrArg _ ((takeRead_look h rfl (formScan_eq hr hab) (by decide)).trans ?_)
    cases s.scan row a b set direction <;> rfl
  · obtain ⟨hset, hlo, hhi, hfirst⟩ := searchRange_eq_some hab hj
    refine ⟨hset, hlo, hhi, fun i hi hi' hbefore => hfirst i hi hi' ?_⟩
    by_cases hd : direction = 0 <;> simpa [searchBefore, hd] using hbefore

end Sys2Proof.Machine
end

section
/-! O33. Stage 2 of arming: the resolution pass over the listed systems, the advances of the pointers, and the locks (R25,
R49, R56 to R59, R128). -/

namespace Sys2Proof.Machine

variable {s : State}

/-! ## The resolution pass -/

/-- An entry draws its row from pointer `p`: the course has no row for its system yet (R57). -/
def drawsFrom (kept : List (System × Nat)) (p : Fin 8) (e : SystemEntry) : Bool :=
  decide (e.source = .pointer p) && (rowOfSystem kept e.system).isNone

/-- The row of an entry, the pointers being as they stand when it is taken (R57). -/
def entryRow (kept : List (System × Nat)) (ptrs : Vector Pointer 8) (e : SystemEntry) : Nat :=
  match rowOfSystem kept e.system, e.source with
  | some row, _ => row
  | none, .direct row => row
  | none, .pointer p => ptrs[p].current

/-- The pointers after an entry has been taken (R57, R58). -/
def entryPtrs (kept : List (System × Nat)) (ptrs : Vector Pointer 8) (e : SystemEntry) : Vector Pointer 8 :=
  match rowOfSystem kept e.system, e.source with
  | some _, _ => ptrs
  | none, .direct _ => ptrs
  | none, .pointer p => ptrs.set p.val ptrs[p].advance

theorem resolveEntries_cons (kept : List (System × Nat)) (e : SystemEntry) (es : List SystemEntry)
    (ptrs : Vector Pointer 8) : resolveEntries kept (e :: es) ptrs =
      ((resolveEntries kept es (entryPtrs kept ptrs e)).1,
        (e.system, entryRow kept ptrs e) :: (resolveEntries kept es (entryPtrs kept ptrs e)).2) := by
  unfold entryPtrs entryRow
  cases hk : rowOfSystem kept e.system with
  | some row => simp only [resolveEntries, hk]
  | none => cases hs : e.source <;> simp only [resolveEntries, hk, hs]

/-- An entry advances the one pointer it draws from (R58). -/
theorem entryPtrs_get (kept : List (System × Nat)) (ptrs : Vector Pointer 8) (e : SystemEntry) (p : Fin 8) :
    (entryPtrs kept ptrs e)[p] = Pointer.advance^[if drawsFrom kept p e then 1 else 0] ptrs[p] := by
  unfold entryPtrs drawsFrom
  cases hk : rowOfSystem kept e.system with
  | some row => simp
  | none =>
    cases hs : e.source with
    | direct row => simp
    | pointer q =>
      by_cases hq : q = p
      · subst hq; simp
      · have hne : q.val ≠ p.val := fun h => hq (Fin.ext h)
        simp [hq, Vector.getElem_set_ne, hne]

/-- The pointers after the pass: each has advanced once for each entry that drew from it (R57, R58). -/
theorem resolveEntries_ptrs (kept : List (System × Nat)) (es : List SystemEntry) (ptrs : Vector Pointer 8) (p : Fin 8) :
    (resolveEntries kept es ptrs).1[p] = Pointer.advance^[es.countP (drawsFrom kept p)] ptrs[p] := by
  induction es generalizing ptrs with
  | nil => rfl
  | cons e es ih =>
    rw [resolveEntries_cons, List.countP_cons, Function.iterate_add_apply, ← entryPtrs_get]
    exact ih _

/-- Each listed system has one row (R57). -/
theorem resolveEntries_systems (kept : List (System × Nat)) (es : List SystemEntry) (ptrs : Vector Pointer 8) :
    (resolveEntries kept es ptrs).2.map Prod.fst = es.map SystemEntry.system := by
  induction es generalizing ptrs with
  | nil => rfl
  | cons e es ih => rw [resolveEntries_cons, List.map_cons, List.map_cons, ih]

/-- The row at place `n`: the entry's, with the pointers as the entries before it left them (R57, R58). -/
theorem resolveEntries_row (kept : List (System × Nat)) (es : List SystemEntry) (ptrs : Vector Pointer 8) (n : Nat)
    (e : SystemEntry) (he : es[n]? = some e) : (resolveEntries kept es ptrs).2[n]? =
      some (e.system, entryRow kept (resolveEntries kept (es.take n) ptrs).1 e) := by
  induction es generalizing ptrs n with
  | nil => cases he
  | cons f es ih =>
    rw [resolveEntries_cons]
    cases n with
    | zero => cases he; rfl
    | succ n =>
      rw [List.take_succ_cons, resolveEntries_cons]
      exact ih _ n he

/-! ## The locks -/

theorem mem_addLock {α : Type} [DecidableEq α] {x y : α} {locks : List α} : y ∈ addLock x locks ↔ y ∈ locks ∨ y = x := by
  unfold addLock
  split
  · next h => exact ⟨.inl, fun hy => hy.elim id (· ▸ h)⟩
  · simp

/-- A lock set after further locks have been taken (R25, R49). -/
theorem mem_foldl_addLock {α β : Type} [DecidableEq α] (f : β → α) {y : α} (xs : List β) (locks : List α) :
    y ∈ xs.foldl (fun l x => addLock (f x) l) locks ↔ y ∈ locks ∨ ∃ x ∈ xs, f x = y := by
  induction xs generalizing locks with
  | nil => simp
  | cons x xs ih =>
    rw [List.foldl_cons, ih, mem_addLock, List.exists_mem_cons_iff, or_assoc, eq_comm (a := f x)]

theorem mem_rowLocks {entries : List SystemEntry} {rows : List (System × Nat)} {locks : List Nat} {r : Nat} :
    r ∈ rowLocks entries rows locks ↔ r ∈ locks ∨ r ∈ rows.map Prod.snd ∨
      ∃ e ∈ entries, ∃ o, e.overlay = some o ∧ o.row = r := by
  refine (mem_foldl_addLock id _ _).trans (or_congr_right ?_)
  simp only [id, exists_eq_right, List.mem_append, List.mem_filterMap, Option.map_eq_some_iff]
  exact or_comm

theorem mem_tableLocks {entries : List SystemEntry} {locks : List (Fin 8)} {b : Fin 8} :
    b ∈ tableLocks entries locks ↔ b ∈ locks ∨ ∃ e ∈ entries, e.table = b :=
  mem_foldl_addLock SystemEntry.table entries locks

/-! ## The statement -/

theorem exec_locksAndResolution {c : Course} {cs : List Course} (h : s.queue.courses = c :: cs) (hc : c.state = .arming)
    (hst : s.arm.stage = some .locks) : exec .locksAndResolution s = .next (s.lockAndResolve c) := by
  change Host.Outcome.next (s.atStage .locks s.lockAndResolve) = _
  simp only [State.atStage, State.head?_cons h, hc, hst, and_self, if_true]

theorem State.lockAndResolve_ptrs (c : Course) :
    (s.lockAndResolve c).ptrs = (resolveEntries c.resolved c.listed s.ptrs).1 := by
  simp [State.lockAndResolve]

theorem State.lockAndResolve_sameBut (c : Course) :
    (s.lockAndResolve c).sameBut s [.queue, .ptrs, .mem, .tech, .arm] := by
  intro b hb
  cases b <;> simp_all [Block.same, State.lockAndResolve]

/-- Settles O33, from the resolution pass entry by entry and from the lock sets. -/
theorem locksAndResolution : Obligations.LocksAndResolution := by
  intro s c cs h hc hst
  refine ⟨_, (resolveEntries c.resolved c.listed s.ptrs).2, exec_locksAndResolution h hc hst, ?_,
    resolveEntries_systems _ _ _, fun n e he x hx => ?_, fun p => ?_, ?_, s.lockAndResolve_tables c, fun r => ?_,
    fun b => ?_, ?_, s.lockAndResolve_sameBut c⟩
  · simp [State.lockAndResolve, State.changeHead, h]
  · rw [resolveEntries_row _ _ _ n e he, Option.some.injEq] at hx
    subst hx
    simp only [entryRow]
    refine ⟨fun row hrow => by rw [hrow], fun hnone row hsrc => by rw [hnone, hsrc], fun hnone p hsrc => ?_⟩
    rw [hnone, hsrc]
    exact congrArg Pointer.current (resolveEntries_ptrs _ _ _ p)
  · rw [State.lockAndResolve_ptrs]
    exact resolveEntries_ptrs c.resolved c.listed s.ptrs p
  · simp [State.lockAndResolve]
  · simpa [State.lockAndResolve] using mem_rowLocks
  · simpa [State.lockAndResolve] using mem_tableLocks
  · simp [State.lockAndResolve, State.nextStage]

end Sys2Proof.Machine
end

section
/-! O15. The technique tables: WRITE_TECHNIQUE with its checks and the one entry it writes, READ_TECHNIQUE (R47, R48). -/

namespace Sys2Proof.Machine

variable {s : State} {table colour front back parity : Byte} {i : Fin 8}

/-! ## The operands of the two commands (R181) -/

theorem bankNumber_of_eq {n : Nat} (h : n = i.val) : bankNumber n = some i := by
  subst h
  exact dif_pos i.isLt

theorem bankNumber_of_le {n : Nat} (h : 8 ≤ n) : bankNumber n = none := dif_neg (Nat.not_lt.2 h)

@[simp] theorem Action.ofCode_code (a : Action) : Action.ofCode a.code = some a := by cases a <;> rfl

@[simp] theorem Parity.ofCode_code (p : Parity) : Parity.ofCode p.code = some p := by cases p <;> rfl

/-- The bytes 0 to 4 are the action codes. -/
theorem Action.ofCode_isSome (b : Byte) : (Action.ofCode b).isSome = decide (b.toNat < 5) := by
  unfold Action.ofCode
  split <;> simp_all
  omega

/-- The bytes 0 to 2 are the parity codes. -/
theorem Parity.ofCode_isSome (b : Byte) : (Parity.ofCode b).isSome = decide (b.toNat < 3) := by
  unfold Parity.ofCode
  split <;> simp_all
  omega

theorem Action.ofCode_of_le {b : Byte} (h : 5 ≤ b.toNat) : Action.ofCode b = none := by
  rw [← Option.not_isSome_iff_eq_none, Action.ofCode_isSome]
  simpa using h

theorem Parity.ofCode_of_le {b : Byte} (h : 3 ≤ b.toNat) : Parity.ofCode b = none := by
  rw [← Option.not_isSome_iff_eq_none, Parity.ofCode_isSome]
  simpa using h

theorem Action.exists_ofCode {b : Byte} (h : b.toNat < 5) : ∃ a, Action.ofCode b = some a :=
  Option.isSome_iff_exists.1 (by rw [Action.ofCode_isSome]; exact decide_eq_true h)

theorem Parity.exists_ofCode {b : Byte} (h : b.toNat < 3) : ∃ p, Parity.ofCode b = some p :=
  Option.isSome_iff_exists.1 (by rw [Parity.ofCode_isSome]; exact decide_eq_true h)

/-! ## The entry written -/

/-- A write of one entry, read back: the entry it names takes the value, every other keeps its own (R47). -/
theorem TechniqueMemory.setEntry_entry (m : TechniqueMemory) (b b' : Fin 8) (k k' : Colour) (e : TechniqueEntry) :
    (m.setEntry b k e).entry b' k' = if b' = b ∧ k' = k then e else m.entry b' k' := by
  by_cases hb : b' = b
  · subst hb
    by_cases hk : k' = k
    · subst hk
      simp [TechniqueMemory.entry, TechniqueMemory.setEntry]
    · have hne : k.toNat ≠ k'.toNat := fun h => hk (BitVec.eq_of_toNat_eq h.symm)
      simp [TechniqueMemory.entry, TechniqueMemory.setEntry, Vector.getElem_set_ne, hne, hk]
  · rw [m.setEntry_entry_of_ne hb, if_neg fun h => hb h.1]

/-! ## The rules of the two commands -/

theorem ownWriteTechnique_ok {f b : Action} {p : Parity} (hi : table.toNat = i.val) (hc : colour.toNat < 16)
    (hl : i ∉ s.tech.locks) : ownWriteTechnique table colour f.code b.code p.code s =
      (.ok, s.withTech (s.tech.setEntry i (colour.setWidth 4) ⟨f, b, p⟩)) := by
  simp only [ownWriteTechnique, bankNumber_of_eq hi, colourOf_of_lt hc, Action.ofCode_code, Parity.ofCode_code, if_neg hl]

theorem ownWriteTechnique_inUse (hi : table.toNat = i.val) (hc : colour.toNat < 16) (hf : front.toNat < 5)
    (hb : back.toNat < 5) (hp : parity.toNat < 3) (hl : i ∈ s.tech.locks) :
    ownWriteTechnique table colour front back parity s = (.inUse, s) := by
  obtain ⟨f, hf⟩ := Action.exists_ofCode hf
  obtain ⟨b, hb⟩ := Action.exists_ofCode hb
  obtain ⟨p, hp⟩ := Parity.exists_ofCode hp
  simp only [ownWriteTechnique, bankNumber_of_eq hi, colourOf_of_lt hc, hf, hb, hp, if_pos hl]

theorem ownWriteTechnique_range (h : 8 ≤ table.toNat ∨ 16 ≤ colour.toNat ∨ 5 ≤ front.toNat ∨ 5 ≤ back.toNat ∨
    3 ≤ parity.toNat) : ownWriteTechnique table colour front back parity s = (.range, s) := by
  have hnone : bankNumber table.toNat = none ∨ colourOf colour = none ∨ Action.ofCode front = none ∨
      Action.ofCode back = none ∨ Parity.ofCode parity = none :=
    h.imp bankNumber_of_le (.imp colourOf_of_le (.imp Action.ofCode_of_le (.imp Action.ofCode_of_le Parity.ofCode_of_le)))
  unfold ownWriteTechnique
  split
  · simp_all
  · rfl

theorem formTechnique_ok (hi : table.toNat = i.val) (hc : colour.toNat < 16) : formTechnique table colour s =
    .plain [(s.tech.entry i (colour.setWidth 4)).front.code, (s.tech.entry i (colour.setWidth 4)).back.code,
      (s.tech.entry i (colour.setWidth 4)).parity.code] .ok := by
  simp only [formTechnique, bankNumber_of_eq hi, colourOf_of_lt hc]

theorem formTechnique_range (h : 8 ≤ table.toNat ∨ 16 ≤ colour.toNat) :
    formTechnique table colour s = .plain (zeros 3) .range := by
  rcases h with h | h
  · simp only [formTechnique, bankNumber_of_le h]
  · rw [formTechnique, colourOf_of_le h]
    cases bankNumber table.toNat <;> rfl

/-! ## The statement -/

/-- Settles O15, from the checks of the two commands and from the entry read back after its write. -/
theorem techniquesReadBack : Obligations.TechniquesReadBack := by
  refine ⟨fun s table colour f b p i h hi hc hl => ⟨s.tech.setEntry i (colour.setWidth 4) ⟨f, b, p⟩, ?_, rfl,
      fun j k => s.tech.setEntry_entry i j _ k _⟩,
    fun s table colour front back parity h hrange => ?_,
    fun s table colour front back parity i h hi hc hf hb hp hl => ?_,
    fun s table colour i h hi hc => congrArg _ (takeRead_look h rfl (formTechnique_ok hi hc) (by decide)),
    fun s table colour h hrange => congrArg _ (takeRead_look h rfl (formTechnique_range hrange) (by decide))⟩
  · exact congrArg _ (takeWrite_pattern h rfl (ownWriteTechnique_ok (s := s.loadBroken) hi hc hl))
  · exact congrArg _ (takeWrite_pattern h rfl (ownWriteTechnique_range hrange))
  · exact congrArg _ (takeWrite_pattern h rfl (ownWriteTechnique_inUse (s := s.loadBroken) hi hc hf hb hp hl))

end Sys2Proof.Machine
end

section
/-! O35. The colour of a system at a needle, and kind suppression (R45, R90 to R93). -/

namespace Sys2Proof.Machine

/-! ## Repeat, shift and mirror (R90, R91) -/

theorem repeatWidth_eq (n : Nat) (e : SystemEntry) : repeatWidth n e = min e.width n := rfl

/-- The column in the repeat before the mirror, as a cell number (R90). -/
def repeatColumn (n : Nat) (e : SystemEntry) (i : Nat) : Nat :=
  (((i : Int) - e.origin + e.shift) % (repeatWidth n e : Int)).toNat

section Repeat
variable {n : Nat} {e : SystemEntry}

theorem repeatColumn_eq (h : 0 < repeatWidth n e) (i : Nat) :
    (repeatColumn n e i : Int) = ((i : Int) - e.origin + e.shift) % (repeatWidth n e : Int) :=
  Int.toNat_of_nonneg (Int.emod_nonneg _ (by omega))

theorem repeatColumn_lt (h : 0 < repeatWidth n e) (i : Nat) : repeatColumn n e i < repeatWidth n e := by
  have hlt := Int.emod_lt_of_pos ((i : Int) - e.origin + e.shift) (Int.natCast_pos.2 h)
  rw [← repeatColumn_eq h] at hlt
  exact_mod_cast hlt

/-- The column is the shifted index up to whole repeats (R90). -/
theorem repeatColumn_emod (h : 0 < repeatWidth n e) (i : Nat) :
    ((i : Int) - e.origin + e.shift - repeatColumn n e i) % (repeatWidth n e : Int) = 0 := by
  rw [repeatColumn_eq h]
  exact Int.emod_eq_zero_of_dvd (Int.dvd_self_sub_emod)

/-- The mirror counts the columns of the repeat from its other end (R91). -/
theorem baseColumn_toNat (h : 0 < repeatWidth n e) (i : Nat) : (baseColumn n e i).toNat =
    if e.mirror then repeatWidth n e - 1 - repeatColumn n e i else repeatColumn n e i := by
  have hcol := repeatColumn_eq h i
  dsimp only [baseColumn]
  split <;> omega

end Repeat

/-! ## Exchange and overlay (R92, R93) -/

@[simp] theorem exchangeColour_none (k : Colour) : exchangeColour none k = k := rfl

theorem exchangeColour_first (a b : Colour) : exchangeColour (some (a, b)) a = b := if_pos rfl

theorem exchangeColour_second (a b : Colour) : exchangeColour (some (a, b)) b = a := by
  simp only [exchangeColour, if_true, ite_eq_right_iff]
  exact id

theorem exchangeColour_other {a b k : Colour} (ha : k ≠ a) (hb : k ≠ b) : exchangeColour (some (a, b)) k = k := by
  simp only [exchangeColour, if_neg ha, if_neg hb]

@[simp] theorem overlayColour_none (m : Memory) (i : Nat) (k : Colour) : overlayColour m none i k = k := rfl

/-- On the bed an overlay shows its own cell, but where it does not reach or holds its key (R93). -/
theorem overlayColour_some (m : Memory) (o : Overlay) {i : Nat} (hi : i < 1280) (k : Colour) :
    overlayColour m (some o) i k =
      if o.origin ≤ i ∧ i < o.origin + o.width ∧ Memory.read m o.row (i - o.origin) ≠ o.key
      then Memory.read m o.row (i - o.origin) else k := by
  have hcell : i - o.origin ≤ 1279 := by omega
  simp only [overlayColour, hcell, and_true, ← and_assoc]
  by_cases hcover : o.origin ≤ i ∧ i < o.origin + o.width
  · by_cases hkey : Memory.read m o.row (i - o.origin) = o.key <;> simp [hcover, hkey]
  · simp [hcover]

/-! ## Kind suppression (R45) -/

@[simp] theorem suppress_miss (k : Kind) : suppress k .miss = .miss := by cases k <;> rfl

theorem suppress_knit (a : Action) : suppress .knit a = if a = .knit ∨ a = .tuck then a else .miss := by
  cases a <;> rfl

theorem suppress_transfer (a : Action) : suppress .transfer a = if a = .xfer ∨ a = .recv then a else .miss := by
  cases a <;> rfl

/-- Settles O35, from the column in the repeat, the exchange and the overlay. -/
theorem colourAndSuppression : Obligations.ColourAndSuppression := by
  refine ⟨fun m n row i e hn hi hmax hw => ?_, fun a => ⟨suppress_knit a, suppress_transfer a⟩⟩
  have hpos : 0 < repeatWidth n e := by rw [repeatWidth_eq]; omega
  have hcolour : colourAt m n row e i = overlayColour m e.overlay i (exchangeColour e.exchange (Memory.read m row
      (if e.mirror then repeatWidth n e - 1 - repeatColumn n e i else repeatColumn n e i))) := by
    rw [colourAt, baseColumn_toNat hpos]
  refine ⟨repeatWidth n e, repeatColumn n e i, _, exchangeColour e.exchange _, rfl, repeatColumn_lt hpos i,
    repeatColumn_emod hpos i, rfl, fun hx => by rw [hx, exchangeColour_none], fun a b hx => ?_,
    fun ho => by rw [hcolour, ho, overlayColour_none], fun o ho => ?_⟩
  · rw [hx]
    exact ⟨fun h => h ▸ exchangeColour_first a b, fun h => h ▸ exchangeColour_second a b, exchangeColour_other⟩
  · rw [hcolour, ho, overlayColour_some m o (hi.trans_le hmax)]

end Sys2Proof.Machine
end

section
/-! O36. Stage 4 of arming: the head lists, the system extents, and the suppression note (R42 to R46, R94 to R96, R100). -/

namespace Sys2Proof.Machine

variable {s : State} {c : Course}

/-! ## The entry whose lists are built (R63, R96) -/

/-- Among the entries listed in the order of `systems`, the one of a system is the course's entry for it. -/
theorem find?_filterMap_system (entries : List SystemEntry) (systems : List System) (sys : System) :
    (systems.filterMap fun t => entries.find? fun e => decide (e.system = t)).find? (fun e => decide (e.system = sys)) =
      if sys ∈ systems then entries.find? fun e => decide (e.system = sys) else none := by
  induction systems with
  | nil => rfl
  | cons t systems ih =>
    cases hfound : entries.find? fun e => decide (e.system = t) with
    | none =>
      rw [List.filterMap_cons, hfound, ih]
      by_cases hsys : sys = t
      · subst hsys; simp [hfound]
      · simp [hsys]
    | some f =>
      have hf : f.system = t := by simpa using List.find?_some hfound
      rw [List.filterMap_cons, hfound, List.find?_cons, hf, ih]
      by_cases hsys : sys = t
      · subst hsys; simp [hfound]
      · simp [hsys, Ne.symm hsys]

theorem Course.find?_listed (c : Course) (sys : System) : c.listed.find? (fun e => decide (e.system = sys)) =
    c.entries.find? fun e => decide (e.system = sys) :=
  (find?_filterMap_system c.entries allSystems sys).trans (if_pos (by revert sys; decide))

@[simp] theorem Head.system_head (sys : System) (b : Bed) : Head.system (System.head sys b) = sys := by
  revert sys; cases b <;> decide

@[simp] theorem Head.bed_head (sys : System) (b : Bed) : Head.bed (System.head sys b) = b := by
  revert sys; cases b <;> decide

theorem System.head_mem (sys : System) (b : Bed) : System.head sys b ∈ allHeads := by
  revert sys; cases b <;> decide

namespace ImageInputs
variable {x : ImageInputs} {sys : System} {e : SystemEntry}

theorem builtEntry_eq_some : x.builtEntry c.listed sys = some e ↔
    c.entries.find? (fun e => decide (e.system = sys)) = some e ∧ sys.val < x.systems := by
  simp only [builtEntry, c.find?_listed]
  split <;> simp [*]

theorem builtEntry_eq_none : x.builtEntry c.listed sys = none ↔
    c.entries.find? (fun e => decide (e.system = sys)) = none ∨ x.systems ≤ sys.val := by
  simp only [builtEntry, c.find?_listed]
  split
  · next h => exact (or_iff_left (Nat.not_le.2 h)).symm
  · next h => exact iff_of_true rfl (.inr (Nat.not_lt.1 h))

end ImageInputs

/-! ## The head lists (R94 to R96) -/

/-- A store of the non-MISS actions at some needles reads them back. -/
theorem Store.read_filterMap_action (f : Nat → Action) (l : List Nat) (i : Nat) :
    Store.read .miss (l.filterMap fun j => if f j = .miss then none else some (j, f j)) i =
      if i ∈ l then f i else .miss := by
  induction l with
  | nil => rfl
  | cons j l ih =>
    rw [List.filterMap_cons]
    by_cases hij : i = j
    · subst hij
      by_cases hf : f i = .miss <;> simp [hf, ih, Store.read]
    · by_cases hf : f j = .miss <;> simp [hf, hij, ih, Store.read]

theorem read_buildList (n : Nat) (f : Nat → Action) (i : Nat) :
    Store.read .miss (buildList n f) i = if i < n then f i else .miss := by
  simp only [buildList, Store.read_filterMap_action, List.mem_range]

namespace ImageInputs
variable {x : ImageInputs} {sys : System} {e : SystemEntry} {entries : List SystemEntry}

theorem headList_some (h : x.builtEntry entries sys = some e) (b : Bed) :
    x.headList entries (System.head sys b) = buildList x.needles fun i => suppress x.kind (x.raw e b i) := by
  simp only [headList, Head.system_head, Head.bed_head, h]

theorem headList_none (h : x.builtEntry entries sys = none) (b : Bed) : x.headList entries (System.head sys b) = [] := by
  simp only [headList, Head.system_head, h]

/-- An entry of a built list is the action before suppression, under the course's kind (R96). -/
theorem read_headList (h : x.builtEntry entries sys = some e) (b : Bed) {i : Nat} (hi : i < x.needles) :
    Store.read .miss (x.headList entries (System.head sys b)) i = suppress x.kind (x.raw e b i) := by
  rw [headList_some h, read_buildList, if_pos hi]

/-- No list holds an action off the bed (R96). -/
theorem read_headList_of_le (x : ImageInputs) (entries : List SystemEntry) (sys : System) (b : Bed) {i : Nat}
    (hi : x.needles ≤ i) : Store.read .miss (x.headList entries (System.head sys b)) i = .miss := by
  cases h : x.builtEntry entries sys with
  | none => rw [headList_none h]; rfl
  | some e => rw [headList_some h, read_buildList, if_neg (Nat.not_lt.2 hi)]

/-- A front entry: inside the zone the table's front action under the course's kind (R94). -/
theorem suppress_raw_front (x : ImageInputs) (e : SystemEntry) (i : Nat) : suppress x.kind (x.raw e .front i) =
    if x.zoneLeft ≤ i ∧ i ≤ x.zoneRight then suppress x.kind (x.technique e i).front else .miss := by
  simp only [raw, frontRaw, apply_ite (suppress x.kind), suppress_miss]

end ImageInputs

theorem Parity.applies_iff (p : Parity) (m : Nat) :
    p.applies m = true ↔ p = .all ∨ (p = .even ∧ m % 2 = 0) ∨ (p = .odd ∧ m % 2 = 1) := by
  cases p <;> simp [Parity.applies]

namespace ImageInputs

/-- A back entry: inside the zone and facing the front bed, the back action at the needle it faces under the course's
kind, where the parity applies (R95). -/
theorem suppress_raw_back (x : ImageInputs) (e : SystemEntry) (m : Nat) : suppress x.kind (x.raw e .back m) =
    if x.zoneLeft ≤ m ∧ m ≤ x.zoneRight ∧ 0 ≤ (m : Int) + x.racking ∧ (m : Int) + x.racking < x.needles then
      (if (x.technique e ((m : Int) + x.racking).toNat).parity.applies m = true
       then suppress x.kind (x.technique e ((m : Int) + x.racking).toNat).back else .miss)
    else .miss := by
  simp only [raw, backRaw, apply_ite (suppress x.kind), suppress_miss]
  refine if_congr ?_ rfl rfl
  tauto

end ImageInputs

/-! ## The system extents (R100) -/

section Extent
variable {n : Nat} {racking : Int} {front back : Store Action}

theorem systemExtent_eq_some {l r : Nat} : systemExtent n racking front back = some (l, r) ↔
    searchRange (isMarked n racking front back) 0 (n - 1) false = some l ∧
    searchRange (isMarked n racking front back) 0 (n - 1) true = some r := by
  unfold systemExtent
  split <;> simp_all

/-- A marked index is a needle of the bed, where no list holds an action off the bed. -/
theorem lt_of_isMarked (hf : ∀ i, n ≤ i → Store.read .miss front i = .miss) {i : Nat} (hi : i ≤ n - 1)
    (h : isMarked n racking front back i = true) : i < n := by
  by_contra hn
  have hzero : n = 0 := by omega
  simp [isMarked, hf i (Nat.not_lt.1 hn), listEntry, hzero] at h

/-- The extent's ends are marked, and every marked index lies between them. -/
theorem systemExtent_bounds {l r : Nat} (hf : ∀ i, n ≤ i → Store.read .miss front i = .miss)
    (h : systemExtent n racking front back = some (l, r)) : l ≤ r ∧ r < n ∧
      ∀ i < n, (isMarked n racking front back i = true → l ≤ i ∧ i ≤ r) ∧
        ((i = l ∨ i = r) → isMarked n racking front back i = true) := by
  obtain ⟨hl, hr⟩ := systemExtent_eq_some.1 h
  obtain ⟨hmarkl, -, -, hfirst⟩ := searchRange_eq_some (Nat.zero_le _) hl
  obtain ⟨hmarkr, -, hrn, hlast⟩ := searchRange_eq_some (Nat.zero_le _) hr
  have hbetween {i : Nat} (hi : i ≤ n - 1) (hmark : isMarked n racking front back i = true) : l ≤ i ∧ i ≤ r :=
    ⟨Nat.not_lt.1 fun hlt => Bool.false_ne_true ((hfirst i (Nat.zero_le _) hi hlt).symm.trans hmark),
      Nat.not_lt.1 fun hlt => Bool.false_ne_true ((hlast i (Nat.zero_le _) hi hlt).symm.trans hmark)⟩
  exact ⟨(hbetween hrn hmarkr).1, lt_of_isMarked hf hrn hmarkr, fun i hi =>
    ⟨hbetween (by omega), fun hends => hends.elim (· ▸ hmarkl) (· ▸ hmarkr)⟩⟩

/-- With no extent no needle is marked. -/
theorem systemExtent_none (h : systemExtent n racking front back = none) {i : Nat} (hi : i < n) :
    isMarked n racking front back i = false := by
  refine Bool.eq_false_iff.2 fun hmark => ?_
  have hfound (reverse : Bool) : ∃ j, searchRange (isMarked n racking front back) 0 (n - 1) reverse = some j :=
    Option.ne_none_iff_exists'.1 fun hnone => Bool.false_ne_true
      ((searchRange_eq_none (Nat.zero_le _) hnone (Nat.zero_le i) (by omega)).symm.trans hmark)
  obtain ⟨l, hl⟩ := hfound false
  obtain ⟨r, hr⟩ := hfound true
  exact Option.some_ne_none _ ((systemExtent_eq_some.2 ⟨hl, hr⟩).symm.trans h)

end Extent

/-! ## The suppression note (R46) -/

theorem isSuppressed_iff {k : Kind} {a : Action} : isSuppressed k a = true ↔ suppress k a ≠ a := decide_eq_true_iff

namespace ImageInputs

/-- A front action looked up is suppressed (R46, R94). -/
theorem isSuppressed_raw_front (x : ImageInputs) (e : SystemEntry) (i : Nat) :
    isSuppressed x.kind (x.raw e .front i) = true ↔ (x.zoneLeft ≤ i ∧ i ≤ x.zoneRight) ∧
      suppress x.kind (x.technique e i).front ≠ (x.technique e i).front := by
  rw [isSuppressed_iff, raw, frontRaw]
  split <;> simp [*]

/-- A back action looked up is suppressed (R46, R95). -/
theorem isSuppressed_raw_back (x : ImageInputs) (e : SystemEntry) (m : Nat) :
    isSuppressed x.kind (x.raw e .back m) = true ↔ (x.zoneLeft ≤ m ∧ m ≤ x.zoneRight) ∧
      0 ≤ (m : Int) + x.racking ∧ (m : Int) + x.racking < x.needles ∧
      (x.technique e ((m : Int) + x.racking).toNat).parity.applies m = true ∧
      suppress x.kind (x.technique e ((m : Int) + x.racking).toNat).back ≠
        (x.technique e ((m : Int) + x.racking).toNat).back := by
  rw [isSuppressed_iff, raw, backRaw]
  dsimp only
  split
  · split <;> simp [*]
  · simp only [suppress_miss, ne_eq, not_true_eq_false, false_iff]
    tauto

/-- The note is set exactly where an action of a built system was suppressed on either bed (R46). -/
theorem anySuppressed_iff {x : ImageInputs} {entries : List SystemEntry} : x.anySuppressed entries = true ↔
    ∃ (sys : System) (e : SystemEntry) (i : Nat), x.builtEntry entries sys = some e ∧ i < x.needles ∧
      (isSuppressed x.kind (x.raw e .front i) = true ∨ isSuppressed x.kind (x.raw e .back i) = true) := by
  simp only [anySuppressed, List.any_eq_true]
  constructor
  · rintro ⟨h, -, hany⟩
    cases hbuilt : x.builtEntry entries (Head.system h) with
    | none => simp [hbuilt] at hany
    | some e =>
      simp only [hbuilt, List.any_eq_true, List.mem_range] at hany
      obtain ⟨i, hi, hsup⟩ := hany
      refine ⟨Head.system h, e, i, hbuilt, hi, ?_⟩
      cases hb : Head.bed h with
      | front => exact .inl (hb ▸ hsup)
      | back => exact .inr (hb ▸ hsup)
  · rintro ⟨sys, e, i, hbuilt, hi, hsup⟩
    obtain ⟨b, hb⟩ : ∃ b, isSuppressed x.kind (x.raw e b i) = true := hsup.elim (⟨.front, ·⟩) (⟨.back, ·⟩)
    refine ⟨System.head sys b, System.head_mem sys b, ?_⟩
    simp only [Head.system_head, hbuilt, Head.bed_head, List.any_eq_true, List.mem_range]
    exact ⟨i, hi, hb⟩

end ImageInputs

/-! ## The statement -/

theorem exec_imageStage {cs : List Course} (h : s.queue.courses = c :: cs) (hc : c.state = .arming)
    (hst : s.arm.stage = some .image) : exec .imageStage s = .next (s.buildImage c) := by
  change Host.Outcome.next (s.atStage .image s.buildImage) = _
  simp only [State.atStage, State.head?_cons h, hc, hst, and_self, if_true]

theorem State.buildImage_list (sys : System) (b : Bed) : (s.buildImage c).image.lists[System.head sys b] =
    (s.imageInputs c).headList c.listed (System.head sys b) := by
  simp [State.buildImage, State.nextStage]

/-- Stage 4 leaves the zone, the plan and the course extent of the image (R86). -/
theorem State.buildImage_image_kept : (s.buildImage c).image.zone = s.image.zone ∧
    (s.buildImage c).image.plan = s.image.plan ∧ (s.buildImage c).image.extent = s.image.extent := by
  simp [State.buildImage, State.nextStage]

theorem State.buildImage_extent (sys : System) : (s.buildImage c).image.extents[sys] =
    systemExtent s.geo.record.bedNeedles c.racking (s.buildImage c).image.lists[System.head sys .front]
      (s.buildImage c).image.lists[System.head sys .back] := by
  simp [State.buildImage, State.nextStage, State.imageInputs]

theorem State.buildImage_arm : (s.buildImage c).arm = { s.arm with
    suppressed := s.arm.suppressed || (s.imageInputs c).anySuppressed c.listed
    stage := some (if c.kind = .transfer then .pairing else .carrierPlan) } := by
  cases hk : c.kind <;> simp [State.buildImage, State.nextStage, hk]

theorem State.buildImage_sameBut : (s.buildImage c).sameBut s [.image, .arm] := by
  intro b hb
  cases b <;> simp_all [Block.same]

/-- Settles O36, from the lists entry by entry, the ends of each extent, and the actions suppressed. -/
theorem imageStage : Obligations.ImageStage := by
  intro s c cs zl zr h hc hst hzone
  dsimp only
  obtain ⟨hkeptZone, hkeptPlan, hkeptExtent⟩ := State.buildImage_image_kept (s := s) (c := c)
  have hzl : (s.imageInputs c).zoneLeft = zl := by simp [State.imageInputs, hzone]
  have hzr : (s.imageInputs c).zoneRight = zr := by simp [State.imageInputs, hzone]
  refine ⟨s.buildImage c, exec_imageStage h hc hst, fun sys e he hsys => ⟨fun i hi => ?_, fun m hm => ?_⟩,
    fun sys b hnone => ?_, fun sys l r hlr => ?_, fun sys hnone i hi => ?_, hkeptZone, hkeptPlan, hkeptExtent, ?_, ?_,
    State.buildImage_sameBut⟩
  · rw [State.buildImage_list, ImageInputs.read_headList (ImageInputs.builtEntry_eq_some.2 ⟨he, hsys⟩) .front hi,
      ImageInputs.suppress_raw_front, hzl, hzr]
    rfl
  · rw [State.buildImage_list, ImageInputs.read_headList (ImageInputs.builtEntry_eq_some.2 ⟨he, hsys⟩) .back hm,
      ImageInputs.suppress_raw_back, hzl, hzr]
    simp only [Parity.applies_iff]
    rfl
  · rw [State.buildImage_list, ImageInputs.headList_none (ImageInputs.builtEntry_eq_none.2 hnone)]
  · rw [State.buildImage_extent] at hlr
    refine systemExtent_bounds (fun i hi => ?_) hlr
    rw [State.buildImage_list]
    exact ImageInputs.read_headList_of_le _ _ _ _ hi
  · rw [State.buildImage_extent] at hnone
    exact systemExtent_none hnone hi
  · rw [State.buildImage_arm]
  · rw [State.buildImage_arm]
    simp only [Bool.or_eq_true, ImageInputs.anySuppressed_iff, ImageInputs.builtEntry_eq_some,
      ImageInputs.isSuppressed_raw_front, ImageInputs.isSuppressed_raw_back, hzl, hzr, ← and_or_left, and_assoc]
    rfl

end Sys2Proof.Machine
end

section
/-! O16. The row pointers: SET_POINTER with its bounds, READ_POINTER, and the advance by UP, DOWN and FIXED (R52 to
R56). -/

namespace Sys2Proof.Machine

/-! ## The bytes of a layout (R181) -/

/-- Bytes `l` standing at byte `i` hold the number they spell, most significant first (R181). -/
theorem holdsAt_of_drop {bytes l rest : List Byte} {i width : Nat} {x : Int} (h : bytes.drop i = l ++ rest)
    (hl : l.length = width) (hpos : 0 < width)
    (hx : ((l.foldl (fun n b => 256 * n + b.toNat) 0 : Nat) : Int) = x % 256 ^ width) : holdsAt bytes i width x := by
  have hlen := congrArg List.length h
  rw [List.length_drop, List.length_append, hl] at hlen
  refine ⟨by omega, ?_⟩
  rw [h, List.take_left' hl, hx]

theorem holdsAt_byteOf {bytes rest : List Byte} {i : Nat} {x : Int} (h : bytes.drop i = byteOf x :: rest) :
    holdsAt bytes i 1 x := by
  refine holdsAt_of_drop (l := [byteOf x]) h rfl (by decide) ?_
  simp only [List.foldl_cons, List.foldl_nil, byteOf_toNat]
  omega

theorem holdsAt_be2 {bytes rest : List Byte} {i : Nat} {x : Int} (h : bytes.drop i = be2 x ++ rest) :
    holdsAt bytes i 2 x := by
  refine holdsAt_of_drop h rfl (by decide) ?_
  simp only [be2, List.foldl_cons, List.foldl_nil, byteOf_toNat]
  omega

theorem PointerMode.code_eq_byteOf (m : PointerMode) :
    m.code = byteOf (match m with | .fixed => 0 | .up => 1 | .down => 2) := by
  cases m <;> rfl

/-- The five fields of a pointer, wherever they stand in a reply, are laid out as SET_POINTER takes them (R181). -/
theorem Pointer.fields_laidOut (p : Pointer) {bytes rest : List Byte} {i : Nat} (h : bytes.drop i = p.fields ++ rest) :
    p.laidOut bytes i := by
  have hdrop (k : Nat) : bytes.drop (i + k) = (p.fields ++ rest).drop k := by rw [← List.drop_drop, h]
  exact ⟨holdsAt_be2 (hdrop 0), holdsAt_be2 (hdrop 2), holdsAt_be2 (hdrop 4),
    holdsAt_byteOf ((hdrop 6).trans (congrArg (· :: byteOf p.step :: rest) p.mode.code_eq_byteOf)),
    holdsAt_byteOf (hdrop 7)⟩

theorem Pointer.fields_length (p : Pointer) : p.fields.length = 8 := rfl

/-! ## SET_POINTER and READ_POINTER (R53, R55) -/

variable {s : State} {pointer mode step : Byte} {current low high : BitVec 16} {m : PointerMode} {i : Fin 8}

@[simp] theorem PointerMode.ofCode_code (m : PointerMode) : PointerMode.ofCode m.code = some m := by cases m <;> rfl

theorem PointerMode.ofCode_of_le {b : Byte} (h : 3 ≤ b.toNat) : PointerMode.ofCode b = none := by
  unfold PointerMode.ofCode
  split
  · omega
  · omega
  · omega
  · rfl

theorem pointerOf_eq (hl : low.toNat ≤ current.toNat) (hh : current.toNat ≤ high.toNat) (hr : high.toNat < 512)
    (h1 : 1 ≤ step.toNat) (h2 : step.toNat ≤ 15) : pointerOf current low high m.code step =
      some ⟨current.toNat, low.toNat, high.toNat, m, step.toNat⟩ := by
  simp only [pointerOf, rowOf_of_lt (show low.toNat < 512 by omega), rowOf_of_lt hr, PointerMode.ofCode_code,
    natIn_of_le h1 h2, if_pos (And.intro hl hh)]

/-- A frame that breaks one bound gives no pointer (R53). -/
theorem pointerOf_eq_none (h : 512 ≤ low.toNat ∨ 512 ≤ high.toNat ∨ current.toNat < low.toNat ∨
    high.toNat < current.toNat ∨ 3 ≤ mode.toNat ∨ step.toNat = 0 ∨ 15 < step.toNat) :
    pointerOf current low high mode step = none := by
  unfold pointerOf
  split
  · next lo hi m st hlo hhi hm hst =>
    obtain ⟨rfl, hlo⟩ := rowOf_eq_some hlo
    obtain ⟨rfl, hhi⟩ := rowOf_eq_some hhi
    obtain ⟨h1, h2, hst⟩ := natIn_eq_some.1 hst
    have hmode : mode.toNat < 3 := by
      by_contra hle
      rw [PointerMode.ofCode_of_le (Nat.not_lt.1 hle)] at hm
      cases hm
    simp only [Config.rowCount] at hlo hhi
    exact if_neg (by omega)
  · rfl

theorem ownSetPointer_ok (hi : pointer.toNat = i.val) (hl : low.toNat ≤ current.toNat)
    (hh : current.toNat ≤ high.toNat) (hr : high.toNat < 512) (h1 : 1 ≤ step.toNat) (h2 : step.toNat ≤ 15) :
    ownSetPointer pointer current low high m.code step s =
      (.ok, s.withPtrs (s.ptrs.set i.val ⟨current.toNat, low.toNat, high.toNat, m, step.toNat⟩)) := by
  simp only [ownSetPointer, bankNumber_of_eq hi, pointerOf_eq hl hh hr h1 h2]

theorem ownSetPointer_range (h : 8 ≤ pointer.toNat ∨ 512 ≤ low.toNat ∨ 512 ≤ high.toNat ∨
    current.toNat < low.toNat ∨ high.toNat < current.toNat ∨ 3 ≤ mode.toNat ∨ step.toNat = 0 ∨ 15 < step.toNat) :
    ownSetPointer pointer current low high mode step s = (.range, s) := by
  rcases h with h | h
  · simp only [ownSetPointer, bankNumber_of_le h]
  · rw [ownSetPointer, pointerOf_eq_none h]
    cases bankNumber pointer.toNat <;> rfl

/-- One pointer written, the pointers read back: it alone takes the value (R53). -/
theorem pointers_set_get (ptrs : Vector Pointer 8) (i j : Fin 8) (p : Pointer) :
    (ptrs.set i.val p)[j] = if j = i then p else ptrs[j] := by
  rw [Fin.getElem_fin, Vector.getElem_set]
  simp only [Fin.ext_iff, eq_comm, Fin.getElem_fin]

theorem formPointer_ok (hi : pointer.toNat = i.val) : formPointer pointer s = .plain s.ptrs[i].fields .ok := by
  simp only [formPointer, bankNumber_of_eq hi]

theorem formPointer_range (h : 8 ≤ pointer.toNat) : formPointer pointer s = .plain (zeros 8) .range := by
  simp only [formPointer, bankNumber_of_le h]

/-! ## The advance (R56) -/

namespace Pointer

variable (p : Pointer)

@[simp] theorem advance_low : p.advance.low = p.low := by unfold advance; split <;> rfl
@[simp] theorem advance_high : p.advance.high = p.high := by unfold advance; split <;> rfl
@[simp] theorem advance_mode : p.advance.mode = p.mode := by unfold advance; split <;> rfl
@[simp] theorem advance_step : p.advance.step = p.step := by unfold advance; split <;> rfl

variable {p}

theorem advance_current_fixed (h : p.mode = .fixed) : p.advance.current = p.current := by rw [advance, h]

/-- A distance wrapped in the band and counted from its lower end is never negative, so no row is cut off (R56). -/
theorem toNat_wrapped (h : p.inBand) (x : Int) : (((p.low : Int) + x % ((p.high : Int) - p.low + 1)).toNat : Int) =
    p.low + x % ((p.high : Int) - p.low + 1) := by
  obtain ⟨hl, hh, _⟩ := h
  have hnonneg := Int.emod_nonneg x (show (p.high : Int) - p.low + 1 ≠ 0 by omega)
  exact Int.toNat_of_nonneg (by omega)

theorem advance_current_up (h : p.inBand) (hm : p.mode = .up) : (p.advance.current : Int) =
    p.low + ((p.current : Int) - p.low + p.step) % ((p.high : Int) - p.low + 1) := by
  rw [advance, hm]
  exact toNat_wrapped h _

theorem advance_current_down (h : p.inBand) (hm : p.mode = .down) : (p.advance.current : Int) =
    p.low + ((p.current : Int) - p.low - p.step) % ((p.high : Int) - p.low + 1) := by
  rw [advance, hm]
  exact toNat_wrapped h _

end Pointer

/-! ## The statement -/

/-- Settles O16, from the bounds of SET_POINTER, the layout of the reply, and the advance mode by mode. -/
theorem pointersSetReadAndAdvance : Obligations.PointersSetReadAndAdvance :=
  ⟨⟨fun s pointer step current low high m i h hi hl hh hr h1 h2 =>
        ⟨_, congrArg _ (takeWrite_pattern h rfl (ownSetPointer_ok (s := s.loadBroken) hi hl hh hr h1 h2)),
          fun j => pointers_set_get s.ptrs i j _⟩,
      fun s pointer mode step current low high h hrange =>
        congrArg _ (takeWrite_pattern h rfl (ownSetPointer_range hrange)),
      fun s pointer i h hi => ⟨s.ptrs[i].fields, s.ptrs[i].fields_length,
        s.ptrs[i].fields_laidOut (List.append_nil _).symm,
        congrArg _ (takeRead_look h rfl (formPointer_ok hi) (by decide))⟩,
      fun s pointer h hrange => congrArg _ (takeRead_look h rfl (formPointer_range hrange) (by decide))⟩,
    fun p hp => ⟨p.advance_low, p.advance_high, p.advance_mode, p.advance_step, Pointer.advance_current_up hp,
      Pointer.advance_current_down hp, Pointer.advance_current_fixed, Pointer.advance_inBand hp⟩⟩

end Sys2Proof.Machine
end

section
/-! SUPPORT. How the course queue and COMPLETION_WAITING move in one step: the few moves there are, which command makes
each of them, and that every step of every command is one of them (R66, R68 to R72, R75, R78, R79, R81, R84, R85). -/

namespace Sys2Proof.Machine

/-! ## The ledger and its moves -/

/-- The course queue and whether COMPLETION_WAITING is pending. -/
structure Ledger where
  queue : CourseQueue
  waiting : Bool

/-- The ledger of a state. -/
def State.ledger (s : State) : Ledger := ⟨s.queue, s.patternReasons.completionWaiting⟩

/-- A head course past QUEUED keeps its state, returns to QUEUED from ARMING or ARMED, or faults from KNITTING (R70). -/
def CourseState.falls (a b : CourseState) : Prop :=
  a ≠ .queued ∧ (b = a ∨ (b = .queued ∧ (a = .arming ∨ a = .armed)) ∨ (a = .knitting ∧ b = .faulted))

namespace Ledger

/-- The number of slots in use (R68). -/
def slots (l : Ledger) : Nat := l.queue.courses.length + l.queue.completions.length

/-- Only the head course is past QUEUED (R69). -/
def tailQueued (l : Ledger) : Prop := ∀ c ∈ l.queue.courses.tail, c.state = .queued

/-- Other courses in the queue. -/
def withCourses (l : Ledger) (cs : List Course) : Ledger := { l with queue := { l.queue with courses := cs } }

/-- The head course has left the queue for the completion list (R72). -/
def retired (l : Ledger) (cs : List Course) (record : CompletionRecord) : Ledger :=
  ⟨{ l.queue with courses := cs, completions := l.queue.completions ++ [record] }, true⟩

/-- The moves that any event may make: a head course past QUEUED changes or falls back, or a KNITTING or FAULTED one
retires. -/
inductive Settles (l : Ledger) : Ledger → Prop
  | still : Settles l l
  | head {c c' : Course} {cs : List Course} (h : l.queue.courses = c :: cs) (hs : c.state.falls c'.state) :
    Settles l (l.withCourses (c' :: cs))
  | retire {c : Course} {cs : List Course} (record : CompletionRecord) (h : l.queue.courses = c :: cs)
    (hs : c.state = .knitting ∨ c.state = .faulted) : Settles l (l.retired cs record)

/-- The moves of a step of command `i`. -/
inductive Turn (i : Instr) (l : Ledger) : Ledger → Prop
  | settle {l' : Ledger} (h : l.Settles l') : Turn i l l'
  | commit {c : Course} (hq : c.state = .queued) (hs : l.slots < Config.slotCount) :
    Turn i l (l.withCourses (l.queue.courses ++ [c]))
  | drop {c : Course} {cs : List Course} (h : l.queue.courses = c :: cs) (hq : c.state = .queued) :
    Turn i l (l.withCourses cs)
  | fetch : Turn i l ⟨{ l.queue with completions := l.queue.completions.tail },
      l.waiting && !l.queue.completions.tail.isEmpty⟩
  | settings {left right : Int} {want : Nat} (hw : want = l.queue.wantLevel ∨ want ≤ 15) :
    Turn i l { l with queue := { l.queue with zoneLeft := left, zoneRight := right, wantLevel := want } }
  | request {c c' : Course} {cs : List Course} (hi : i = .requestStroke .fits) (h : l.queue.courses = c :: cs)
    (hq : c.state = .queued) (ha : c'.state = .arming ∨ c'.state = .queued) : Turn i l (l.withCourses (c' :: cs))
  | grant {c c' : Course} {cs : List Course} (hi : i = .completionAndGrant) (h : l.queue.courses = c :: cs)
    (hq : c.state = .arming) (ha : c'.state = .armed) : Turn i l (l.withCourses (c' :: cs))
  | begin {c c' : Course} {cs : List Course} (hi : i = .beginStroke .fits) (h : l.queue.courses = c :: cs)
    (hq : c.state = .armed) (ha : c'.state = .knitting) : Turn i l (l.withCourses (c' :: cs))
  | beginAtEnd {c : Course} {cs : List Course} (record : CompletionRecord) (hi : i = .beginStroke .fits)
    (h : l.queue.courses = c :: cs) (hq : c.state = .armed) : Turn i l (l.retired cs record)
  | resume {c c' : Course} {cs : List Course} {l' : Ledger} (hi : i = .resumeStroke .fits)
    (h : l.queue.courses = c :: cs) (hq : c.state = .faulted) (ha : c'.state = .knitting)
    (hs : (l.withCourses (c' :: cs)).Settles l') : Turn i l l'
  | clear : Turn i l ⟨.initial, false⟩

variable {l l' l'' : Ledger}

theorem Settles.tailQueued (h : l.Settles l') (hq : l.tailQueued) : l'.tailQueued := by
  cases h with
  | still => exact hq
  | head h hs => simpa [Ledger.tailQueued, withCourses, h] using hq
  | retire record h hs => exact fun c hc => hq c (by rw [h]; exact List.mem_of_mem_tail hc)

/-- Behind the head every course is QUEUED, so nothing settles further once the head course has left. -/
theorem Settles.trans (hq : l.tailQueued) (h : l.Settles l') (h' : l'.Settles l'') : l.Settles l'' := by
  cases h with
  | still => exact h'
  | @head c c' cs h hs =>
    cases h' with
    | still => exact .head h hs
    | @head d d' ds hd hs' =>
      cases hd
      refine .head h ⟨hs.1, ?_⟩
      obtain ⟨-, hb⟩ := hs
      obtain ⟨hne, hb'⟩ := hs'
      grind
    | @retire d ds record hd hs' =>
      cases hd
      refine .retire (c := c) record h ?_
      obtain ⟨-, hb⟩ := hs
      grind
  | @retire c cs record h hs =>
    have hidle (d : Course) (ds : List Course) (hd : cs = d :: ds) : d.state = .queued := hq d (by simp [h, hd])
    cases h' with
    | still => exact .retire record h hs
    | @head d d' ds hd hs' => exact absurd (hidle d ds hd) hs'.1
    | @retire d ds record' hd hs' => rw [hidle d ds hd] at hs'; simp at hs'

end Ledger
end Sys2Proof.Machine
end

section
/-! SUPPORT. The shared operations of the stroke, of the stops and of arming: each only settles the queue (R70 to R72, R136,
R156, R163). -/

namespace Sys2Proof.Machine

/-- The queue settles from one state to the next, if only its head is past QUEUED. -/
def QueueSettles (s t : State) : Prop := s.ledger.tailQueued → s.ledger.Settles t.ledger

variable {s t u : State}

/-- The pairs that R156 adds to a course's list: each entry still CARRYING, in plan order. -/
def carriedPairs (plan : List PlanEntry) : List (Carrier × Int) :=
  (plan.filter fun e => decide (e.progress = .carrying)).map fun e => (e.carrier, e.release)

/-- The release of the carriers still carried adds their pairs to the head course's list (R74, R156). -/
theorem State.releaseCarrying_queue {c : Course} {cs : List Course} (h : s.queue.courses = c :: cs) :
    s.releaseCarrying.queue =
      { s.queue with courses := { c with parked := c.parked ++ carriedPairs s.image.plan } :: cs } := by
  unfold State.releaseCarrying
  generalize s.image.plan = plan
  induction plan generalizing s c with
  | nil => simp [carriedPairs, ← h]
  | cons e es ih =>
    rw [List.foldl_cons]
    by_cases he : e.progress = .carrying
    · have hone : (s.releaseCarrier e.carrier e.release).queue =
          { s.queue with courses := { c with parked := c.parked ++ [(e.carrier, e.release)] } :: cs } := by
        simp [State.releaseCarrier, State.changeHead, h]
      rw [if_pos he, ih (by rw [hone])]
      simp [hone, carriedPairs, he]
    · rw [if_neg he, ih h]
      simp [carriedPairs, he]

/-- A completed stroke retires its course with every carrier's pair (R72, R156). -/
theorem State.completeStroke_ledger {c : Course} {cs : List Course} (h : s.queue.courses = c :: cs) :
    s.completeStroke.ledger = s.ledger.retired cs
      ({ c with parked := c.parked ++ carriedPairs s.image.plan }.completion .done) := by
  have hq := State.releaseCarrying_queue h
  obtain ⟨hretire, -, -, -, -, hreasons⟩ := State.retire_effect (s := s.releaseCarrying) (by rw [hq]) .done
  simp only [State.ledger, State.completeStroke, Ledger.retired, State.raiseStrokeDone_queue,
    State.raiseStrokeDone_patternReasons, hretire, hreasons, hq]

namespace QueueSettles

theorem of_eq (h : t.ledger = s.ledger) : QueueSettles s t := fun _ => by rw [h]; exact .still

/-- Neither the queue nor a Pattern Port reason changes. -/
theorem of_blocks (hq : t.queue = s.queue) (hr : t.patternReasons = s.patternReasons) : QueueSettles s t :=
  of_eq (by rw [State.ledger, State.ledger, hq, hr])

theorem refl (s : State) : QueueSettles s s := of_eq rfl

theorem trans (h : QueueSettles s t) (h' : QueueSettles t u) : QueueSettles s u := fun hq =>
  (h hq).trans hq (h' ((h hq).tailQueued hq))

/-- From a state of the same ledger. -/
theorem after (h : QueueSettles t u) (h' : t.ledger = s.ledger) : QueueSettles s u := .trans (.of_eq h') h

theorem frameFree : FrameFree QueueSettles where
  refl := refl
  trans := trans
  port s p x := of_blocks (by simp) (by simp)
  breakLoad s b := of_blocks (by simp) (by simp)
  pending s x := of_blocks (by simp) (by simp)

/-- The record of the head course changes, and its state falls back or stays. -/
theorem changeHead {f : Course → Course} (h : ∀ c, s.head? = some c → c.state.falls (f c).state) :
    QueueSettles s (s.changeHead f) := by
  rcases hc : s.queue.courses with _ | ⟨c, cs⟩
  · have hnone : s.changeHead f = s := by simp only [State.changeHead, hc]; rw [← hc]; rfl
    exact of_eq (by rw [hnone])
  · intro _
    have ht : (s.changeHead f).ledger = s.ledger.withCourses (f c :: cs) := by
      simp [State.ledger, Ledger.withCourses, State.changeHead_courses hc]
    rw [ht]
    exact .head hc (h c (State.head?_cons hc))

/-- Another field of the record of a head course past QUEUED. -/
theorem changeField {f : Course → Course} {st : CourseState} (hf : ∀ c, (f c).state = c.state) (hs : st ≠ .queued)
    (h : s.headIs st = true) : QueueSettles s (s.changeHead f) := by
  refine changeHead fun c hc => ⟨?_, .inl (hf c)⟩
  simp only [State.headIs, hc, Option.map_some, Option.some.injEq, decide_eq_true_eq] at h
  rwa [h]

theorem strokeFault (s : State) (r : FaultReason) (k : Option Carrier) (hd : Option Head) :
    QueueSettles s (s.strokeFault r k hd) := by
  unfold State.strokeFault
  split
  · exact refl s
  · next c hc =>
    split
    · next hk =>
      refine .trans (.of_blocks (t := (s.withHeads s.heads.silence).changeCarriers fun _ e => e.hold) (by simp) (by simp))
        (.trans (.changeHead (f := fun c => { c with state := .faulted, lastFault := some r }) fun c' hc' => ?_)
          (.of_eq (by simp [State.ledger])))
      obtain rfl : c = c' := Option.some.inj (hc.symm.trans (by simpa [State.head?] using hc'))
      exact ⟨by simp [hk], .inr (.inr ⟨hk, rfl⟩)⟩
    · exact refl s

theorem returnToQueued (h : s.headIs .arming = true ∨ s.headIs .armed = true) : QueueSettles s s.returnToQueued := by
  refine .trans (.changeHead (f := fun c => { c with state := .queued }) fun c hc => ?_) (.of_blocks ?_ ?_)
  · simp only [State.headIs, hc, Option.map_some, Option.some.injEq, decide_eq_true_eq] at h
    exact ⟨by rcases h with h | h <;> simp [h], .inr (.inl ⟨rfl, h⟩)⟩
  · unfold State.returnToQueued; dsimp only; split <;> simp
  · simp

theorem retire (h : s.headIs .knitting = true ∨ s.headIs .faulted = true) (o : CourseOutcome) :
    QueueSettles s (s.retire o) := by
  rcases hc : s.queue.courses with _ | ⟨c, cs⟩
  · simp [State.headIs_nil hc] at h
  · intro _
    have ht : (s.retire o).ledger = s.ledger.retired cs (c.completion o) := by
      simp [State.retire, hc, State.ledger, Ledger.retired]
    rw [ht]
    exact .retire _ hc (by simpa [State.headIs_cons hc] using h)

theorem discardFaulted (h : s.headIs .faulted = true) : QueueSettles s s.discardFaulted :=
  .trans (.of_blocks (t := s.raiseHeldCatchers.changeCarriers fun _ e => e.dropHeld) (by simp) (by simp))
    (.retire (.inr (by simpa [State.headIs, State.head?] using h)) _)

theorem changeCarriers (s : State) (f : Carrier → CarrierEntry → CarrierEntry) : QueueSettles s (s.changeCarriers f) :=
  .of_blocks (by simp) (by simp)

/-! ### The stroke -/

theorem releaseCarrier (h : s.headIs .knitting = true) (k : Carrier) (q : Int) : QueueSettles s (s.releaseCarrier k q) := by
  refine .trans (.of_blocks (t := (s.withCatchers (s.catchers.set (s.railOf k).val false)).changeCarrier k
    fun _ => ⟨.parked q, s.railOf k⟩) (by simp) (by simp)) (.changeField (st := .knitting) (fun _ => rfl) (by decide) ?_)
  simpa [State.headIs, State.head?] using h

theorem completeStroke (h : s.headIs .knitting = true) : QueueSettles s s.completeStroke := by
  rcases hc : s.queue.courses with _ | ⟨c, cs⟩
  · simp [State.headIs_nil hc] at h
  · intro _
    rw [State.completeStroke_ledger hc]
    exact .retire _ hc (.inl (by simpa [State.headIs_cons hc] using h))

theorem catchCarrier (s : State) (k : Carrier) (c : Int) : QueueSettles s (s.catchCarrier k c) := by
  unfold State.catchCarrier
  dsimp only
  split
  · exact .trans (.of_blocks (by simp) (by simp)) (.strokeFault _ _ _ _)
  · exact .of_blocks (by simp) (by simp)

theorem catcherEvent (d : Direction) (c0 c : Int) (e : PlanEntry) (s : State) :
    QueueSettles s (catcherEvent d c0 c e s).2 := by
  unfold Machine.catcherEvent
  split
  · exact refl s
  · next hk =>
    split
    · exact .catchCarrier s _ _
    · split
      · exact .releaseCarrier (by simpa using hk) _ _
      · exact refl s

theorem catcherEvents (d : Direction) (c0 c : Int) (plan : List PlanEntry) (s : State) :
    QueueSettles s (catcherEvents d c0 c plan s).2 := by
  induction plan generalizing s with
  | nil => exact refl s
  | cons e es ih => exact .trans (.catcherEvent d c0 c e s) (ih _)

theorem runCatchers (s : State) (d : Direction) (c0 c : Int) : QueueSettles s (s.runCatchers d c0 c) :=
  .trans (.catcherEvents d c0 c s.image.plan s) (.of_blocks (by simp [State.runCatchers]) (by simp [State.runCatchers]))

theorem select (s : State) (h : Head) : QueueSettles s (s.select h) := by
  unfold State.select
  split
  · exact refl s
  · dsimp only
    split
    · exact .of_blocks (by simp) (by simp)
    · split
      · exact .strokeFault s _ _ _
      · exact .of_blocks (by simp) (by simp)

theorem runWork (s : State) (p0 : Nat) (w : CountWork) : QueueSettles s (s.runWork p0 w) := by
  unfold State.runWork
  split
  · next hk =>
    cases w with
    | select h => exact .select s h
    | catchers => dsimp only; split <;> [exact .runCatchers s _ _ _; exact refl s]
    | reversal => exact .strokeFault s _ _ _
    | complete => exact .completeStroke hk
  · exact refl s

theorem runFold (p0 : Nat) (works : List CountWork) (s : State) :
    QueueSettles s (works.foldl (fun u w => u.runWork p0 w) s) := by
  induction works generalizing s with
  | nil => exact refl s
  | cons w ws ih => exact .trans (.runWork s p0 w) (ih _)

theorem strokeWork (s : State) (p0 : Nat) : QueueSettles s (s.strokeWork p0) := by
  unfold State.strokeWork
  split
  · exact refl s
  · dsimp only
    split <;> exact .trans (.of_blocks (by simp) (by simp)) (.runFold p0 _ _)

theorem countChanged (s : State) (p0 : Nat) : QueueSettles s (s.countChanged p0) := by
  have hfollow (d : Direction) : QueueSettles s (s.followCatchers d p0) := .of_blocks (by simp) (by simp)
  unfold State.countChanged
  split
  · exact refl s
  · split
    · exact refl s
    · split
      · exact .trans (hfollow _) (.strokeWork _ p0)
      · exact hfollow _
      · exact refl s

theorem examineCompletion (s : State) : QueueSettles s s.examineCompletion := by
  unfold State.examineCompletion
  split
  · split
    · next h => exact .completeStroke (Bool.and_eq_true_iff.1 h).1
    · exact refl s
  · exact refl s

theorem reportBroken (s : State) (engaged : List Carrier) : QueueSettles s (s.reportBroken engaged) := by
  unfold State.reportBroken
  split
  · exact refl s
  · exact .trans (.of_blocks (by simp) (by simp)) (.strokeFault _ _ _ _)

/-! ### Stops, the position and the power-fail warning -/

theorem losePosition (s : State) : QueueSettles s s.losePosition := by
  have hlost : QueueSettles s (s.withPos { s.pos with valid := false }) := .of_blocks (by simp) (by simp)
  unfold State.losePosition
  dsimp only
  split
  · exact .of_blocks (by simp) (by simp)
  · next h => exact .trans hlost (.trans (.returnToQueued (.inr (State.head_of_map h))) (.of_blocks (by simp) (by simp)))
  · exact .trans hlost (.strokeFault _ _ _ _)
  · exact hlost

theorem takeCount (s : State) (d : Int) : QueueSettles s (s.takeCount d) := by
  unfold State.takeCount
  dsimp only
  split
  · exact .losePosition s
  · exact .trans (.of_blocks (by simp) (by simp)) (.countChanged _ _)

theorem takeStopIn (s : State) : QueueSettles s s.takeStopIn :=
  .trans (.of_blocks (by simp) (by simp)) (.strokeFault s.setLatch _ _ _)

theorem warnCourse (s : State) : QueueSettles s s.warnCourse := by
  unfold State.warnCourse
  split
  · exact refl s
  · exact refl s
  · next h => exact .returnToQueued (.inl (State.head_of_map h))
  · next h => exact .returnToQueued (.inr (State.head_of_map h))
  · exact .strokeFault s _ _ _
  · exact refl s

theorem takePfw (s : State) : QueueSettles s s.takePfw :=
  .trans (.warnCourse s) (.of_blocks (by simp [State.takePfw]) (by simp [State.takePfw]))

/-! ### The stages of arming -/

theorem refuseArming (h : s.headIs .arming = true) (tag : BitVec 16) (r : ArmingRefusal) (n : Nat) :
    QueueSettles s (s.refuseArming tag r n) := by
  have hfield (u : State) (hu : u.headIs .arming = true) :
      QueueSettles u (u.changeHead fun c => { c with lastRefusal := some ⟨r, n⟩ }) :=
    .changeField (fun _ => rfl) (by decide) hu
  refine .trans (hfield s h) (.trans (.returnToQueued (.inl ?_)) (.of_eq (by simp [State.refuseArming, State.ledger])))
  have hsame := s.changeHead_standing (f := fun c => { c with lastRefusal := some ⟨r, n⟩ }) fun _ => rfl
  rwa [State.headIs_iff, hsame, ← State.headIs_iff]

theorem lockAndResolve (h : s.headIs .arming = true) (c : Course) : QueueSettles s (s.lockAndResolve c) :=
  .trans (.changeField (f := fun c' => { c' with resolved := (resolveEntries c.resolved c.listed s.ptrs).2 })
      (st := .arming) (fun _ => rfl) (by decide) h)
    (.of_eq (by simp [State.lockAndResolve, State.ledger, State.changeHead]))

theorem clampZone (h : s.headIs .arming = true) (c : Course) : QueueSettles s (s.clampZone c) := by
  unfold State.clampZone
  dsimp only
  split <;> [exact .refuseArming h _ _ _; exact .of_blocks (by simp) (by simp)]

theorem buildImage (s : State) (c : Course) : QueueSettles s (s.buildImage c) := .of_blocks (by simp) (by simp)

theorem checkPairs (h : s.headIs .arming = true) (c : Course) : QueueSettles s (s.checkPairs c) := by
  unfold State.checkPairs
  split <;> [exact .refuseArming h _ _ _; exact .of_blocks (by simp) (by simp)]

theorem planCarriers (h : s.headIs .arming = true) (c : Course) : QueueSettles s (s.planCarriers c) := by
  unfold State.planCarriers
  split <;> [exact .refuseArming h _ _ _; exact .of_blocks (by simp) (by simp)]

theorem findTurningPoints (h : s.headIs .arming = true) (c : Course) : QueueSettles s (s.findTurningPoints c) := by
  unfold State.findTurningPoints
  dsimp only
  split
  · exact .refuseArming h _ _ _
  · split <;> [exact .refuseArming h _ _ _; exact .of_blocks (by simp) (by simp)]

theorem findSpeed (s : State) (c : Course) : QueueSettles s (s.findSpeed c) := .of_blocks (by simp) (by simp)

theorem atStage {stage : ArmingStage} {act : Course → State}
    (h : s.headIs .arming = true → ∀ c, QueueSettles s (act c)) : QueueSettles s (s.atStage stage act) := by
  rcases s.atStage_cases stage act with he | ⟨c, hc, ha, -, he⟩
  · rw [he]; exact refl s
  · rw [he]; exact h (State.head_of_map (by rw [hc, Option.map_some, ha])) c

end QueueSettles
end Sys2Proof.Machine
end

section
/-! SUPPORT. Every command and every event as a move of the queue (R66, R68 to R72, R75, R78, R84, R85, R125, R135, R149,
R167). -/

namespace Sys2Proof.Machine

variable {s t u : State}

/-! ## Commands that only settle the queue -/

namespace QueueSettles

theorem ownWriteRow (row start : BitVec 16) (data : List Byte) (s : State) :
    QueueSettles s (ownWriteRow row start data s).2 := by
  unfold Machine.ownWriteRow; split <;> [(split <;> exact of_eq rfl); exact refl s]

theorem ownRowContinue (data : List Byte) (s : State) : QueueSettles s (ownRowContinue data s).2 := by
  unfold Machine.ownRowContinue; split <;> exact of_eq rfl

theorem ownWriteTechnique (table colour front back parity : Byte) (s : State) :
    QueueSettles s (ownWriteTechnique table colour front back parity s).2 := by
  unfold Machine.ownWriteTechnique; split <;> [(split <;> exact of_eq rfl); exact refl s]

theorem ownSetPointer (pointer : Byte) (current low high : BitVec 16) (mode step : Byte) (s : State) :
    QueueSettles s (ownSetPointer pointer current low high mode step s).2 := by
  unfold Machine.ownSetPointer; split <;> exact of_eq rfl

theorem ownSetCarrier (carrier : Byte) (position : BitVec 16) (s : State) :
    QueueSettles s (ownSetCarrier carrier position s).2 := by
  unfold Machine.ownSetCarrier
  split
  · exact refl s
  · dsimp only
    split_ifs
    case neg => exact .of_blocks (by simp) (by simp)
    all_goals exact refl s

theorem ownSetCarrierLimit (carrier speed : Byte) (s : State) : QueueSettles s (ownSetCarrierLimit carrier speed s).2 := by
  unfold Machine.ownSetCarrierLimit; split <;> [exact refl s; (split <;> exact of_eq rfl)]

theorem ownClearResumeRecord (s : State) : QueueSettles s (ownClearResumeRecord s).2 := by
  unfold Machine.ownClearResumeRecord; split <;> [exact refl s; (dsimp only; split <;> exact of_eq rfl)]

theorem ownSetGeometryField (field index : Byte) (value : BitVec 32) (s : State) :
    QueueSettles s (ownSetGeometryField field index value s).2 := by
  unfold Machine.ownSetGeometryField
  split <;> [exact refl s; (split <;> [exact .of_blocks (by simp) (by simp); exact refl s])]

theorem ownGoOnline (s : State) : QueueSettles s (ownGoOnline s).2 := by
  unfold Machine.ownGoOnline
  split <;> [exact refl s; (split <;> exact .of_blocks (by simp) (by simp))]

theorem ownGoOffline (s : State) : QueueSettles s (ownGoOffline s).2 := by
  unfold Machine.ownGoOffline; split <;> exact of_eq rfl

theorem ownStoreSettings (s : State) : QueueSettles s (ownStoreSettings s).2 := by
  unfold Machine.ownStoreSettings; split <;> exact of_eq rfl

theorem ownHomeArm (s : State) : QueueSettles s (ownHomeArm s).2 := by
  unfold Machine.ownHomeArm; split <;> exact of_eq rfl

theorem ownSetRacking (racking : Byte) (s : State) : QueueSettles s (ownSetRacking racking s).2 := by
  unfold Machine.ownSetRacking; split <;> [exact refl s; (split <;> exact of_eq rfl)]

theorem ownActuatorsOn (s : State) : QueueSettles s (ownActuatorsOn s).2 := by
  unfold Machine.ownActuatorsOn; split <;> [exact refl s; (split <;> exact of_eq rfl)]

theorem ownActuatorsOff (s : State) : QueueSettles s (ownActuatorsOff s).2 := by
  unfold Machine.ownActuatorsOff; split <;> exact of_eq rfl

theorem ownClearStop (s : State) : QueueSettles s (ownClearStop s).2 := by
  unfold Machine.ownClearStop; split <;> exact of_eq rfl

theorem clearShown (c : Carried) (s : State) : QueueSettles s (clearShown c s) := by
  unfold Machine.clearShown; split <;> exact of_eq rfl

theorem clearFault (p : Port) (c : Carried) (s : State) : QueueSettles s (clearFault p c s) := by
  unfold Machine.clearFault; split <;> [(split <;> exact of_eq rfl); exact refl s]

theorem clearOutcomeReason (c : Carried) (s : State) : QueueSettles s (clearOutcomeReason c s) := by
  unfold Machine.clearOutcomeReason; split <;> exact of_eq rfl

/-- ABANDON_STROKE returns an ARMING or ARMED head course to QUEUED or discards a FAULTED one (R140, R141, R168). -/
theorem ownAbandonStroke (s : State) : QueueSettles s (ownAbandonStroke s).2 := by
  unfold Machine.ownAbandonStroke
  split
  · exact refl s
  · exact refl s
  · exact refl s
  · next h => exact .returnToQueued (.inl (State.head_of_map h))
  · next h => exact .returnToQueued (.inr (State.head_of_map h))
  · next h => exact .discardFaulted (State.head_of_map h)

end QueueSettles

/-- The commands of a port that move the queue of themselves. -/
def movesQueue : Instr → Bool
  | .softReset _ _ => true
  | .commitCourse _ _ => true
  | .discardHead _ => true
  | .fetchCompletion _ => true
  | .setZone _ _ _ => true
  | .setWantLevel _ _ => true
  | .requestStroke _ => true
  | .beginStroke _ => true
  | .resumeStroke _ => true
  | _ => false

theorem QueueSettles.frameForm {c : Instr} {w : FrameForm} (hc : movesQueue c = false) (h : frameForm c = some w) :
    w.Keeps QueueSettles := by
  cases c with
  | softReset port e => cases hc
  | commitCourse e record => cases hc
  | discardHead e => cases hc
  | fetchCompletion frame => cases hc
  | setZone e left right => cases hc
  | setWantLevel e level => cases hc
  | requestStroke e => cases hc
  | beginStroke e => cases hc
  | resumeStroke e => cases hc
  | readStatus port frame => cases h; exact fun _ u _ => .clearShown _ u
  | readFault port frame => cases h; exact fun _ u _ => .clearFault _ _ u
  | readGrant frame => cases h; exact fun _ u _ => .clearOutcomeReason _ u
  | exchangeCell frame row cell colour => cases h; exact fun _ _ _ => .of_eq rfl
  | conditionalExchangeCell frame row cell expected new => cases h; exact fun _ _ _ => .of_eq rfl
  | writeRow e row start data => cases h; exact fun u _ => .ownWriteRow row start data u
  | rowContinue e data => cases h; exact fun u _ => .ownRowContinue data u
  | writeTechnique e table colour front back parity =>
    cases h; exact fun u _ => .ownWriteTechnique table colour front back parity u
  | setPointer e p current low high mode step =>
    cases h; exact fun u _ => .ownSetPointer p current low high mode step u
  | setGeometryField e field index value => cases h; exact fun u _ => .ownSetGeometryField field index value u
  | setCarrier e carrier position => cases h; exact fun u _ => .ownSetCarrier carrier position u
  | setCarrierLimit e carrier speed => cases h; exact fun u _ => .ownSetCarrierLimit carrier speed u
  | clearResumeRecord e => cases h; exact fun u _ => .ownClearResumeRecord u
  | goOnline e => cases h; exact fun u _ => .ownGoOnline u
  | goOffline e => cases h; exact fun u _ => .ownGoOffline u
  | storeSettings e => cases h; exact fun u _ => .ownStoreSettings u
  | homeArm e => cases h; exact fun u _ => .ownHomeArm u
  | setRacking e racking => cases h; exact fun u _ => .ownSetRacking racking u
  | actuatorsOn e => cases h; exact fun u _ => .ownActuatorsOn u
  | actuatorsOff e => cases h; exact fun u _ => .ownActuatorsOff u
  | abandonStroke e => cases h; exact fun u _ => .ownAbandonStroke u
  | setSpeedCap e speed => cases h; exact fun _ _ => .of_eq rfl
  | clearStop e => cases h; exact fun u _ => .ownClearStop u
  | unknownCommand port e code => cases h; trivial
  | _ => cases h <;> exact FrameForm.look_keeps QueueSettles.frameFree _ _ _ _ _

/-! ## Commands that move the queue of themselves -/

/-- A write frame carries out its command's own rule only if it fits, on a state with the same ledger. -/
theorem takeWrite_ledger (f : FrameShape) (breaks : Bool) (own : State → ResultCode × State) (e : FrameEnd) (s : State) :
    (takeWrite f breaks own e s).ledger = s.ledger ∨
      (e = .fits ∧ (takeWrite f breaks own e s).ledger = (own (s.breakLoad breaks)).2.ledger) := by
  unfold takeWrite
  split
  · cases e with
    | tooSoon bytes => exact .inl (by simp [State.ledger])
    | misfit bytes bits => exact .inl (by simp [State.ledger])
    | fits =>
      dsimp only
      split
      · exact .inl (by simp [State.ledger])
      · exact .inr ⟨rfl, by simp [State.ledger]⟩
  · exact .inl (by simp [State.ledger])

@[simp] theorem State.breakLoad_ledger (s : State) (b : Bool) : (s.breakLoad b).ledger = s.ledger := by
  simp [State.ledger]

/-- The moves of a write command are those of its own rule. -/
theorem Ledger.Turn.takeWrite {c : Instr} {f : FrameShape} {breaks : Bool} {own : State → ResultCode × State}
    {e : FrameEnd} {s : State} (h : ∀ u, e = .fits → u.ledger = s.ledger → s.ledger.Turn c (own u).2.ledger) :
    s.ledger.Turn c (takeWrite f breaks own e s).ledger := by
  rcases takeWrite_ledger f breaks own e s with hs | ⟨he, hs⟩
  · rw [hs]; exact .settle .still
  · rw [hs]; exact h _ he (s.breakLoad_ledger breaks)

/-- The end of a read frame is its command's own end, or leaves the ledger. -/
theorem takeRead_ledger (f : FrameShape) (exempt breaks : Bool) (form : State → Formed)
    (finish : Formed → State → ResultCode × State) (frame : ReadFrame) (s : State) :
    (takeRead f exempt breaks form finish frame s).ledger = s.ledger ∨
      ∃ formed, (takeRead f exempt breaks form finish frame s).ledger = (finish formed s).2.ledger := by
  have hend (formed : Formed) (e : FrameEnd) : (endRead f exempt breaks finish formed e s).ledger = s.ledger ∨
      (endRead f exempt breaks finish formed e s).ledger = (finish formed s).2.ledger := by
    cases e with
    | tooSoon bytes => exact .inl rfl
    | misfit bytes bits => exact .inl (by simp [endRead, State.ledger])
    | fits =>
      simp only [endRead]
      split
      · exact .inl (by simp [State.ledger])
      · exact .inr (by simp [State.ledger])
  unfold takeRead
  split
  · split
    · exact .inl (by simp [State.ledger])
    · exact (hend _ _).imp id fun h => ⟨_, h⟩
    · exact .inl (by simp [State.ledger])
    · split
      · split
        · exact (hend _ _).imp id fun h => ⟨_, h⟩
        · exact .inl rfl
      · exact .inl rfl
  · exact .inl (by simp [State.ledger])

/-- A refusal: the course returns to its place, QUEUED, with the refusal written; the locks, the image and the engine's
stage go; the outcome record and its reasons are set (R136, R137, R71). -/
theorem State.refuseArming_effect {c : Course} {cs : List Course} (h : s.queue.courses = c :: cs) (tag : BitVec 16)
    (r : ArmingRefusal) (n : Nat) :
    let t := s.refuseArming tag r n
    t.queue = { s.queue with courses := { c with state := .queued, lastRefusal := some ⟨r, n⟩ } :: cs } ∧
    t.arm = { s.arm with stage := none, outcome := some (.refusal ⟨tag, r, n⟩) } ∧
    t.mem = ⟨s.mem.cells, []⟩ ∧ t.tech = ⟨s.tech.tables, []⟩ ∧ t.image = .cleared ∧
    t.driveReasons = { s.driveReasons with
      grantReady := s.driveReasons.grantReady && !decide (c.state = .armed), refusalReady := true } ∧
    t.patternReasons = { s.patternReasons with headRefused := true } ∧
    t.reasonCounts = { s.reasonCounts with outcome := s.reasonCounts.outcome + 1 } := by
  have hwritten := State.changeHead_courses h fun c => { c with lastRefusal := some ⟨r, n⟩ }
  obtain ⟨hqueue, hmem, htech, himage, harm, hdrive⟩ := State.returnToQueued_effect
    (s := s.changeHead fun c => { c with lastRefusal := some ⟨r, n⟩ }) (by rw [hwritten])
  simp [State.refuseArming, hqueue, hmem, htech, himage, harm, hdrive, hwritten]

theorem State.refuseArming_ledger {c : Course} {cs : List Course} (h : s.queue.courses = c :: cs) (tag : BitVec 16)
    (r : ArmingRefusal) (n : Nat) : (s.refuseArming tag r n).ledger =
      s.ledger.withCourses ({ c with state := .queued, lastRefusal := some ⟨r, n⟩ } :: cs) := by
  obtain ⟨hqueue, -, -, -, -, -, hreasons, -⟩ := State.refuseArming_effect h tag r n
  rw [State.ledger, hqueue, hreasons]
  rfl

namespace Ledger.Turn

theorem ownCommitCourse (c : Instr) (record : CourseFrame) (u : State) :
    u.ledger.Turn c (ownCommitCourse record u).2.ledger := by
  unfold Machine.ownCommitCourse
  split
  · exact .settle .still
  · next course hc =>
    split
    · exact .settle .still
    · next hs => exact .commit (checkCourse_queued hc) (Nat.not_le.1 hs)

theorem ownDiscardHead (c : Instr) {u : State} (hq : u.ledger.tailQueued) :
    u.ledger.Turn c (ownDiscardHead u).2.ledger := by
  unfold Machine.ownDiscardHead
  split
  · exact .settle .still
  · next h =>
    rcases hc : u.queue.courses with _ | ⟨course, cs⟩
    · simp [State.head?, hc] at h
    · have ht : ((u.withQueue { u.queue with courses := (course :: cs).tail }).clearHeadRefused).ledger =
          u.ledger.withCourses cs := rfl
      rw [ht]
      exact .drop hc (by simpa [State.head?, hc] using h)
  · next h => exact .settle (QueueSettles.discardFaulted (State.head_of_map h) hq)
  · exact .settle .still

theorem ownSoftReset (c : Instr) (u : State) : u.ledger.Turn c (ownSoftReset u).2.ledger := by
  unfold Machine.ownSoftReset
  split
  · exact .settle .still
  · have ht : u.softReset.ledger = ⟨.initial, false⟩ := by simp [State.softReset, State.ledger, PatternReasons.none]
    rw [ht]
    exact .clear

theorem finishFetch (c : Instr) (formed : Formed) (u : State) : u.ledger.Turn c (finishFetch formed u).2.ledger := by
  unfold Machine.finishFetch
  split
  · exact .fetch
  · exact .settle .still
  · exact .settle .still

/-- The head course enters ARMING, and returns to QUEUED if stage 1 refuses it (R125, R127). -/
theorem ownRequestStroke {c : Instr} {u : State} (hi : c = .requestStroke .fits) :
    u.ledger.Turn c (ownRequestStroke u).2.ledger := by
  unfold Machine.ownRequestStroke
  split
  · exact .settle .still
  · split
    · exact .settle .still
    · next course hc =>
      split
      · exact .settle .still
      · next hq =>
        obtain ⟨cs, hcs⟩ : ∃ cs, u.queue.courses = course :: cs := List.head?_eq_some_iff.1 hc
        have henter := State.changeHead_courses hcs fun c => { c with state := .arming, grant := none }
        have hledger : u.enterArming.ledger =
            u.ledger.withCourses ({ course with state := .arming, grant := none } :: cs) := by
          simp [State.enterArming, State.ledger, Ledger.withCourses, henter]
        split
        · rw [State.refuseArming_ledger (c := { course with state := .arming, grant := none }) (cs := cs)
            (by simp [State.enterArming, henter]), hledger]
          exact .request hi hcs (not_not.1 hq) (.inr rfl)
        · rw [hledger]
          exact .request hi hcs (not_not.1 hq) (.inl rfl)

/-- The stroke begins, and is complete at once where P is at its end point (R149). -/
theorem ownBeginStroke {c : Instr} {u : State} (hi : c = .beginStroke .fits) :
    u.ledger.Turn c (ownBeginStroke u).2.ledger := by
  unfold Machine.ownBeginStroke
  split_ifs with ha
  case neg =>
    split
    · exact .settle .still
    · next g _ =>
      split_ifs
      · rcases hc : u.queue.courses with _ | ⟨course, cs⟩
        · simp [State.headIs_nil hc] at ha
        · have hq : course.state = .armed := by simpa [State.headIs_cons hc] using ha
          have hbegun : (u.begun g).queue = { u.queue with courses := { course with state := .knitting } :: cs } :=
            State.changeHead_courses hc _
          have hledger : (u.begun g).ledger = u.ledger.withCourses ({ course with state := .knitting } :: cs) := by
            rw [State.ledger, hbegun]; rfl
          change u.ledger.Turn c (u.begun g).examineCompletion.ledger
          rw [State.begun_examineCompletion hc]
          split
          · rw [State.completeStroke_ledger (by rw [hbegun]), hledger]
            exact .beginAtEnd _ hi hc hq
          · rw [hledger]
            exact .begin hi hc hq rfl
      · exact .settle .still
  all_goals exact .settle .still

/-- A FAULTED head course is KNITTING again; a broken yarn or the end point takes it on at once (R167). -/
theorem ownResumeStroke {c : Instr} {u : State} (hi : c = .resumeStroke .fits) (ht : u.ledger.tailQueued) :
    u.ledger.Turn c (ownResumeStroke u).2.ledger := by
  unfold Machine.ownResumeStroke
  split
  · exact .settle .still
  · next hf =>
    split
    · next f r g course _ _ _ hhead =>
      split_ifs
      case neg =>
        obtain ⟨cs, hcs⟩ : ∃ cs, u.queue.courses = course :: cs := List.head?_eq_some_iff.1 hhead
        have hq : course.state = .faulted := by simpa [State.headIs_cons hcs] using hf
        refine .resume (c' := { course with state := .knitting }) hi hcs hq rfl ?_
        have hsettles (v : State) (held : List Carrier)
            (hv : v.ledger = u.ledger.withCourses ({ course with state := .knitting } :: cs)) :
            (u.ledger.withCourses ({ course with state := .knitting } :: cs)).Settles
              (v.reportBroken held).examineCompletion.ledger := by
          rw [← hv]
          refine QueueSettles.trans (.reportBroken v held) (.examineCompletion _) ?_
          rw [hv]
          simpa [Ledger.tailQueued, Ledger.withCourses, State.ledger, hcs] using ht
        refine hsettles _ _ ?_
        simp [State.ledger, Ledger.withCourses, State.changeHead_courses hcs]
      all_goals exact .settle .still
    · exact .settle .still

/-- The grant makes the ARMING head course ARMED (R135). -/
theorem completeArming {i : Instr} (hi : i = .completionAndGrant) {u : State} (ht : u.ledger.tailQueued)
    (ha : u.headIs .arming = true) (c : Course) : u.ledger.Turn i (u.completeArming c).ledger := by
  unfold State.completeArming
  split
  · exact .settle (QueueSettles.refuseArming ha _ _ _ ht)
  · split
    · exact .settle (QueueSettles.refuseArming ha _ _ _ ht)
    · rcases hc : u.queue.courses with _ | ⟨course, cs⟩
      · simp [State.headIs_nil hc] at ha
      · have hledger : (u.grantStroke c).ledger = u.ledger.withCourses ({ course with
            state := .armed, lastRefusal := none
            grant := some ⟨(u.grantRecord c).left, (u.grantRecord c).right, (u.grantRecord c).speed⟩ } :: cs) := by
          simp [State.grantStroke, State.ledger, Ledger.withCourses, State.changeHead_courses hc]
        rw [hledger]
        exact .grant hi hc (by simpa [State.headIs_cons hc] using ha) rfl

/-- RESET and the loss of power leave the queue as every reset does (R84, R180). -/
theorem cleared {i : Instr} {l : Ledger} {u t : State} {latch : Bool} (hq : t.queue = (u.clearVolatile latch).queue)
    (hw : t.patternReasons.completionWaiting = (u.clearVolatile latch).patternReasons.completionWaiting) :
    l.Turn i t.ledger := by
  have ht : t.ledger = ⟨.initial, false⟩ := by
    rw [State.ledger, hq, hw]
    simp [State.clearVolatile, PatternReasons.none]
  rw [ht]
  exact .clear

theorem holdReset (i : Instr) (l : Ledger) (u : State) : l.Turn i u.holdReset.ledger :=
  cleared (u := u) (latch := u.pins.stopIn) rfl rfl

theorem beginStartUp (i : Instr) (l : Ledger) (u : State) : l.Turn i u.beginStartUp.ledger :=
  cleared (u := u) (latch := u.pins.stopIn) rfl rfl

/-- Every event moves the queue in one of these ways. -/
theorem event {i : Instr} {s t : State} (ht : s.ledger.tailQueued) (hi : frameForm i = none)
    (h : exec i s = .next t) : s.ledger.Turn i t.ledger := by
  have settles {i : Instr} {t : State} (h : QueueSettles s t) : s.ledger.Turn i t.ledger := .settle (h ht)
  cases i with
  | storeWriteComplete => cases h; exact settles (by split <;> exact .of_eq rfl)
  | wakeComplete => cases h; exact settles (by split <;> exact .of_eq rfl)
  | locksAndResolution => cases h; exact settles (.atStage .lockAndResolve)
  | zoneStage => cases h; exact settles (.atStage .clampZone)
  | imageStage => cases h; exact settles (.atStage fun _ => .buildImage s)
  | transferPairing => cases h; exact settles (.atStage .checkPairs)
  | carrierPlan => cases h; exact settles (.atStage .planCarriers)
  | extentAndTurningPoints => cases h; exact settles (.atStage .findTurningPoints)
  | speedClass => cases h; exact settles (.atStage fun _ => .findSpeed s)
  | completionAndGrant =>
    cases h
    rcases s.atStage_cases .completion s.completeArming with he | ⟨c, hc, ha, -, he⟩
    · rw [he]; exact .settle .still
    · rw [he]; exact completeArming rfl ht (State.head_of_map (by rw [hc, Option.map_some, ha])) c
  | encoderTransition a b =>
    cases h
    dsimp only
    split_ifs
    · exact settles (.of_eq rfl)
    · exact settles (.of_eq rfl)
    · exact settles (.after (.losePosition _) rfl)
    · exact settles (.after (.takeCount _ _) rfl)
  | pulseEnd head => cases h; exact settles (by split <;> exact .of_eq rfl)
  | indexPulse =>
    cases h
    split_ifs
    · exact .settle .still
    · exact settles (.after (.countChanged _ _) rfl)
    · exact settles (.losePosition s)
    · exact .settle .still
  | stopInAssertion =>
    cases h
    dsimp only
    split
    · exact .settle .still
    · split <;> [exact settles (.after (.takeStopIn _) rfl); exact settles (.of_eq rfl);
        exact settles (.of_eq rfl); exact settles (.of_eq rfl)]
  | stopInRelease => cases h; exact settles (by dsimp only; split <;> exact .of_eq rfl)
  | yarnSensorBreak k =>
    cases h
    dsimp only
    split
    · exact .settle .still
    · split <;> [exact settles (.after (.strokeFault _ _ _ _) rfl); exact settles (.of_eq rfl)]
  | yarnSensorBreakEnd k => cases h; exact settles (.of_eq rfl)
  | pfwAssertion =>
    cases h
    dsimp only
    split
    · exact .settle .still
    · split <;> [exact settles (.after (.takePfw _) rfl); exact settles (.of_eq rfl);
        exact settles (.of_eq rfl); exact settles (.of_eq rfl)]
  | pfwRelease => cases h; exact settles (.of_eq rfl)
  | resumeRecordWriteComplete =>
    cases h; exact settles (by split <;> [(dsimp only; split <;> exact .of_eq rfl); exact .refl s])
  | retainedWriteComplete => cases h; exact settles (by split <;> [(split <;> exact .of_eq rfl); exact .refl s])
  | powerOn =>
    cases h
    split <;> [split; exact .settle .still; exact .settle .still; exact .settle .still]
    · exact holdReset _ _ s
    · exact beginStartUp _ _ s
  | powerLoss =>
    cases h
    split
    · exact .settle .still
    all_goals exact cleared (u := s) (latch := false) rfl rfl
  | resetAssertion =>
    cases h
    dsimp only
    split <;> [exact settles (.of_eq rfl); exact settles (.of_eq rfl); exact holdReset _ _ _; exact holdReset _ _ _]
  | resetRelease =>
    cases h
    dsimp only
    split <;> [exact beginStartUp _ _ _; exact settles (.of_eq rfl); exact settles (.of_eq rfl);
      exact settles (.of_eq rfl)]
  | startUpEnd =>
    cases h
    split
    · dsimp only
      split_ifs
      · exact settles (.after (.trans (.takePfw _) (.takeStopIn _)) rfl)
      · exact settles (.after (.takePfw _) rfl)
      · exact settles (.after (.takeStopIn _) rfl)
      · exact settles (.of_eq rfl)
    all_goals exact .settle .still
  | backupSupplyFailure => cases h; exact settles (.of_eq rfl)
  | _ => cases hi

/-- The commands that move the queue of themselves. -/
theorem mover {i : Instr} {w : FrameForm} {s : State} (ht : s.ledger.tailQueued) (hm : movesQueue i = true)
    (hw : frameForm i = some w) : s.ledger.Turn i (w.take s).ledger := by
  cases i with
  | softReset port e => cases hw; exact .takeWrite fun u _ hu => by rw [← hu]; exact ownSoftReset _ u
  | commitCourse e record => cases hw; exact .takeWrite fun u _ hu => by rw [← hu]; exact ownCommitCourse _ record u
  | discardHead e =>
    cases hw; exact .takeWrite fun u _ hu => by rw [← hu] at ht ⊢; exact ownDiscardHead _ ht
  | fetchCompletion frame =>
    cases hw
    rcases takeRead_ledger Layout.fetchCompletion false true formCompletion Machine.finishFetch frame s with h | ⟨formed, h⟩
    · rw [FrameForm.take, h]; exact .settle .still
    · rw [FrameForm.take, h]; exact finishFetch _ formed s
  | setZone e left right =>
    cases hw; exact .takeWrite fun u _ hu => by rw [← hu]; exact .settings (.inl rfl)
  | setWantLevel e level =>
    cases hw; exact .takeWrite fun u _ hu => by rw [← hu]; exact .settings (.inr (Nat.min_le_right _ _))
  | requestStroke e =>
    cases hw; exact .takeWrite fun u he hu => by rw [← hu]; exact ownRequestStroke (by rw [he])
  | beginStroke e => cases hw; exact .takeWrite fun u he hu => by rw [← hu]; exact ownBeginStroke (by rw [he])
  | resumeStroke e =>
    cases hw; exact .takeWrite fun u he hu => by rw [← hu] at ht ⊢; exact ownResumeStroke (by rw [he]) ht
  | _ => cases hm

end Ledger.Turn

/-- Every command moves the queue in one of the ways of `Ledger.Turn`. -/
theorem exec_turn {i : Instr} (ht : s.tailQueued) (h : exec i s = .next t) : s.ledger.Turn i t.ledger := by
  cases hw : frameForm i with
  | none => exact .event ht hw h
  | some w =>
    rw [exec_frameForm hw] at h
    cases h
    cases hm : movesQueue i with
    | true => exact .mover ht hm hw
    | false => exact .settle (FrameForm.take_keeps QueueSettles.frameFree (QueueSettles.frameForm hm hw) s ht)

end Sys2Proof.Machine
end

section
/-! O55, O60. Every step keeps the queue within its slots and its courses in order, and the head course passes only as R70's
table says: both by the moves of the queue. -/

namespace Sys2Proof.Machine

variable {s t : State}

/-! ## The queue's invariant (R68, R69, R79, R81) -/

/-- `State.queueOk` of the ledger. -/
def Ledger.queueOk (l : Ledger) : Prop :=
  l.slots ≤ Config.slotCount ∧ l.tailQueued ∧ l.waiting = !l.queue.completions.isEmpty ∧ l.queue.wantLevel ≤ 15

theorem State.queueOk_iff (s : State) : s.queueOk ↔ s.ledger.queueOk := Iff.rfl

theorem Ledger.Settles.queueOk {l l' : Ledger} (h : l.Settles l') (hl : l.queueOk) : l'.queueOk := by
  obtain ⟨hslots, htail, hwaiting, hwant⟩ := hl
  refine ⟨?_, h.tailQueued htail, ?_, ?_⟩
  all_goals cases h with
    | still => assumption
    | head h hs => simp_all [Ledger.withCourses, Ledger.slots]
    | retire record h hs => simp_all [Ledger.retired, Ledger.slots]; try omega

/-- Another course at the head leaves the invariant. -/
theorem Ledger.queueOk_withHead {l : Ledger} {c c' : Course} {cs : List Course} (h : l.queue.courses = c :: cs)
    (hl : l.queueOk) : (l.withCourses (c' :: cs)).queueOk := by
  obtain ⟨hslots, htail, hwaiting, hwant⟩ := hl
  refine ⟨by simpa [Ledger.slots, Ledger.withCourses, h] using hslots, ?_, hwaiting, hwant⟩
  simpa [Ledger.tailQueued, Ledger.withCourses, h] using htail

theorem Ledger.Turn.queueOk {i : Instr} {l l' : Ledger} (h : l.Turn i l') (hl : l.queueOk) : l'.queueOk := by
  obtain ⟨hslots, htail, hwaiting, hwant⟩ := hl
  cases h with
  | settle h => exact h.queueOk ⟨hslots, htail, hwaiting, hwant⟩
  | commit hq hs =>
    refine ⟨?_, fun c hc => ?_, hwaiting, hwant⟩
    · simp only [Ledger.slots, Ledger.withCourses, List.length_append, List.length_singleton] at hs ⊢
      omega
    · rcases hcs : l.queue.courses with _ | ⟨d, ds⟩
      · simp [Ledger.withCourses, hcs] at hc
      · simp only [Ledger.withCourses, hcs, List.cons_append, List.tail_cons, List.mem_append, List.mem_singleton] at hc
        rcases hc with hc | rfl
        · exact htail c (by simpa [hcs] using hc)
        · exact hq
  | drop h hq =>
    refine ⟨?_, fun c hc => htail c (by rw [h]; exact List.mem_of_mem_tail hc), hwaiting, hwant⟩
    simp only [Ledger.slots, Ledger.withCourses, h, List.length_cons] at hslots ⊢
    omega
  | fetch =>
    refine ⟨?_, htail, ?_, hwant⟩
    · simp only [Ledger.slots, List.length_tail] at hslots ⊢
      omega
    · rcases hcs : l.queue.completions with _ | ⟨r, rs⟩ <;> simp [hwaiting, hcs]
  | settings hw => exact ⟨hslots, htail, hwaiting, hw.elim (fun h => h ▸ hwant) id⟩
  | request hi h hq ha => exact Ledger.queueOk_withHead h ⟨hslots, htail, hwaiting, hwant⟩
  | grant hi h hq ha => exact Ledger.queueOk_withHead h ⟨hslots, htail, hwaiting, hwant⟩
  | begin hi h hq ha => exact Ledger.queueOk_withHead h ⟨hslots, htail, hwaiting, hwant⟩
  | @beginAtEnd c cs record hi h hq =>
    exact (Ledger.Settles.retire (l := l.withCourses ({ c with state := .knitting } :: cs)) record rfl (.inl rfl)).queueOk
      (Ledger.queueOk_withHead h ⟨hslots, htail, hwaiting, hwant⟩)
  | resume hi h hq ha hs => exact hs.queueOk (Ledger.queueOk_withHead h ⟨hslots, htail, hwaiting, hwant⟩)
  | clear => exact ⟨by decide, by simp [Ledger.tailQueued, CourseQueue.initial], rfl, by decide⟩

/-- Settles O55: a step moves the queue in one of its ways, and each of them keeps the invariant. -/
theorem stepsKeepQueue : Obligations.StepsKeepQueue := by
  intro s t h hs
  unfold step at h
  split at h
  · cases h; exact hs
  · next c rest _ =>
    have hq : (s.withPending rest).ledger.queueOk := s.queueOk_iff.1 hs
    exact t.queueOk_iff.2 ((exec_turn (s := s.withPending rest) hq.2.1 h).queueOk hq)

/-! ## The passages of the head course (R70) -/

/-- The state of the head course. -/
def Ledger.head (l : Ledger) : Option CourseState := l.queue.courses.head?.map Course.state

theorem State.ledger_head (s : State) : s.head?.map Course.state = s.ledger.head := rfl

theorem State.headIs_ledger (s : State) (st : CourseState) : s.headIs st = true ↔ s.ledger.head = some st := by
  rw [State.headIs, State.ledger_head, decide_eq_true_iff]

theorem Ledger.head_cons {l : Ledger} {c : Course} {cs : List Course} (h : l.queue.courses = c :: cs) :
    l.head = some c.state := by simp [Ledger.head, h]

/-- Once the head course has left, the next one is QUEUED, or there is none. -/
theorem Ledger.next_head {l : Ledger} {c : Course} {cs : List Course} (hq : l.tailQueued) (h : l.queue.courses = c :: cs) :
    cs.head?.map Course.state = none ∨ cs.head?.map Course.state = some .queued := by
  rcases cs with _ | ⟨d, ds⟩
  · exact .inl rfl
  · exact .inr (by simp [hq d (by simp [h])])

/-- What R70 says of the head course in one step of command `i`: it passes as the table says; only four commands take it
to ARMING, ARMED and KNITTING; and a course that has been KNITTING leaves the queue or stays KNITTING or FAULTED. -/
structure Ledger.Passes (i : Instr) (l l' : Ledger) : Prop where
  passage : passage l.head l'.head
  arms : l.head ≠ some .arming → l'.head = some .arming → i = .requestStroke .fits
  grants : l.head ≠ some .armed → l'.head = some .armed → i = .completionAndGrant
  knits : l.head ≠ some .knitting → l'.head = some .knitting → i = .beginStroke .fits ∨ i = .resumeStroke .fits
  leaves : l.head = some .knitting ∨ l.head = some .faulted →
    l'.queue.courses = l.queue.courses.tail ∨ l'.queue.courses = [] ∨ l'.head = some .knitting ∨ l'.head = some .faulted

namespace Ledger
variable {i : Instr} {l l' : Ledger}

/-- The head course keeps its state. -/
theorem Passes.same (h : l'.head = l.head) : l.Passes i l' where
  passage := by rw [h]; rcases l.head with _ | (_ | _ | _ | _ | _) <;> simp [Machine.passage]
  arms h1 h2 := absurd (h ▸ h2) h1
  grants h1 h2 := absurd (h ▸ h2) h1
  knits h1 h2 := absurd (h ▸ h2) h1
  leaves h1 := .inr (.inr (by rwa [h]))

/-- The head course is QUEUED afterwards, or there is none. -/
theorem Passes.atRest (h : l'.head = none ∨ l'.head = some .queued)
    (hl : l.head = some .knitting ∨ l.head = some .faulted →
      l'.queue.courses = l.queue.courses.tail ∨ l'.queue.courses = []) : l.Passes i l' where
  passage := by
    rcases l.head with _ | (_ | _ | _ | _ | _) <;> rcases h with h | h <;> simp [Machine.passage, h]
  arms _ h2 := by rcases h with h | h <;> simp [h] at h2
  grants _ h2 := by rcases h with h | h <;> simp [h] at h2
  knits _ h2 := by rcases h with h | h <;> simp [h] at h2
  leaves h1 := (hl h1).imp id .inl

theorem Settles.passes (hq : l.tailQueued) (h : l.Settles l') : l.Passes i l' := by
  cases h with
  | still => exact .same rfl
  | @head c c' cs h hs =>
    have hl := head_cons h
    have hl' : (l.withCourses (c' :: cs)).head = some c'.state := head_cons rfl
    obtain ⟨-, hs | ⟨hs, ha⟩ | ⟨hk, hs⟩⟩ := hs
    · exact .same (by rw [hl, hl', hs])
    · exact .atRest (.inr (by rw [hl', hs])) fun hk => by rw [hl] at hk; rcases ha with ha | ha <;> simp [ha] at hk
    · rw [hs] at hl'
      rw [hk] at hl
      constructor <;> simp [hl, hl', Machine.passage]
  | retire record h hs => exact .atRest (next_head hq h) fun _ => .inl (by rw [h]; rfl)

/-- Every move of a step is a passage of R70. -/
theorem Turn.passes (hq : l.tailQueued) (h : l.Turn i l') : l.Passes i l' := by
  cases h with
  | settle h => exact h.passes hq
  | @commit c hc hs =>
    rcases hcs : l.queue.courses with _ | ⟨d, ds⟩
    · refine .atRest (.inr (by simp [head, withCourses, hc])) fun hk => ?_
      simp [head, hcs] at hk
    · exact .same (by simp [head, withCourses, hcs])
  | drop h hc => exact .atRest (next_head hq h) fun _ => .inl (by rw [h]; rfl)
  | fetch => exact .same rfl
  | settings hw => exact .same rfl
  | @request c c' cs hi h hc ha =>
    have hl := head_cons h
    have hl' : (l.withCourses (c' :: cs)).head = some c'.state := head_cons rfl
    rw [hc] at hl
    constructor <;> rcases ha with ha | ha <;> simp [hl, hl', ha, hi, Machine.passage]
  | @grant c c' cs hi h hc ha =>
    have hl := head_cons h
    have hl' : (l.withCourses (c' :: cs)).head = some c'.state := head_cons rfl
    constructor <;> simp [hl, hl', hc, ha, hi, Machine.passage]
  | @begin c c' cs hi h hc ha =>
    have hl := head_cons h
    have hl' : (l.withCourses (c' :: cs)).head = some c'.state := head_cons rfl
    constructor <;> simp [hl, hl', hc, ha, hi, Machine.passage]
  | beginAtEnd record hi h hc => exact .atRest (next_head hq h) fun _ => .inl (by rw [h]; rfl)
  | @resume c c' cs _ hi h hc ha hs =>
    have hq' : (l.withCourses (c' :: cs)).tailQueued := by simpa [tailQueued, withCourses, h] using hq
    have hl' : (l.withCourses (c' :: cs)).head = some .knitting := (head_cons rfl).trans (congrArg some ha)
    obtain ⟨hpass, harms, hgrants, -, hleaves⟩ : (l.withCourses (c' :: cs)).Passes i l' := hs.passes hq'
    have hl : l.head = some .faulted := by rw [head_cons h, hc]
    refine ⟨?_, fun _ => harms (by simp [hl']), fun _ => hgrants (by simp [hl']), fun _ _ => .inr hi, fun _ => ?_⟩
    · rw [hl'] at hpass; rw [hl]; exact hpass
    · simpa [h, withCourses] using hleaves (.inl hl')
  | clear => exact .atRest (.inl rfl) fun _ => .inr rfl

end Ledger

theorem exec_passes {c : Instr} (hq : s.tailQueued) (h : exec c s = .next t) : s.ledger.Passes c t.ledger :=
  (exec_turn hq h).passes hq

theorem State.headIs_ledger_ne {st : CourseState} (h : s.headIs st = false) : s.ledger.head ≠ some st := fun h' => by
  rw [(State.headIs_ledger s st).2 h'] at h
  cases h

/-- Settles O60: each move of the queue is a passage of R70's table. -/
theorem coursePassages : Obligations.CoursePassages := by
  intro c s t hq h
  obtain ⟨hpass, -, -, hknits, hleaves⟩ := exec_passes hq h
  simp only [State.headIs_ledger]
  exact ⟨hpass, fun h1 h2 => hknits (State.headIs_ledger_ne h1) h2, hleaves⟩

end Sys2Proof.Machine
end

section
/-! O32. The arming stages act only in their turn; which commands enter ARMING and ARMED; what a refusal leaves (R70, R71,
R87, R126, R136, R137). -/

namespace Sys2Proof.Machine

variable {s : State}

/-- Out of its turn a stage is no event (R126; log 6). -/
theorem State.atStage_idle {stage : ArmingStage} (h : s.headIs .arming = false ∨ s.arm.stage ≠ some stage)
    (act : Course → State) : s.atStage stage act = s := by
  rcases s.atStage_cases stage act with he | ⟨c, hc, ha, hs, -⟩
  · exact he
  · rcases h with h | h
    · simp [State.headIs, hc, ha] at h
    · exact absurd hs h

theorem State.refuseArming_sameBut (tag : BitVec 16) (r : ArmingRefusal) (n : Nat) : (s.refuseArming tag r n).sameBut s
    [.queue, .arm, .mem, .tech, .image, .driveReasons, .patternReasons, .reasonCounts] := by
  intro b hb
  cases b <;> simp_all [Block.same]

/-- Settles O32, from the stages' turn, the passages of the head course, and the effect of a refusal. -/
theorem stagesAndRefusal : Obligations.StagesAndRefusal := by
  refine ⟨⟨fun s c stage hc hs => ?_, fun c s t hq h h1 h2 => ?_, fun c s t hq h h1 h2 => ?_⟩,
    fun s c cs reason stage h hc => ⟨_, rfl, ?_⟩⟩
  · simp only [List.mem_cons, Prod.mk.injEq, List.not_mem_nil, or_false] at hc
    rcases hc with ⟨rfl, rfl⟩ | ⟨rfl, rfl⟩ | ⟨rfl, rfl⟩ | ⟨rfl, rfl⟩ | ⟨rfl, rfl⟩ | ⟨rfl, rfl⟩ | ⟨rfl, rfl⟩ | ⟨rfl, rfl⟩ <;>
      exact congrArg _ (State.atStage_idle hs _)
  · exact (exec_passes hq h).arms (State.headIs_ledger_ne h1) ((State.headIs_ledger t .arming).1 h2)
  · exact (exec_passes hq h).grants (State.headIs_ledger_ne h1) ((State.headIs_ledger t .armed).1 h2)
  · obtain ⟨hqueue, harm, hmem, htech, himage, hdrive, hpattern, hcounts⟩ := State.refuseArming_effect h c.tag reason stage
    refine ⟨hqueue, harm, hmem, htech, himage, ?_, hpattern, hcounts, State.refuseArming_sameBut _ _ _⟩
    simpa [hc] using hdrive

end Sys2Proof.Machine
end

section
/-! O25. SET_ZONE, SET_WANT_LEVEL and SET_SPEED_CAP, and the output lines (R67, R81, R82, R119, R133, R144, R152, R159,
R178). -/

namespace Sys2Proof.Machine

variable {s : State}

/-- A speed class is clamped to 1..8 (R63, R133). -/
theorem clampClass_eq (b : Byte) : clampClass b = max 1 (min 8 b.toNat) := by
  unfold clampClass; split_ifs <;> omega

theorem exec_setZone (h : s.open) (left right : BitVec 16) : exec (.setZone .fits left right) s =
    .next ((s.loadBroken.withQueue { s.queue with zoneLeft := left.toInt, zoneRight := right.toInt }).withPatternPort
      ⟨.ok, none, s.patternPort.lastResult.code :: zeros 4⟩) :=
  congrArg _ (takeWrite_pattern (own := ownSetZone left right) h rfl rfl)

theorem exec_setWantLevel (h : s.open) (level : Byte) : exec (.setWantLevel .fits level) s =
    .next ((s.loadBroken.withQueue { s.queue with wantLevel := min level.toNat 15 }).withPatternPort
      ⟨.ok, none, s.patternPort.lastResult.code :: zeros 1⟩) :=
  congrArg _ (takeWrite_pattern (own := ownSetWantLevel level) h rfl rfl)

theorem exec_setSpeedCap (h : s.open) (speed : Byte) : exec (.setSpeedCap .fits speed) s =
    .next ((s.withArm { s.arm with driveCap := clampClass speed }).withDrivePort
      ⟨.ok, none, s.drivePort.lastResult.code :: zeros 1⟩) :=
  congrArg _ (takeWrite_drive (own := ownSetSpeedCap speed) h rfl rfl)

theorem State.patn_iff (s : State) : s.patn = true ↔ s.phase = .running ∧
    (s.patternReasons.completionWaiting = true ∨ s.queuedCount < s.queue.wantLevel ∨ s.patternReasons.headRefused = true ∨
      s.patternReasons.fault = true ∨ s.patternReasons.resumeValid = true) := by
  simp [State.patn, State.coursesLow, or_assoc]

theorem State.datn_iff (s : State) : s.datn = true ↔ s.phase = .running ∧
    (s.driveReasons.grantReady = true ∨ s.driveReasons.refusalReady = true ∨ s.driveReasons.grantWithdrawn = true ∨
      s.driveReasons.strokeDone = true ∨ s.driveReasons.fault = true ∨ s.driveReasons.wakeDone = true) := by
  simp [State.datn, or_assoc]

/-- The bits of an action's code are the levels of the head's lines (R181). -/
theorem Action.pins_eq (a : Action) : (a.code.getLsbD 0, a.code.getLsbD 1, a.code.getLsbD 2) = a.pins := by
  cases a <;> rfl

/-- Settles O25, from each command's own rule and the lines as they follow from the state. -/
theorem clampedSettingsAndOutputLines : Obligations.ClampedSettingsAndOutputLines := by
  refine ⟨fun s h => ⟨exec_setZone h, fun level => ?_, fun speed => ?_⟩, fun s => ⟨s.patn_iff, s.datn_iff, rfl,
    decide_eq_true_iff, fun h => Action.pins_eq _, fun r => Iff.rfl⟩⟩
  · rw [exec_setWantLevel h, show min level.toNat 15 = if 15 < level.toNat then 15 else level.toNat by split <;> omega]
  · rw [exec_setSpeedCap h, clampClass_eq]

end Sys2Proof.Machine
end

section
/-! O22, O23. DISCARD_HEAD and ABANDON_STROKE by the state of the head course (R70 to R73, R75, R77, R83, R87, R140, R141,
R168). -/

namespace Sys2Proof.Machine

variable {s : State} {c : Course} {cs : List Course}

/-! ## The two commands by what their own rules answer -/

theorem exec_discardHead (h : s.open) {r : ResultCode} {t : State} (ho : ownDiscardHead s.loadBroken = (r, t)) :
    exec (.discardHead .fits) s = .next (t.withPatternPort ⟨r, none, [t.patternPort.lastResult.code]⟩) :=
  congrArg _ (takeWrite_pattern (breaks := true) h rfl ho)

theorem exec_abandonStroke (h : s.open) {r : ResultCode} {t : State} (ho : ownAbandonStroke s = (r, t)) :
    exec (.abandonStroke .fits) s = .next (t.withDrivePort ⟨r, none, [t.drivePort.lastResult.code]⟩) :=
  congrArg _ (takeWrite_drive h rfl ho)

/-- The state of the head course decides what DISCARD_HEAD does. -/
theorem ownDiscardHead_cons (h : s.queue.courses = c :: cs) : ownDiscardHead s =
    match c.state with
    | .queued => (.ok, (s.withQueue { s.queue with courses := cs }).clearHeadRefused)
    | .faulted => (.ok, s.discardFaulted.clearHeadRefused)
    | _ => (.notNow, s) := by
  simp only [ownDiscardHead, State.head?_cons h, Option.map_some, h, List.tail_cons]
  cases c.state <;> rfl

/-- The state of the head course decides what ABANDON_STROKE does. -/
theorem ownAbandonStroke_cons (h : s.queue.courses = c :: cs) : ownAbandonStroke s =
    match c.state with
    | .queued | .knitting => (.notNow, s)
    | .arming | .armed => (.ok, s.returnToQueued)
    | .faulted => (.ok, s.discardFaulted) := by
  simp only [ownAbandonStroke, State.head?_cons h, Option.map_some]
  cases c.state <;> rfl

theorem ownDiscardHead_nil (h : s.queue.courses = []) : ownDiscardHead s = (.empty, s) := by
  simp [ownDiscardHead, State.head?, h]

theorem ownAbandonStroke_nil (h : s.queue.courses = []) : ownAbandonStroke s = (.empty, s) := by
  simp [ownAbandonStroke, State.head?, h]

/-! ## A head course that is not FAULTED -/

/-- Settles O22, state by state of the head course. -/
theorem headDiscardedOrAbandoned : Obligations.HeadDiscardedOrAbandoned := by
  refine fun s ho => ⟨fun h => ⟨exec_discardHead ho (ownDiscardHead_nil h), exec_abandonStroke ho (ownAbandonStroke_nil h)⟩,
    fun c cs h => ⟨fun hc => ?_, fun hc => ?_, fun hc => ?_, fun hc => ?_⟩⟩
  · have hown := ownDiscardHead_cons (s := s.loadBroken) h
    rw [hc] at hown
    exact exec_discardHead ho hown
  · have hown : ownDiscardHead s.loadBroken = (.notNow, s.loadBroken) := by
      rw [ownDiscardHead_cons (s := s.loadBroken) h]
      rcases hc with hc | hc | hc <;> rw [hc]
    exact exec_discardHead ho hown
  · have hown : ownAbandonStroke s = (.notNow, s) := by
      rw [ownAbandonStroke_cons h]
      rcases hc with hc | hc <;> rw [hc]
    exact exec_abandonStroke ho hown
  · have hown : ownAbandonStroke s = (.ok, s.returnToQueued) := by
      rw [ownAbandonStroke_cons h]
      rcases hc with hc | hc <;> rw [hc]
    obtain ⟨hqueue, hmem, htech, himage, harm, hdrive⟩ := State.returnToQueued_effect h
    refine ⟨_, exec_abandonStroke ho hown, hqueue, hmem, htech, himage, harm, hdrive.trans ?_, ?_, ?_⟩
    · rcases hc with hc | hc <;> simp [hc]
    · simp
    · intro b hb
      cases b <;> simp_all [Block.same]

/-! ## A FAULTED head course -/

/-- A HELD carrier's position is lost, every other carrier stays (R168). -/
theorem CarrierEntry.dropHeld_eq (e : CarrierEntry) :
    e.dropHeld = match e.status with | .held _ => ⟨.unknown, e.rail⟩ | _ => e := by
  unfold CarrierEntry.dropHeld
  split <;> simp_all [CarrierEntry.lost]

/-- The catcher of a rail stays lowered exactly if it was and no HELD carrier stands on the rail (R123, R168). -/
theorem State.raiseHeldCatchers_get (s : State) (r : Rail) : s.raiseHeldCatchers.catchers[r] = true ↔
    s.catchers[r] = true ∧ ∀ k : Carrier, s.railOf k = r → s.carriers[k].isHeld = false := by
  have hany : (allCarriers.any fun k => s.carriers[k].isHeld && decide (s.railOf k = r)) = false ↔
      ∀ k : Carrier, s.railOf k = r → s.carriers[k].isHeld = false := by
    rw [← Bool.not_eq_true, List.any_eq_true]
    simp only [Bool.and_eq_true, decide_eq_true_eq, not_exists, not_and]
    exact ⟨fun h k hr => by by_contra hk; exact h k (mem_allCarriers k) (by simpa using hk) hr,
      fun h k _ hk hr => by rw [h k hr] at hk; cases hk⟩
  rw [← hany]
  simp [State.raiseHeldCatchers]

/-- The discard of a FAULTED head course, block by block (R168, R72). -/
theorem State.discardFaulted_effect (h : s.queue.courses = c :: cs) :
    s.discardFaulted.queue = { s.queue with
      courses := cs, completions := s.queue.completions ++ [c.completion .discarded] } ∧
    (∀ k : Carrier, s.discardFaulted.carriers[k] = s.carriers[k].dropHeld) ∧
    s.discardFaulted.catchers = s.raiseHeldCatchers.catchers ∧
    s.discardFaulted.mem = ⟨s.mem.cells, []⟩ ∧ s.discardFaulted.tech = ⟨s.tech.tables, []⟩ ∧
    s.discardFaulted.image = .cleared ∧ s.discardFaulted.heads = { s.heads with stroke := none } ∧
    s.discardFaulted.patternReasons = { s.patternReasons with completionWaiting := true } ∧
    ∃ l, s.discardFaulted.retained = { s.retained with writes := s.retained.writes ++ l } := by
  obtain ⟨hqueue, hmem, htech, himage, hheads, hreasons⟩ := State.retire_effect
    (s := s.raiseHeldCatchers.changeCarriers fun _ e => e.dropHeld) (c := c) (cs := cs) (by simpa using h) .discarded
  obtain ⟨l, hl⟩ := s.raiseHeldCatchers.changeCarriers_retained fun _ e => e.dropHeld
  unfold State.discardFaulted
  refine ⟨by simpa using hqueue, fun k => by simp, by simp, by simpa using hmem, by simpa using htech, himage,
    by simpa using hheads, by simpa using hreasons, l, by simpa using hl⟩

/-- The discard does not look at the load cursor. -/
theorem State.loadBroken_discardFaulted (h : s.queue.courses = c :: cs) :
    s.loadBroken.discardFaulted = s.discardFaulted.loadBroken := by
  have hq (u : State) (hu : u.queue = s.queue) (o : CourseOutcome) : (u.retire o) =
      ((u.withQueue { u.queue with courses := cs, completions := u.queue.completions ++ [c.completion o] }).releaseCourse
        |>.withHeads { u.heads with stroke := none }).withPatternReasons
          { u.patternReasons with completionWaiting := true } := by
    simp only [State.retire, hu, h]
    rfl
  rw [State.discardFaulted, State.discardFaulted, hq _ (by simp; rfl), hq _ (by simp)]
  rfl

/-- Settles O23: both commands discard alike, and the discard block by block. -/
theorem faultedHeadIsDiscarded : Obligations.FaultedHeadIsDiscarded := by
  intro s c cs g ho h hc hg
  have hdiscard : ownDiscardHead s.loadBroken = (.ok, s.discardFaulted.loadBroken.clearHeadRefused) := by
    rw [ownDiscardHead_cons (s := s.loadBroken) h, hc, ← State.loadBroken_discardFaulted h]
  have habandon : ownAbandonStroke s = (.ok, s.discardFaulted) := by rw [ownAbandonStroke_cons h, hc]
  obtain ⟨hqueue, hcarriers, hcatchers, hmem, htech, himage, hheads, hreasons, hretained⟩ := State.discardFaulted_effect h
  have hrecord : c.completion .discarded =
      ⟨c.tag, .discarded, c.lastFault, c.resolved, g.left, g.right, g.speed, c.parked⟩ := by simp [Course.completion, hg]
  refine ⟨_, _, exec_discardHead ho hdiscard, exec_abandonStroke ho habandon, ?_, ?_, ?_, ?_, ?_, ?_, ?_, hreasons, ?_,
    by rw [← hrecord]; exact hqueue, fun k => ?_, fun r => ?_, hmem, htech, himage, hheads, hretained, ?_⟩
  · simp [State.loadBroken, State.clearHeadRefused]
  · simp [State.loadBroken, State.clearHeadRefused]
  · simp
  · simp
  · simp [State.loadBroken, State.clearHeadRefused]
  · simp
  · simp [State.loadBroken, State.clearHeadRefused, hreasons]
  · intro b hb
    cases b <;> simp_all [Block.same, State.loadBroken, State.clearHeadRefused]
  · exact (hcarriers k).trans (CarrierEntry.dropHeld_eq _)
  · rw [← s.raiseHeldCatchers_get r, ← hcatchers]
    rfl
  · intro b hb
    cases b <;> simp_all [Block.same]

end Sys2Proof.Machine
end

section
/-! SUPPORT. The byte layouts of the records, read off the encoders: each encoder's bytes hold what R182 lays out. -/

namespace Sys2Proof.Machine

/-! ## Parts of a layout (R181) -/

section Parts
variable {bytes rest l : List Byte} {i n : Nat} {x : Int}

/-- What follows the bytes that stand at byte `i`. -/
theorem drop_after (h : bytes.drop i = l ++ rest) (hl : l.length = n) : bytes.drop (i + n) = rest := by
  rw [← List.drop_drop, h, List.drop_left' hl]

theorem drop_tail {b : Byte} (h : bytes.drop i = b :: rest) : bytes.drop (i + 1) = rest :=
  drop_after (l := [b]) h rfl

theorem holdsAt_be3 (h : bytes.drop i = be3 x ++ rest) : holdsAt bytes i 3 x := by
  refine holdsAt_of_drop h rfl (by decide) ?_
  simp only [be3, List.foldl_cons, List.foldl_nil, byteOf_toNat]
  omega

theorem holdsAt_be4 (h : bytes.drop i = be4 x ++ rest) : holdsAt bytes i 4 x := by
  refine holdsAt_of_drop h rfl (by decide) ?_
  simp only [be4, List.foldl_cons, List.foldl_nil, byteOf_toNat]
  omega

theorem holdsAt_zeros (h : bytes.drop i = zeros n ++ rest) (hn : 0 < n) : holdsAt bytes i n 0 := by
  have hzero (k : Nat) : (zeros k).foldl (fun n b => 256 * n + b.toNat) 0 = 0 := by
    induction k with
    | zero => rfl
    | succ k ih => exact ih
  exact holdsAt_of_drop h List.length_replicate hn (by simp [hzero])

/-- A code's byte, once it is known as the byte of a number. -/
theorem holdsAt_code {b : Byte} (h : bytes.drop i = b :: rest) (hb : b = byteOf x) : holdsAt bytes i 1 x :=
  holdsAt_byteOf (hb ▸ h)

@[simp] theorem zeros_length (n : Nat) : (zeros n).length = n := List.length_replicate

@[simp] theorem be2_length (x : Int) : (be2 x).length = 2 := rfl
@[simp] theorem be3_length (x : Int) : (be3 x).length = 3 := rfl

@[simp] theorem padTo_length (n : Nat) (l : List Byte) : (padTo n l).length = n := by simp [padTo]

/-- Bytes that fill a part from its beginning stand as they are, and the rest of the part is padded. -/
theorem padTo_append (l l' : List Byte) (m : Nat) : padTo (l.length + m) (l ++ l') = l ++ padTo m l' := by
  rw [padTo, padTo, List.append_assoc, List.take_length_add_append, Nat.add_comm, ← zeros_append, ← List.append_assoc,
    List.take_append_of_le_length (by simp)]

theorem padTo_nil (n : Nat) : padTo n [] = zeros n := by simp [padTo]

end Parts

/-! ## Places of equal length -/

section Places
variable {α : Type} {f : α → List Byte} {k : Nat}

/-- A place of a layout: what its entry takes, or zeros. -/
def place (f : α → List Byte) (k : Nat) (x : Option α) : List Byte := x.elim (zeros k) f

/-- `n` places from the front of a list. -/
theorem padTo_places (hf : ∀ x, (f x).length = k) (l : List α) (m : Nat) :
    padTo ((m + 1) * k) (l.flatMap f) = place f k l[0]? ++ padTo (m * k) (l.tail.flatMap f) := by
  have hm : (m + 1) * k = k + m * k := by ring
  rcases l with _ | ⟨x, l⟩
  · simp [place, padTo_nil, hm, zeros_append]
  · have := padTo_append (f x) (l.flatMap f) (m * k)
    rw [hf] at this
    simpa [place, hm] using this

/-- Place `n` of `m` places. -/
theorem padTo_drop_place (hf : ∀ x, (f x).length = k) (l : List α) {n m : Nat} (hn : n < m) :
    ∃ rest, (padTo (m * k) (l.flatMap f)).drop (n * k) = place f k l[n]? ++ rest := by
  induction n generalizing l m with
  | zero =>
    obtain ⟨m, rfl⟩ := Nat.exists_eq_add_one_of_ne_zero (Nat.ne_of_gt hn)
    exact ⟨_, by rw [Nat.zero_mul, List.drop_zero, padTo_places hf]⟩
  | succ n ih =>
    obtain ⟨m, rfl⟩ := Nat.exists_eq_add_one_of_ne_zero (Nat.ne_of_gt (Nat.zero_lt_of_lt hn))
    have hplace : (place f k l[0]?).length = k := by rcases l with _ | ⟨x, l⟩ <;> simp [place, hf]
    obtain ⟨rest, h⟩ := ih l.tail (m := m) (by omega)
    refine ⟨rest, ?_⟩
    rw [padTo_places hf, show (n + 1) * k = k + n * k by ring, ← List.drop_drop, List.drop_left' hplace, h,
      List.getElem?_tail]

/-- Place `n` of the three of a layout. -/
theorem drop_place (hf : ∀ x, (f x).length = k) {l : List α} {bytes rest : List Byte} {i : Nat}
    (h : bytes.drop i = padTo (3 * k) (l.flatMap f) ++ rest) {n : Nat} (hn : n < 3) :
    ∃ rest, bytes.drop (i + k * n) = place f k l[n]? ++ rest := by
  obtain ⟨rest', hrest⟩ := padTo_drop_place hf l hn
  refine ⟨rest' ++ rest, ?_⟩
  have hle : n * k ≤ 3 * k := Nat.mul_le_mul_right k (by omega)
  rw [← List.drop_drop, h, Nat.mul_comm k n, List.drop_append_of_le_length (by simpa using hle), hrest, List.append_assoc]

/-- Entry `n` of a part without padding. -/
theorem flatMap_drop (hf : ∀ x, (f x).length = k) {l : List α} {n : Nat} (hn : n < l.length) :
    (l.flatMap f).drop (k * n) = f l[n] ++ (l.drop (n + 1)).flatMap f := by
  induction l generalizing n with
  | nil => cases hn
  | cons x l ih =>
    cases n with
    | zero => simp
    | succ n =>
      rw [List.flatMap_cons, show k * (n + 1) = k + k * n by ring, ← List.drop_drop, List.drop_left' (hf x),
        ih (Nat.lt_of_succ_lt_succ hn)]
      rfl

end Places
end Sys2Proof.Machine
end

section
/-! SUPPORT. The records of the replies, laid out as R182 says. -/

namespace Sys2Proof.Machine

/-! ## Codes as the bytes of numbers (R181) -/

theorem CourseOutcome.code_eq_byteOf (o : CourseOutcome) :
    o.code = byteOf (match o with | .done => 1 | .discarded => 2) := by
  cases o <;> rfl

theorem CourseState.code_eq_byteOf (st : CourseState) : st.code = byteOf st.number := by cases st <;> rfl

theorem Direction.code_eq_byteOf (d : Direction) : d.code = byteOf (match d with | .l2r => 0 | .r2l => 1) := by
  cases d <;> rfl

theorem faultCode_eq_byteOf (f : Option FaultReason) :
    (match f with | some f => f.code | none => 0) = byteOf (faultNumber f) := by
  rcases f with _ | (_ | _ | _ | _ | _ | _) <;> rfl

theorem SupplyState.code_eq_byteOf (p : SupplyState) :
    p.code = byteOf (match p with | .standby => 0 | .waking => 1 | .on => 2) := by cases p <;> rfl

theorem Bed.code_eq_byteOf (b : Bed) : b.code = byteOf (match b with | .front => 0 | .back => 1) := by cases b <;> rfl

theorem ArmingRefusal.code_eq_byteOf (r : ArmingRefusal) : r.code = byteOf r.number := by cases r <;> rfl

theorem flagByte_eq_byteOf (b : Bool) : flagByte b = byteOf (flagValue b) := by cases b <;> rfl

/-! ## Rows and refusals -/

section Refusals
variable {bytes rest : List Byte} {i : Nat}

theorem rowsAt_of_drop {rows : List (System × Nat)} (h : bytes.drop i = byteOf rows.length :: (rowPairs rows ++ rest)) :
    rowsAt bytes i rows := by
  refine ⟨holdsAt_byteOf h, fun n hn => ?_⟩
  have hpairs : bytes.drop (i + 1) = rowPairs rows ++ rest := drop_tail h
  obtain ⟨rest', hplace⟩ := drop_place (f := fun r : System × Nat => byteOf (r.1.val + 1) :: be2 r.2) (k := 3)
    (fun _ => rfl) hpairs hn
  rcases hx : rows[n]? with _ | x
  · rw [hx] at hplace
    exact holdsAt_zeros hplace (by decide)
  · rw [hx] at hplace
    refine ⟨holdsAt_byteOf hplace, ?_⟩
    rw [show i + 2 + 3 * n = i + 1 + 3 * n + 1 by ring]
    exact holdsAt_be2 (drop_tail hplace)

/-- The eight bytes of each reason's details (R182). -/
theorem ArmingRefusal.detailsAt_of_drop {r : ArmingRefusal} (h : bytes.drop i = r.details ++ rest) :
    r.detailsAt bytes i := by
  have hdrop (k : Nat) : bytes.drop (i + k) = (r.details ++ rest).drop k := by rw [← List.drop_drop, h]
  cases r with
  | notHomed => exact holdsAt_zeros h (by decide)
  | rackUnknown => exact holdsAt_zeros h (by decide)
  | rackMismatch current required =>
    exact ⟨holdsAt_byteOf h, holdsAt_byteOf (hdrop 1), holdsAt_zeros (n := 6) (hdrop 2) (by decide)⟩
  | supplyNotOn supply =>
    exact ⟨holdsAt_code h supply.code_eq_byteOf, holdsAt_zeros (n := 7) (hdrop 1) (by decide)⟩
  | stopLatched stopIn =>
    exact ⟨holdsAt_code h (flagByte_eq_byteOf stopIn), holdsAt_zeros (n := 7) (hdrop 1) (by decide)⟩
  | zoneEmpty left right =>
    exact ⟨holdsAt_be2 h, holdsAt_be2 (hdrop 2), holdsAt_zeros (n := 4) (hdrop 4) (by decide)⟩
  | transferPair system bed index =>
    exact ⟨holdsAt_byteOf h, holdsAt_code (hdrop 1) bed.code_eq_byteOf, holdsAt_be2 (hdrop 2),
      holdsAt_zeros (n := 4) (hdrop 4) (by decide)⟩
  | carrierUnknown j k =>
    exact ⟨holdsAt_byteOf h, holdsAt_byteOf (hdrop 1), holdsAt_zeros (n := 6) (hdrop 2) (by decide)⟩
  | railConflict j k =>
    exact ⟨holdsAt_byteOf h, holdsAt_byteOf (hdrop 1), holdsAt_zeros (n := 6) (hdrop 2) (by decide)⟩
  | carrierSide carrier pickup bound =>
    exact ⟨holdsAt_byteOf h, holdsAt_be2 (hdrop 1), holdsAt_be2 (hdrop 3), holdsAt_zeros (n := 3) (hdrop 5) (by decide)⟩
  | carrierBlocked j k =>
    exact ⟨holdsAt_byteOf h, holdsAt_byteOf (hdrop 1), holdsAt_zeros (n := 6) (hdrop 2) (by decide)⟩
  | outOfReach right turningPoint limit =>
    exact ⟨holdsAt_code h (flagByte_eq_byteOf right), holdsAt_be4 (hdrop 1), holdsAt_be3 (hdrop 5)⟩

theorem ArmingRefusal.laidOut_of_drop {r : ArmingRefusal} {stage : Nat}
    (h : bytes.drop i = r.code :: byteOf stage :: (r.details ++ rest)) : r.laidOut stage bytes i :=
  ⟨holdsAt_code h r.code_eq_byteOf, holdsAt_byteOf (drop_tail h),
    ArmingRefusal.detailsAt_of_drop (drop_tail (drop_tail h))⟩

end Refusals

@[simp] theorem ArmingRefusal.details_length (r : ArmingRefusal) : r.details.length = 8 := by cases r <;> rfl

@[simp] theorem rowPairs_length (rows : List (System × Nat)) : (rowPairs rows).length = 9 := padTo_length _ _

/-! ## The completion record -/

theorem CompletionRecord.bytes_laidOut (r : CompletionRecord) : r.laidOut r.bytes := by
  have h0 : r.bytes.drop 0 = be2 r.tag.toNat ++ r.outcome.code :: (match r.fault with | some f => f.code | none => 0) ::
      byteOf r.rows.length :: (rowPairs r.rows ++ (be2 r.left ++ (be2 r.right ++ byteOf r.speed :: byteOf r.parked.length ::
        padTo (3 * 3) (r.parked.flatMap fun p => Carrier.byte p.1 :: be2 p.2)))) := by
    simp only [CompletionRecord.bytes, List.append_assoc, List.cons_append, List.nil_append] <;> rfl
  have h2 : r.bytes.drop 2 = _ := drop_after h0 rfl
  have h5 : r.bytes.drop 5 = _ := drop_tail (drop_tail (drop_tail h2))
  have h14 : r.bytes.drop 14 = _ := drop_after h5 (rowPairs_length _)
  have h18 : r.bytes.drop 18 = _ := drop_after (drop_after h14 rfl) rfl
  refine ⟨by simp [CompletionRecord.bytes], holdsAt_be2 h0, holdsAt_code h2 r.outcome.code_eq_byteOf,
    holdsAt_code (drop_tail h2) (faultCode_eq_byteOf r.fault),
    rowsAt_of_drop (drop_tail (drop_tail h2)), holdsAt_be2 h14, holdsAt_be2 (drop_after h14 rfl),
    holdsAt_byteOf h18, holdsAt_byteOf (drop_tail h18), fun n hn => ?_⟩
  obtain ⟨rest, hplace⟩ := drop_place (k := 3) (fun _ => rfl)
    ((drop_tail (drop_tail h18)).trans (List.append_nil _).symm) hn
  rcases hx : r.parked[n]? with _ | x
  · rw [hx] at hplace
    exact holdsAt_zeros hplace (by decide)
  · rw [hx] at hplace
    refine ⟨holdsAt_byteOf hplace, ?_⟩
    rw [show 21 + 3 * n = 20 + 3 * n + 1 by ring]
    exact holdsAt_be2 (drop_tail hplace)

/-! ## The grant and the refusal record -/

theorem flagBits_five (a b c d e : Bool) : flagBits [a, b, c, d, e] =
    byteOf (flagValue a + 2 * flagValue b + 4 * flagValue c + 8 * flagValue d + 16 * flagValue e) := by
  refine congrArg byteOf ?_
  simp only [List.foldr_cons, List.foldr_nil, flagValue]
  ring

theorem GrantRecord.bytes_laidOut (g : GrantRecord) : g.laidOut g.bytes := by
  have h0 : g.bytes.drop 0 = be2 g.tag.toNat ++ g.direction.code :: (be3 g.start ++ (be3 g.finish ++ (be2 g.left ++
      (be2 g.right ++ byteOf g.speed ::
        flagBits [g.clampedLeft, g.clampedRight, g.speedCapped, g.suppressed, g.carrierIdle] ::
        byteOf g.engaged.length ::
          padTo (3 * 5) (g.engaged.flatMap fun e => Carrier.byte e.1 :: (be2 e.2.1 ++ be2 e.2.2)))))) := by
    simp [GrantRecord.bytes]
  have h2 : g.bytes.drop 2 = _ := drop_after h0 rfl
  have h3 : g.bytes.drop 3 = _ := drop_tail h2
  have h6 : g.bytes.drop 6 = _ := drop_after h3 rfl
  have h9 : g.bytes.drop 9 = _ := drop_after h6 rfl
  have h11 : g.bytes.drop 11 = _ := drop_after h9 rfl
  have h13 : g.bytes.drop 13 = _ := drop_after h11 rfl
  refine ⟨by simp [GrantRecord.bytes], holdsAt_be2 h0, holdsAt_code h2 g.direction.code_eq_byteOf, holdsAt_be3 h3,
    holdsAt_be3 h6, holdsAt_be2 h9, holdsAt_be2 h11, holdsAt_byteOf h13,
    holdsAt_code (drop_tail h13) (flagBits_five _ _ _ _ _),
    holdsAt_byteOf (drop_tail (drop_tail h13)), fun n hn => ?_⟩
  obtain ⟨rest, hplace⟩ := drop_place (k := 5) (fun _ => rfl)
    ((drop_tail (drop_tail (drop_tail h13))).trans (List.append_nil _).symm) hn
  rcases hx : g.engaged[n]? with _ | x
  · rw [hx] at hplace
    exact holdsAt_zeros hplace (by decide)
  · rw [hx] at hplace
    have hpickup : g.bytes.drop (16 + 5 * n + 1) = be2 x.2.1 ++ (be2 x.2.2 ++ rest) :=
      (drop_tail hplace).trans (List.append_assoc _ _ _)
    refine ⟨holdsAt_byteOf hplace, ?_, ?_⟩
    · rw [show 17 + 5 * n = 16 + 5 * n + 1 by ring]
      exact holdsAt_be2 hpickup
    · rw [show 19 + 5 * n = 16 + 5 * n + 1 + 2 by ring]
      exact holdsAt_be2 (drop_after hpickup rfl)

theorem RefusalRecord.bytes_laidOut (r : RefusalRecord) : r.laidOut (r.bytes ++ zeros 19) := by
  have h0 : (r.bytes ++ zeros 19).drop 0 =
      be2 r.tag.toNat ++ r.reason.code :: byteOf r.stage :: (r.reason.details ++ zeros 19) := by
    simp [RefusalRecord.bytes]
  have h2 : (r.bytes ++ zeros 19).drop 2 = _ := drop_after h0 rfl
  exact ⟨by simp [RefusalRecord.bytes], holdsAt_be2 h0, ArmingRefusal.laidOut_of_drop h2,
    holdsAt_zeros ((drop_after (drop_tail (drop_tail h2)) r.reason.details_length).trans (List.append_nil _).symm)
      (by decide)⟩

/-! ## The fault record -/

/-- Byte 3: the carrier, or the head, or 0 (R164). -/
def FaultRecord.culprit (r : FaultRecord) : Byte :=
  match r.carrier, r.head with
  | some k, _ => Carrier.byte k
  | none, some h => byteOf (h.val + 1)
  | none, none => 0

theorem FaultRecord.bytes_eq (r : FaultRecord) : r.bytes = be2 r.tag.toNat ++ r.reason.code :: r.culprit ::
    (be3 r.count ++ (r.next.toList.flatMap be3 ++ [flagByte r.resumable])) := by
  simp [FaultRecord.bytes] <;> rfl

theorem nextBytes_length (v : Vector Int 6) : (v.toList.flatMap be3).length = 18 := by
  simp [List.length_flatMap]

@[simp] theorem FaultRecord.bytes_length (r : FaultRecord) : r.bytes.length = 26 := by
  simp [r.bytes_eq]

theorem FaultRecord.bytes_laidOut (r : FaultRecord) : r.laidOut r.bytes := by
  have h0 : r.bytes.drop 0 = _ := r.bytes_eq
  have h2 : r.bytes.drop 2 = _ := drop_after h0 rfl
  have h3 : r.bytes.drop 3 = _ := drop_tail h2
  have h4 : r.bytes.drop 4 = _ := drop_tail h3
  have h7 : r.bytes.drop 7 = _ := drop_after h4 rfl
  refine ⟨r.bytes_length, holdsAt_be2 h0, holdsAt_code h2 (faultCode_eq_byteOf (some r.reason)),
    fun k hk => holdsAt_code h3 ?_, fun h hk hh => holdsAt_code h3 ?_, fun hk hh => holdsAt_code h3 ?_, holdsAt_be3 h4,
    fun h => ?_, holdsAt_code (drop_after h7 (nextBytes_length _)) (flagByte_eq_byteOf _)⟩
  · simp [FaultRecord.culprit, hk, Carrier.byte]
  · simp [FaultRecord.culprit, hk, hh]
  · simp [FaultRecord.culprit, hk, hh]; rfl
  · have hlen : h.val < r.next.toList.length := by simp
    have hle : 3 * h.val ≤ (r.next.toList.flatMap be3).length := by rw [nextBytes_length]; omega
    refine holdsAt_be3 (rest := (r.next.toList.drop (h.val + 1)).flatMap be3 ++ [flagByte r.resumable]) ?_
    rw [← List.drop_drop, h7, List.drop_append_of_le_length hle, flatMap_drop be3_length hlen, List.append_assoc]
    rfl

/-! ## The head course and a carrier -/

/-- The last refusal of a course as READ_HEAD_COURSE carries it after its flag (R182). -/
def LastRefusal.bytes (r : LastRefusal) : List Byte := 1 :: r.reason.code :: byteOf r.stage :: r.reason.details

theorem headCourseBytes_eq (c : Course) : headCourseBytes (some c) = 1 :: (be2 c.tag.toNat ++ c.state.code ::
    byteOf c.resolved.length :: (rowPairs c.resolved ++ place LastRefusal.bytes 11 c.lastRefusal)) := by
  rcases hr : c.lastRefusal with _ | r <;> simp [headCourseBytes, hr, place, LastRefusal.bytes]

theorem headCourseBytes_laidOut (c : Course) : c.laidOut (headCourseBytes (some c)) := by
  have hlen : (place LastRefusal.bytes 11 c.lastRefusal).length = 11 := by
    rcases c.lastRefusal with _ | r <;> simp [place, LastRefusal.bytes]
  have h0 : (headCourseBytes (some c)).drop 0 = _ := headCourseBytes_eq c
  have h1 : (headCourseBytes (some c)).drop 1 = _ := drop_tail h0
  have h3 : (headCourseBytes (some c)).drop 3 = _ := drop_after h1 rfl
  have h14 : (headCourseBytes (some c)).drop 14 = _ := drop_after (drop_tail (drop_tail h3)) (rowPairs_length _)
  refine ⟨by simp [headCourseBytes_eq, hlen], holdsAt_code h0 rfl, holdsAt_be2 h1, holdsAt_code h3 c.state.code_eq_byteOf,
    rowsAt_of_drop (drop_tail h3), ?_⟩
  rcases hr : c.lastRefusal with _ | r
  · rw [hr] at h14
    exact holdsAt_zeros (h14.trans (List.append_nil _).symm) (by decide)
  · rw [hr] at h14
    exact ⟨holdsAt_code h14 rfl, ArmingRefusal.laidOut_of_drop (rest := []) ((drop_tail h14).trans (by simp))⟩

theorem flagBits_two (a b : Bool) : flagBits [a, b] = byteOf (flagValue a + 2 * flagValue b) := by
  refine congrArg byteOf ?_
  simp only [List.foldr_cons, List.foldr_nil, flagValue]
  ring

/-- The seven bytes of READ_CARRIER (R113, R181). -/
def State.carrierBytes (s : State) (k : Carrier) : List Byte :=
  [s.carriers[k].status.code, flagByte s.carriers[k].position.isSome] ++ be2 (s.carriers[k].position.getD 0) ++
    [byteOf ((s.railOf k).val + 1), byteOf (s.geo.record.carrierCap[k] : Nat), flagBits [s.inUse k, s.carrierLocked k]]

theorem State.carrierBytes_laidOut (s : State) (k : Carrier) : s.carrierLaidOut k (s.carrierBytes k) := by
  have h2 : (s.carrierBytes k).drop 2 = be2 (s.carriers[k].position.getD 0) ++ [byteOf ((s.railOf k).val + 1),
      byteOf (s.geo.record.carrierCap[k] : Nat), flagBits [s.inUse k, s.carrierLocked k]] := rfl
  have h4 : (s.carrierBytes k).drop 4 = _ := drop_after h2 rfl
  refine ⟨rfl, ?_, holdsAt_byteOf h4, holdsAt_byteOf (drop_tail h4),
    holdsAt_code (drop_tail (drop_tail h4)) (flagBits_two _ _)⟩
  have h0 : (s.carrierBytes k).drop 0 = s.carriers[k].status.code :: _ := rfl
  have h1 : (s.carrierBytes k).drop 1 = flagByte s.carriers[k].position.isSome :: _ := rfl
  have hp := holdsAt_be2 h2
  cases hs : s.carriers[k].status with
  | parked x | engaged x | held x =>
    have hpos : s.carriers[k].position = some x := by rw [CarrierEntry.position, hs]
    rw [hs] at h0
    rw [hpos] at h1 hp
    exact ⟨holdsAt_code h0 rfl, holdsAt_code h1 rfl, hp⟩
  | unknown =>
    have hpos : s.carriers[k].position = none := by rw [CarrierEntry.position, hs]
    rw [hs] at h0
    rw [hpos] at h1 hp
    exact ⟨holdsAt_code h0 rfl, holdsAt_code h1 rfl, hp⟩

/-! ## The resume record -/

/-- The head course of a resume record: presence, tag and state (R182). -/
def resumeHeadBytes (h : BitVec 16 × CourseState) : List Byte := 1 :: (be2 h.1.toNat ++ [h.2.code])

/-- The fault record of a resume record, after its presence (R182). -/
def resumeFaultBytes (f : FaultRecord) : List Byte := 1 :: f.bytes

theorem ResumeRecord.bytes_eq (r : ResumeRecord) : r.bytes = 1 :: (place resumeHeadBytes 4 r.head ++
    byteOf r.rows.length :: (rowPairs r.rows ++ (place resumeFaultBytes 27 r.fault ++
      r.pointers.toList.flatMap Pointer.fields))) := by
  rcases hh : r.head with _ | h <;> rcases hf : r.fault with _ | f <;>
    simp [ResumeRecord.bytes, hh, hf, place, resumeHeadBytes, resumeFaultBytes]

theorem ResumeRecord.bytes_laidOut (r : ResumeRecord) : r.laidOut r.bytes := by
  have hhead : (place resumeHeadBytes 4 r.head).length = 4 := by
    rcases r.head with _ | h <;> simp [place, resumeHeadBytes]
  have hfault : (place resumeFaultBytes 27 r.fault).length = 27 := by
    rcases r.fault with _ | f <;> simp [place, resumeFaultBytes]
  have hptrs : (r.pointers.toList.flatMap Pointer.fields).length = 64 := by
    simp [List.length_flatMap, Pointer.fields_length]
  have h0 : r.bytes.drop 0 = _ := r.bytes_eq
  have h1 : r.bytes.drop 1 = _ := drop_tail h0
  have h5 : r.bytes.drop 5 = _ := drop_after h1 hhead
  have h15 : r.bytes.drop 15 = _ := drop_after (drop_tail h5) (rowPairs_length _)
  have h42 : r.bytes.drop 42 = _ := drop_after h15 hfault
  refine ⟨by simp [r.bytes_eq, hhead, hfault, hptrs], holdsAt_code h0 rfl, ?_, rowsAt_of_drop h5, ?_, fun p => ?_⟩
  · rcases hh : r.head with _ | h
    · rw [hh] at h1
      exact holdsAt_zeros h1 (by decide)
    · rw [hh] at h1
      have h2 : r.bytes.drop 2 = be2 h.1.toNat ++ (h.2.code :: _) := (drop_tail h1).trans (List.append_assoc _ _ _)
      exact ⟨holdsAt_code h1 rfl, holdsAt_be2 h2, holdsAt_code (drop_after h2 rfl) h.2.code_eq_byteOf⟩
  · rcases hf : r.fault with _ | f
    · rw [hf] at h15
      exact holdsAt_zeros h15 (by decide)
    · rw [hf] at h15
      refine ⟨holdsAt_code h15 rfl, ?_⟩
      rw [drop_tail h15, List.append_eq, List.take_left' f.bytes_length]
      exact f.bytes_laidOut
  · have hlen : p.val < r.pointers.toList.length := by simp
    refine Pointer.fields_laidOut _ (rest := (r.pointers.toList.drop (p.val + 1)).flatMap Pointer.fields) ?_
    rw [← List.drop_drop, h42, flatMap_drop Pointer.fields_length hlen]
    rfl

end Sys2Proof.Machine
end

section
/-! O19, O24. What the record reads answer (R78 to R80, R113, R139, R164, R171, R176). -/

namespace Sys2Proof.Machine

variable {s : State}

/-! ## A read frame from its reply and its end -/

/-- A whole frame of a read command, from the reply formed and what the command does at the end (R176). -/
theorem takeRead_answer (h : s.open) {f : FrameShape} {breaks : Bool} {form : State → Formed}
    {finish : Formed → State → ResultCode × State} {formed : Formed} {r : ResultCode} {t : State}
    (hform : form s = formed) (hfinish : finish formed s = (r, t)) (hr : r ≠ .busy) :
    takeRead f false breaks form finish (.whole .fits) s =
      (t.breakLoad breaks).closeFrame f.port r (zeros f.params ++ formed.reply) := by
  rw [takeRead_whole h, hform, hfinish]
  simp [hr]

/-- A whole frame of a command that only reads and then has an effect (R176). -/
theorem takeRead_effect (h : s.open) {f : FrameShape} {breaks : Bool} {form : State → Formed}
    {effect : Carried → State → State} {formed : Formed} (hform : form s = formed) (hr : formed.result ≠ .busy) :
    takeRead f false breaks form (finishRead form effect) (.whole .fits) s =
      ((effect formed.carried s).breakLoad breaks).closeFrame f.port formed.result (zeros f.params ++ formed.reply) :=
  takeRead_answer h hform (by rw [← hform, finishRead_self]) hr

/-- The start of a frame forms its reply (R176). -/
theorem takeRead_opened (h : s.open) (f : FrameShape) (breaks : Bool) (form : State → Formed)
    (finish : Formed → State → ResultCode × State) : takeRead f false breaks form finish .opened s =
      s.withPort f.port { s.port f.port with frame := some ⟨f.code, form s⟩ } := by
  simp [takeRead, State.formReply, State.open_live h, State.open_busy h]

/-- The end of a frame in progress carries the command out with the reply formed at its start (R176). -/
theorem takeRead_closed (h : s.open) {f : FrameShape} {breaks : Bool} {form : State → Formed}
    {finish : Formed → State → ResultCode × State} {formed : Formed} {r : ResultCode} {t : State}
    (hframe : (s.port f.port).frame = some ⟨f.code, formed⟩) (hfinish : finish formed s = (r, t)) (hr : r ≠ .busy) :
    takeRead f false breaks form finish (.closed .fits) s =
      (t.breakLoad breaks).closeFrame f.port r (zeros f.params ++ formed.reply) := by
  simp [takeRead, endRead, State.open_live h, State.open_busy h, hframe, hfinish, hr]

/-! ## FETCH_COMPLETION -/

theorem formCompletion_cons {r : CompletionRecord} {rs : List CompletionRecord} (h : s.queue.completions = r :: rs) :
    formCompletion s = ⟨r.bytes, .ok, .completion⟩ := by
  simp [formCompletion, h]

/-- The oldest record leaves the list, and COMPLETION_WAITING clears with the last one (R78, R79). -/
theorem finishFetch_cons {r : CompletionRecord} {rs : List CompletionRecord} (h : s.queue.completions = r :: rs) :
    finishFetch ⟨r.bytes, .ok, .completion⟩ s =
      (.ok, (s.withQueue { s.queue with completions := rs }).withPatternReasons
        { s.patternReasons with completionWaiting := s.patternReasons.completionWaiting && !rs.isEmpty }) := by
  simp [finishFetch, h]

theorem formCompletion_nil (h : s.queue.completions = []) : formCompletion s = .plain (zeros 29) .empty := by
  simp [formCompletion, h]

theorem finishFetch_nil (h : s.queue.completions = []) : finishFetch (.plain (zeros 29) .empty) s = (.empty, s) := by
  have hself := finishRead_self formCompletion noEffect s
  rw [formCompletion_nil h] at hself
  exact hself

/-- Settles O24: the reply and the removal, for a frame in one piece and for one whose start and end are apart. -/
theorem fetchCompletion : Obligations.FetchCompletion := by
  refine fun s ho => ⟨fun r rs h => ⟨r.bytes, r.bytes_laidOut, ?_⟩, fun h => ?_, fun n bits =>
    exec_misfit (c := .fetchCompletion (.whole (.misfit n bits))) (p := .pattern) rfl rfl rfl ho.1 (.inl ho.2),
    fun r rs h => ?_⟩
  · exact congrArg _ (takeRead_answer ho (formCompletion_cons h) (finishFetch_cons h) (by decide))
  · exact congrArg _ (takeRead_answer ho (formCompletion_nil h) (finishFetch_nil h) (by decide))
  · have hopened := takeRead_opened ho Layout.fetchCompletion true formCompletion finishFetch
    rw [formCompletion_cons h] at hopened
    generalize ht : s.withPort _ _ = t at hopened
    have hqueue : t.queue = s.queue := by rw [← ht]; rfl
    have hclosed := takeRead_closed (s := t) (f := Layout.fetchCompletion) (breaks := true) (form := formCompletion)
      (formed := ⟨r.bytes, .ok, .completion⟩) (by rw [← ht]; exact ho) (by rw [← ht]; rfl)
      (finishFetch_cons (by rw [hqueue, h])) (by decide)
    refine ⟨t, _, r.bytes, congrArg Host.Outcome.next hopened, hqueue,
      congrArg Host.Outcome.next hclosed, r.bytes_laidOut, ?_, ?_⟩
    · rw [← hqueue]; rfl
    · rw [← ht]; rfl

/-! ## The record reads -/

theorem exec_readHeadCourse (h : s.open) : exec (.readHeadCourse (.whole .fits)) s =
    .next (s.loadBroken.withPatternPort ⟨match s.head? with | some _ => .ok | none => .empty, none,
      s.patternPort.lastResult.code :: headCourseBytes s.head?⟩) :=
  congrArg _ (takeRead_look h (f := Layout.readHeadCourse) (form := formHeadCourse) rfl rfl (by cases s.head? <;> simp))

theorem formCarrier_of {b : Byte} {k : Carrier} (h : b.toNat = k.val + 1) :
    formCarrier b s = .plain (s.carrierBytes k) .ok := by
  simp only [formCarrier, Carrier.ofNumber_eq_some.2 h]
  rfl

theorem formCarrier_range {b : Byte} (h : b.toNat = 0 ∨ 16 < b.toNat) : formCarrier b s = .plain (zeros 7) .range := by
  have hnone : Carrier.ofNumber b.toNat = none := dif_neg (by omega)
  simp only [formCarrier, hnone]

/-- READ_FAULT on either port with a record: FAULT of that port clears (R164). -/
theorem takeRead_fault (h : s.open) (port : Port) {r : FaultRecord} (hr : s.stops.faultRecord = some r) :
    takeRead (Layout.readFault port) false (Port.breaksLoad port) formFault (finishRead formFault (clearFault port))
      (.whole .fits) s = ((clearFault port (.fault s.reasonCounts.fault) s).breakLoad (Port.breaksLoad port)).closeFrame port
        .ok (zeros 0 ++ r.bytes) :=
  takeRead_effect (f := Layout.readFault port) (formed := ⟨r.bytes, .ok, .fault s.reasonCounts.fault⟩) h
    (by simp [formFault, hr]) (by simp)

theorem takeRead_fault_none (h : s.open) (port : Port) (hr : s.stops.faultRecord = none) :
    takeRead (Layout.readFault port) false (Port.breaksLoad port) formFault (finishRead formFault (clearFault port))
      (.whole .fits) s = (s.breakLoad (Port.breaksLoad port)).closeFrame port .empty (zeros 0 ++ zeros 26) :=
  takeRead_effect (f := Layout.readFault port) (formed := .plain (zeros 26) .empty) h (by simp [formFault, hr]) (by decide)

theorem clearFault_pattern (s : State) : clearFault .pattern (.fault s.reasonCounts.fault) s =
    s.withPatternReasons { s.patternReasons with fault := false } := by simp [clearFault]

theorem clearFault_drive (s : State) : clearFault .drive (.fault s.reasonCounts.fault) s =
    s.withDriveReasons { s.driveReasons with fault := false } := by simp [clearFault]

/-- READ_GRANT from the outcome record: the reason of the record it returned clears (R139). -/
theorem exec_readGrant (h : s.open) {formed : Formed} (hform : formGrant s = formed) (hr : formed.result ≠ .busy) :
    exec (.readGrant (.whole .fits)) s = .next ((clearOutcomeReason formed.carried s).withDrivePort
      ⟨formed.result, none, (clearOutcomeReason formed.carried s).drivePort.lastResult.code :: formed.reply⟩) :=
  congrArg _ (takeRead_effect (f := Layout.readGrant) h hform hr)

/-- READ_RESUME_RECORD answers with what its reply is formed from (R171). -/
theorem exec_readResumeRecord (h : s.open) {reply : List Byte} {r : ResultCode} (hform : formResume s = .plain reply r)
    (hr : r ≠ .busy) : exec (.readResumeRecord (.whole .fits)) s =
      .next (s.loadBroken.withPatternPort ⟨r, none, s.patternPort.lastResult.code :: reply⟩) :=
  congrArg _ (takeRead_look h (f := Layout.readResumeRecord) rfl hform hr)

/-- Settles O19, read by read, each reply laid out from its encoder. -/
theorem recordReads : Obligations.RecordReads := by
  refine ⟨fun s h => ⟨fun c cs hc => ⟨_, headCourseBytes_laidOut c, ?_⟩, fun hc => ?_,
      fun b k hb => ⟨_, s.carrierBytes_laidOut k, congrArg _ (takeRead_look h rfl (formCarrier_of hb) (by decide))⟩,
      fun b hb => congrArg _ (takeRead_look h rfl (formCarrier_range hb) (by decide)),
      fun r hr => ⟨r.bytes, r.bytes_laidOut, exec_readResumeRecord h (by simp [formResume, hr]) (by decide)⟩,
      fun hr => exec_readResumeRecord h (by simp [formResume, hr]) (by decide)⟩,
    fun s h => ⟨fun r hr => ⟨r.bytes, r.bytes_laidOut, ?_, ?_⟩, fun hr => ⟨?_, ?_⟩⟩,
    fun s h => ⟨fun ho => ?_, fun g ho => ⟨g.bytes, g.bytes_laidOut, ?_⟩,
      fun r ho => ⟨r.bytes ++ zeros 19, r.bytes_laidOut, ?_⟩⟩⟩
  · rw [exec_readHeadCourse h, State.head?_cons hc]
  · rw [exec_readHeadCourse h, State.head?, hc]
    rfl
  · exact congrArg _ ((takeRead_fault h .pattern hr).trans (by rw [clearFault_pattern]; rfl))
  · exact congrArg _ ((takeRead_fault h .drive hr).trans (by rw [clearFault_drive]; rfl))
  · exact congrArg _ (takeRead_fault_none h .pattern hr)
  · exact congrArg _ (takeRead_fault_none h .drive hr)
  · exact exec_readGrant (formed := .plain (zeros 32) .empty) h (by simp only [formGrant, ho]; rfl) (by decide)
  · rw [exec_readGrant (formed := ⟨1 :: g.bytes, .ok, .grant s.reasonCounts.outcome⟩) h
      (by simp only [formGrant, ho]; rfl) (by simp)]
    simp [clearOutcomeReason]
  · rw [exec_readGrant (formed := ⟨2 :: (r.bytes ++ zeros 19), .ok, .refusal s.reasonCounts.outcome⟩) h
      (by simp only [formGrant, ho]; rfl) (by simp)]
    simp [clearOutcomeReason]

end Sys2Proof.Machine
end

section
/-! O21. COMMIT_COURSE (R63 to R66). Each check of R65 is read off the function that carries it out: what it lets pass, and
what it takes from the frame. -/

namespace Sys2Proof.Machine

/-! ## Codes and numbers -/

theorem System.ofNumber_eq_some {n : Nat} {sys : System} : System.ofNumber n = some sys ↔ n = sys.val + 1 := by
  unfold System.ofNumber
  split <;> simp [Fin.ext_iff] <;> omega

theorem bankNumber_eq_some {n : Nat} {i : Fin 8} : bankNumber n = some i ↔ n = i.val := by
  unfold bankNumber
  split <;> simp [Fin.ext_iff]
  omega

theorem colourOf_eq_some {b : Byte} {x : Colour} : colourOf b = some x ↔ x.toNat = b.toNat := by
  constructor
  · intro h
    simp only [colourOf, Option.ite_none_right_eq_some, Option.some.injEq] at h
    obtain ⟨hlt, rfl⟩ := h
    simpa using Nat.mod_eq_of_lt hlt
  · intro h
    have hlt : b.toNat < 16 := h ▸ x.isLt
    rw [colourOf_of_lt hlt, Option.some.injEq]
    exact BitVec.eq_of_toNat_eq (by simp [h, Nat.mod_eq_of_lt hlt])

theorem Kind.ofCode_eq_some {b : Byte} {k : Kind} :
    Kind.ofCode b = some k ↔ b = match k with | .knit => 0 | .transfer => 1 := by
  rcases hb : b.toNat with _ | _ | n <;> cases k <;> simp [Kind.ofCode, hb, BitVec.toNat_eq]

theorem Direction.ofCode_eq_some {b : Byte} {d : Direction} :
    Direction.ofCode b = some d ↔ b = match d with | .l2r => 0 | .r2l => 1 := by
  rcases hb : b.toNat with _ | _ | n <;> cases d <;> simp [Direction.ofCode, hb, BitVec.toNat_eq]

/-! ## The checks of an entry (R63, R65) -/

section Fields
variable {f : EntryFrame} {g : Geometry} {kind : Kind} {earlier : List SystemEntry}

theorem entrySystem_eq_some {sys : System} : entrySystem f g earlier = some sys ↔
    sys.val + 1 = f.system.toNat ∧ sys.val < g.systems ∧ ∀ e ∈ earlier, e.system ≠ sys := by
  have hmem (x : System) : x ∉ earlier.map SystemEntry.system ↔ ∀ e ∈ earlier, e.system ≠ x := by simp
  unfold entrySystem
  split
  · next x hx =>
    rw [System.ofNumber_eq_some] at hx
    simp only [hmem, Option.ite_none_right_eq_some, Option.some.injEq]
    exact ⟨fun ⟨h, heq⟩ => heq ▸ ⟨hx.symm, h⟩, fun ⟨heq, h⟩ => by
      obtain rfl : x = sys := Fin.ext (by omega)
      exact ⟨h, rfl⟩⟩
  · next hx => simpa using fun h => absurd (System.ofNumber_eq_some.2 h.symm) (by simp [hx])

theorem entrySource_direct {row : Nat} : entrySource f = some (.direct row) ↔
    f.sourceKind = 0 ∧ f.source.toNat < 512 ∧ row = f.source.toNat := by
  unfold entrySource
  split_ifs with h0 h1
  · simp only [h0, rowOf, Option.map_eq_some_iff, Option.ite_none_right_eq_some, Option.some.injEq, RowSource.direct.injEq]
    exact ⟨fun ⟨_, ⟨hlt, hx⟩, hrow⟩ => ⟨trivial, hlt, by omega⟩, fun ⟨_, hlt, hrow⟩ => ⟨_, ⟨hlt, rfl⟩, hrow.symm⟩⟩
  · simp_all
  · simp_all

theorem entrySource_pointer {p : Fin 8} : entrySource f = some (.pointer p) ↔
    f.sourceKind = 1 ∧ f.source.toNat = p.val := by
  unfold entrySource
  split_ifs with h0 h1
  · simp [h0]
  · simp [h1, bankNumber_eq_some]
  · simp_all

theorem entryCarrier_none : entryCarrier f g kind earlier = some none ↔ f.carrier = 0 := by
  unfold entryCarrier
  split_ifs with h0
  · simp [h0]
  · split <;> simp_all

theorem entryCarrier_some {k : Carrier} : entryCarrier f g kind earlier = some (some k) ↔
    k.val + 1 = f.carrier.toNat ∧ k.val < g.carriers ∧ kind = .knit ∧ ∀ e ∈ earlier, e.carrier ≠ some k := by
  unfold entryCarrier
  split_ifs with h0
  · simp [h0]
  · split
    · next x hx =>
      rw [Carrier.ofNumber_eq_some] at hx
      simp only [List.mem_map, not_exists, not_and, Option.ite_none_right_eq_some, Option.some.injEq]
      exact ⟨fun ⟨h, heq⟩ => heq ▸ ⟨hx.symm, h⟩, fun ⟨heq, h⟩ => by
        obtain rfl : x = k := Fin.ext (by omega)
        exact ⟨h, rfl⟩⟩
    · next hx => simpa using fun h => absurd (Carrier.ofNumber_eq_some.2 h.symm) (by simp [hx])

theorem entryExchange_none : entryExchange f = some none ↔ f.exchange = 0 := by
  unfold entryExchange
  split_ifs with h0
  · simp [h0]
  · split <;> simp_all

theorem entryExchange_some {a b : Colour} : entryExchange f = some (some (a, b)) ↔
    f.exchange ≠ 0 ∧ a.toNat = f.exchangeA.toNat ∧ b.toNat = f.exchangeB.toNat := by
  rw [← colourOf_eq_some, ← colourOf_eq_some]
  unfold entryExchange
  split_ifs with h0
  · simp [h0]
  · split <;> simp_all

theorem entryOverlay_none : entryOverlay f = some none ↔ f.overlay = 0 := by
  unfold entryOverlay
  split_ifs with h0
  · simp [h0]
  · split <;> simp_all

theorem entryOverlay_some {o : Overlay} : entryOverlay f = some (some o) ↔
    f.overlay ≠ 0 ∧ rowOf f.overlayRow = some o.row ∧ cellOf f.overlayOrigin = some o.origin ∧
      natIn 1 1280 f.overlayWidth.toNat = some o.width ∧ colourOf f.overlayKey = some o.key := by
  unfold entryOverlay
  split_ifs with h0
  · simp [h0]
  · rcases o with ⟨row, origin, width, key⟩
    split
    · simp_all
    · next hno => simpa using fun _ => hno row origin width key

theorem entryShift_eq_some {x : Int} : entryShift f = some x ↔ -1279 ≤ f.shift.toInt ∧ f.shift.toInt ≤ 1279 ∧
    x = f.shift.toInt := by
  simp only [entryShift, Option.ite_none_right_eq_some, Option.some.injEq, and_assoc, eq_comm (a := x)]

/-- An entry passes where each of its fields does, and holds what they give. -/
theorem checkEntry_eq_some {e : SystemEntry} : checkEntry f g kind earlier = some e ↔
    entrySystem f g earlier = some e.system ∧ entrySource f = some e.source ∧
    bankNumber f.table.toNat = some e.table ∧ entryCarrier f g kind earlier = some e.carrier ∧
    natIn 1 1280 f.width.toNat = some e.width ∧ cellOf f.origin = some e.origin ∧ entryShift f = some e.shift ∧
    decide (f.mirror ≠ 0) = e.mirror ∧ entryExchange f = some e.exchange ∧ entryOverlay f = some e.overlay := by
  rcases e with ⟨system, source, table, carrier, width, origin, shift, mirror, exchange, overlay⟩
  unfold checkEntry
  split
  · next h1 h2 h3 h4 h5 h6 h7 h8 h9 =>
    simp only [h1, h2, h3, h4, h5, h6, h7, h8, h9, Option.some.injEq, SystemEntry.mk.injEq]
  · next hno =>
    refine ⟨nofun, fun ⟨h1, h2, h3, h4, h5, h6, h7, _, h8, h9⟩ => ?_⟩
    exact absurd h9 (hno _ _ _ _ _ _ _ _ _ h1 h2 h3 h4 h5 h6 h7 h8)

/-- An entry that passes holds the fields of its frame. -/
theorem checkEntry_takenFrom {e : SystemEntry} (h : checkEntry f g kind earlier = some e) : e.takenFrom f := by
  obtain ⟨hsystem, hsource, htable, hcarrier, hwidth, horigin, hshift, hmirror, hexchange, hoverlay⟩ :=
    checkEntry_eq_some.1 h
  refine ⟨(entrySystem_eq_some.1 hsystem).1, ?_, (bankNumber_eq_some.1 htable).symm, ?_,
    (Int.ofNat.inj (natIn_eq_some.1 hwidth).2.2).symm, (cellOf_eq_some horigin).1, (entryShift_eq_some.1 hshift).2.2,
    by rw [← hmirror, decide_eq_true_iff], ?_, ?_⟩
  · split
    · next hr => rw [hr, entrySource_direct] at hsource; exact ⟨hsource.1, hsource.2.2⟩
    · next hp => rw [hp, entrySource_pointer] at hsource; exact ⟨hsource.1, hsource.2.symm⟩
  · split
    · next hk => rwa [hk, entryCarrier_none] at hcarrier
    · next hk => rw [hk, entryCarrier_some] at hcarrier; exact hcarrier.1
  · split
    · next hx => rwa [hx, entryExchange_none] at hexchange
    · next hx => rwa [hx, entryExchange_some] at hexchange
  · split
    · next ho => rwa [ho, entryOverlay_none] at hoverlay
    · next ho =>
      rw [ho, entryOverlay_some] at hoverlay
      obtain ⟨hflag, hrow, hcell, hwide, hkey⟩ := hoverlay
      exact ⟨hflag, (rowOf_eq_some hrow).1, (cellOf_eq_some hcell).1, (Int.ofNat.inj (natIn_eq_some.1 hwide).2.2).symm,
        colourOf_eq_some.1 hkey⟩

/-- A frame entry names another system than an entry taken before it, and another carrier where both name one (R63, R65). -/
def SystemEntry.apart (e : SystemEntry) (f : EntryFrame) : Prop :=
  e.system.val + 1 ≠ f.system.toNat ∧ ∀ k, e.carrier = some k → k.val + 1 ≠ f.carrier.toNat

theorem entrySystem_exists_iff (hsystems : g.systems ≤ 3) : (∃ x, entrySystem f g earlier = some x) ↔
    (1 ≤ f.system.toNat ∧ f.system.toNat ≤ g.systems) ∧ ∀ e ∈ earlier, e.system.val + 1 ≠ f.system.toNat := by
  simp only [entrySystem_eq_some]
  constructor
  · rintro ⟨sys, hnum, hlt, hnew⟩
    exact ⟨by omega, fun e he heq => hnew e he (Fin.ext (by omega))⟩
  · rintro ⟨hrange, hnew⟩
    refine ⟨⟨f.system.toNat - 1, by omega⟩, Nat.sub_add_cancel hrange.1, Nat.sub_one_lt_of_le hrange.1 hrange.2,
      fun e he heq => hnew e he ?_⟩
    rw [heq]
    exact Nat.sub_add_cancel hrange.1

theorem entrySource_exists_iff : (∃ x, entrySource f = some x) ↔
    (f.sourceKind = 0 ∧ f.source.toNat < 512) ∨ (f.sourceKind = 1 ∧ f.source.toNat < 8) := by
  constructor
  · rintro ⟨_ | p, h⟩
    · rw [entrySource_direct] at h; exact .inl ⟨h.1, h.2.1⟩
    · rw [entrySource_pointer] at h; exact .inr ⟨h.1, h.2 ▸ p.isLt⟩
  · rintro (⟨hk, hlt⟩ | ⟨hk, hlt⟩)
    · exact ⟨_, entrySource_direct.2 ⟨hk, hlt, rfl⟩⟩
    · exact ⟨.pointer ⟨_, hlt⟩, entrySource_pointer.2 ⟨hk, rfl⟩⟩

theorem entryCarrier_exists_iff (hcarriers : g.carriers ≤ 16) : (∃ x, entryCarrier f g kind earlier = some x) ↔
    (f.carrier = 0 ∨ (f.carrier.toNat ≤ g.carriers ∧ kind = .knit)) ∧
      ∀ e ∈ earlier, ∀ k, e.carrier = some k → k.val + 1 ≠ f.carrier.toNat := by
  constructor
  · rintro ⟨_ | k, h⟩
    · rw [entryCarrier_none] at h
      exact ⟨.inl h, fun e he k hk => by simp [h]⟩
    · obtain ⟨hnum, hlt, hknit, hnew⟩ := entryCarrier_some.1 h
      refine ⟨.inr ⟨by omega, hknit⟩, fun e he k' hk' heq => hnew e he ?_⟩
      rw [hk', Option.some.injEq, Fin.ext_iff]
      omega
  · rintro ⟨h0 | ⟨hle, hknit⟩, hnew⟩
    · exact ⟨_, entryCarrier_none.2 h0⟩
    · by_cases h0 : f.carrier = 0
      · exact ⟨_, entryCarrier_none.2 h0⟩
      · have hpos : 1 ≤ f.carrier.toNat := Nat.one_le_iff_ne_zero.2 fun h => h0 (BitVec.eq_of_toNat_eq h)
        exact ⟨some ⟨f.carrier.toNat - 1, by omega⟩, entryCarrier_some.2 ⟨Nat.sub_add_cancel hpos,
          Nat.sub_one_lt_of_le hpos hle, hknit, fun e he hk => hnew e he _ hk (Nat.sub_add_cancel hpos)⟩⟩

theorem entryExchange_exists_iff : (∃ x, entryExchange f = some x) ↔
    f.exchange = 0 ∨ (f.exchangeA.toNat < 16 ∧ f.exchangeB.toNat < 16) := by
  constructor
  · rintro ⟨_ | ⟨a, b⟩, h⟩
    · exact .inl (entryExchange_none.1 h)
    · obtain ⟨-, ha, hb⟩ := entryExchange_some.1 h
      exact .inr ⟨ha ▸ a.isLt, hb ▸ b.isLt⟩
  · intro h
    by_cases h0 : f.exchange = 0
    · exact ⟨_, entryExchange_none.2 h0⟩
    · obtain ⟨ha, hb⟩ := h.resolve_left h0
      exact ⟨_, entryExchange_some.2 ⟨h0, colourOf_eq_some.1 (colourOf_of_lt ha), colourOf_eq_some.1 (colourOf_of_lt hb)⟩⟩

theorem entryOverlay_exists_iff : (∃ x, entryOverlay f = some x) ↔
    f.overlay = 0 ∨ (f.overlayRow.toNat < 512 ∧ f.overlayOrigin.toNat < 1280 ∧
      (1 ≤ f.overlayWidth.toNat ∧ f.overlayWidth.toNat ≤ 1280) ∧ f.overlayKey.toNat < 16) := by
  constructor
  · rintro ⟨_ | o, h⟩
    · exact .inl (entryOverlay_none.1 h)
    · obtain ⟨-, hrow, hcell, hwide, hkey⟩ := entryOverlay_some.1 h
      have := natIn_eq_some.1 hwide
      exact .inr ⟨(rowOf_eq_some hrow).1 ▸ (rowOf_eq_some hrow).2, (cellOf_eq_some hcell).1 ▸ (cellOf_eq_some hcell).2,
        by omega, colourOf_eq_some.1 hkey ▸ o.key.isLt⟩
  · intro h
    by_cases h0 : f.overlay = 0
    · exact ⟨_, entryOverlay_none.2 h0⟩
    · obtain ⟨hrow, hcell, ⟨hlo, hhi⟩, hkey⟩ := h.resolve_left h0
      exact ⟨_, entryOverlay_some (o := ⟨_, _, _, _⟩).2 ⟨h0, rowOf_of_lt hrow, cellOf_of_lt hcell, natIn_of_le hlo hhi,
        colourOf_of_lt hkey⟩⟩

/-- An entry passes exactly if its fields are in range and no earlier entry has its system or its carrier. -/
theorem checkEntry_exists_iff {code : Byte} (hsystems : g.systems ≤ 3) (hcarriers : g.carriers ≤ 16)
    (hkind : Kind.ofCode code = some kind) :
    (∃ e, checkEntry f g kind earlier = some e) ↔ EntryFrame.inRange f g code ∧ ∀ e ∈ earlier, e.apart f := by
  have hknit : kind = .knit ↔ code = 0 := by
    rw [Kind.ofCode_eq_some] at hkind
    cases kind <;> simp [hkind]
  constructor
  · rintro ⟨e, h⟩
    obtain ⟨hsystem, hsource, htable, hcarrier, hwidth, horigin, hshift, -, hexchange, hoverlay⟩ := checkEntry_eq_some.1 h
    obtain ⟨hsystem, hsystems'⟩ := (entrySystem_exists_iff hsystems).1 ⟨_, hsystem⟩
    obtain ⟨hcarrier, hcarriers'⟩ := (entryCarrier_exists_iff hcarriers).1 ⟨_, hcarrier⟩
    have hwidth := natIn_eq_some.1 hwidth
    have hshift := entryShift_eq_some.1 hshift
    exact ⟨⟨hsystem, entrySource_exists_iff.1 ⟨_, hsource⟩, bankNumber_eq_some.1 htable ▸ e.table.isLt,
      by rwa [hknit] at hcarrier,
      by omega, (cellOf_eq_some horigin).1 ▸ (cellOf_eq_some horigin).2, by omega, entryExchange_exists_iff.1 ⟨_, hexchange⟩,
      entryOverlay_exists_iff.1 ⟨_, hoverlay⟩⟩, fun e' he' => ⟨hsystems' e' he', hcarriers' e' he'⟩⟩
  · rintro ⟨⟨hsystem, hsource, htable, hcarrier, hwidth, horigin, hshift, hexchange, hoverlay⟩, hapart⟩
    obtain ⟨system, hsystem⟩ := (entrySystem_exists_iff hsystems).2 ⟨hsystem, fun e he => (hapart e he).1⟩
    obtain ⟨source, hsource⟩ := entrySource_exists_iff.2 hsource
    rw [← hknit] at hcarrier
    obtain ⟨carrier, hcarrier⟩ := (entryCarrier_exists_iff hcarriers).2 ⟨hcarrier, fun e he => (hapart e he).2⟩
    obtain ⟨exchange, hexchange⟩ := entryExchange_exists_iff.2 hexchange
    obtain ⟨overlay, hoverlay⟩ := entryOverlay_exists_iff.2 hoverlay
    exact ⟨⟨system, source, ⟨_, htable⟩, carrier, _, _, _, _, exchange, overlay⟩, checkEntry_eq_some.2 ⟨hsystem, hsource,
      bankNumber_of_eq rfl, hcarrier, natIn_of_le hwidth.1 hwidth.2, cellOf_of_lt horigin,
      entryShift_eq_some.2 ⟨hshift.1, hshift.2, rfl⟩, rfl, hexchange, hoverlay⟩⟩

/-! ## The entries of a record (R65) -/

/-- An entry taken from a frame entry is apart from a later one where the two frame entries name other systems, and other
carriers if they name one. -/
theorem SystemEntry.takenFrom.apart_iff {e : SystemEntry} {f' : EntryFrame} (h : e.takenFrom f) :
    e.apart f' ↔ f.system ≠ f'.system ∧ (f.carrier ≠ 0 → f'.carrier ≠ 0 → f.carrier ≠ f'.carrier) := by
  obtain ⟨hsystem, -, -, hcarrier, -⟩ := h
  rw [SystemEntry.apart, hsystem, ne_eq, ← BitVec.toNat_eq]
  refine and_congr_right fun _ => ?_
  cases hc : e.carrier with
  | none =>
    rw [hc] at hcarrier
    exact ⟨fun _ h0 => absurd hcarrier h0, nofun⟩
  | some k =>
    rw [hc] at hcarrier
    replace hcarrier : k.val + 1 = f.carrier.toNat := hcarrier
    simp only [Option.some.injEq, forall_eq', hcarrier, ne_eq, ← BitVec.toNat_eq]
    exact ⟨fun h _ _ => h, fun h heq => h (fun h0 => by simp [h0] at hcarrier) (fun h0 => by
      simp [heq, h0] at hcarrier) heq⟩

/-- Two frame entries name other systems, and other carriers if both name one. -/
def entriesDiffer (f f' : EntryFrame) : Prop :=
  f.system ≠ f'.system ∧ (f.carrier ≠ 0 → f'.carrier ≠ 0 → f.carrier ≠ f'.carrier)

theorem entriesDiffer_pairwise (fs : List EntryFrame) : fs.Pairwise entriesDiffer ↔
    (fs.map EntryFrame.system).Nodup ∧ ((fs.map EntryFrame.carrier).filter (· ≠ 0)).Nodup := by
  simp only [List.Nodup, List.pairwise_filter, List.pairwise_map, decide_eq_true_eq, ← List.pairwise_and_iff]
  rfl

/-- The entries pass exactly if each is in range and they differ from each other and from those before them. -/
theorem checkEntries_exists_iff {code : Byte} (hsystems : g.systems ≤ 3) (hcarriers : g.carriers ≤ 16)
    (hkind : Kind.ofCode code = some kind) (fs : List EntryFrame) :
    (∃ es, checkEntries g kind fs earlier = some es) ↔
      (∀ f ∈ fs, EntryFrame.inRange f g code) ∧ fs.Pairwise entriesDiffer ∧ ∀ e ∈ earlier, ∀ f ∈ fs, e.apart f := by
  induction fs generalizing earlier with
  | nil => simp [checkEntries]
  | cons f fs ih =>
    have hentry := checkEntry_exists_iff (f := f) (earlier := earlier) hsystems hcarriers hkind
    rw [checkEntries]
    cases h : checkEntry f g kind earlier with
    | none =>
      rw [h] at hentry
      refine ⟨nofun, fun ⟨hrange, _, hapart⟩ => ?_⟩
      obtain ⟨e, he⟩ := hentry.2 ⟨hrange f (by simp), fun e he => hapart e he f (by simp)⟩
      cases he
    | some e =>
      obtain ⟨hrange, hapart⟩ := hentry.1 ⟨e, h⟩
      have htaken := checkEntry_takenFrom h
      refine ih.trans ?_
      simp only [List.forall_mem_append, List.forall_mem_singleton, List.forall_mem_cons, List.pairwise_cons]
      constructor
      · rintro ⟨hranges, hpair, hold, hnew⟩
        exact ⟨⟨hrange, hranges⟩, ⟨fun f' hf' => htaken.apart_iff.1 (hnew f' hf'), hpair⟩,
          fun e' he' => ⟨hapart e' he', hold e' he'⟩⟩
      · rintro ⟨⟨-, hranges⟩, ⟨hdiffer, hpair⟩, hold⟩
        exact ⟨hranges, hpair, fun e' he' => (hold e' he').2, fun f' hf' => htaken.apart_iff.2 (hdiffer f' hf')⟩

theorem checkEntries_takenFrom {fs : List EntryFrame} {es : List SystemEntry}
    (h : checkEntries g kind fs earlier = some es) :
    ∃ new, es = earlier ++ new ∧ List.Forall₂ SystemEntry.takenFrom new fs := by
  induction fs generalizing earlier with
  | nil => exact ⟨[], by simpa [checkEntries, eq_comm] using h, .nil⟩
  | cons f fs ih =>
    rw [checkEntries] at h
    split at h
    · next e he =>
      obtain ⟨new, hnew, hall⟩ := ih h
      exact ⟨e :: new, by simpa using hnew, .cons (checkEntry_takenFrom he) hall⟩
    · cases h

end Fields

/-! ## The record (R65, R66) -/

section Record
variable {f : CourseFrame} {g : Geometry}

theorem Kind.ofCode_exists_iff {b : Byte} : (∃ k, Kind.ofCode b = some k) ↔ b.toNat < 2 := by
  unfold Kind.ofCode
  split <;> simp_all
  omega

theorem Direction.ofCode_exists_iff {b : Byte} : (∃ d, Direction.ofCode b = some d) ↔ b.toNat < 2 := by
  unfold Direction.ofCode
  split <;> simp_all
  omega

theorem rackingOf_exists_iff {b : Byte} : (∃ r, rackingOf b = some r) ↔ -8 ≤ b.toInt ∧ b.toInt ≤ 8 := by
  simp only [rackingOf_eq_some]
  exact ⟨fun ⟨r, _⟩ => by omega, fun _ => ⟨b.toInt, by omega⟩⟩

/-- A record passes where its count, its header and its entries do. -/
theorem checkCourse_exists_iff_parts : (∃ c, checkCourse f g = some c) ↔
    (1 ≤ f.entries.length ∧ f.entries.length ≤ 3 ∧ f.entries.length ≤ g.systems) ∧
      (∃ d, Direction.ofCode f.direction = some d) ∧ (∃ r, rackingOf f.racking = some r) ∧
      ∃ kind, Kind.ofCode f.kind = some kind ∧ ∃ es, checkEntries g kind f.entries [] = some es := by
  unfold checkCourse
  split
  · next hcount =>
    split
    · next kind direction racking hkind hdirection hracking =>
      simp only [hcount, hdirection, hracking, hkind]
      split
      · next es hes => simp [hes]
      · next hnone => simp [hnone]
    · next hno =>
      refine ⟨by simp, fun ⟨_, ⟨d, hd⟩, ⟨r, hr⟩, k, hk, _⟩ => (hno k d r hk hd hr).elim⟩
  · next hcount => exact ⟨by simp, fun h => absurd h.1 hcount⟩

/-- A record passes exactly if every check of R65 holds. -/
theorem checkCourse_exists_iff (hsystems : g.systems ≤ 3) (hcarriers : g.carriers ≤ 16) :
    (∃ c, checkCourse f g = some c) ↔ CourseFrame.inRange f g := by
  rw [checkCourse_exists_iff_parts, CourseFrame.inRange, Direction.ofCode_exists_iff, rackingOf_exists_iff,
    ← Kind.ofCode_exists_iff (b := f.kind), ← entriesDiffer_pairwise]
  constructor
  · rintro ⟨hcount, hdirection, hracking, kind, hkind, hentries⟩
    obtain ⟨hranges, hpair, -⟩ := (checkEntries_exists_iff hsystems hcarriers hkind _).1 hentries
    exact ⟨hcount, ⟨kind, hkind⟩, hdirection, hracking, hranges, hpair⟩
  · rintro ⟨hcount, ⟨kind, hkind⟩, hdirection, hracking, hranges, hpair⟩
    exact ⟨hcount, hdirection, hracking, kind, hkind,
      (checkEntries_exists_iff hsystems hcarriers hkind _).2 ⟨hranges, hpair, by simp⟩⟩

theorem checkCourse_takenFrom {c : Course} (h : checkCourse f g = some c) : c.takenFrom f := by
  unfold checkCourse at h
  split at h
  · split at h
    · next kind direction racking hkind hdirection hracking =>
      split at h
      · next es hes =>
        cases h
        obtain ⟨new, rfl, hall⟩ := checkEntries_takenFrom hes
        rw [Kind.ofCode_eq_some] at hkind
        rw [Direction.ofCode_eq_some] at hdirection
        exact ⟨rfl, by cases kind <;> simp [hkind], by cases direction <;> simp [hdirection],
          (rackingOf_eq_some.1 hracking).2.2.symm, clampClass_eq _, rfl, hall, rfl, rfl, rfl, rfl, rfl, rfl⟩
      · cases h
    · cases h
  · cases h

end Record

/-! ## COMMIT_COURSE -/

theorem exec_commitCourse {s t : State} {r : ResultCode} (h : s.open) (f : CourseFrame)
    (ho : ownCommitCourse f s.loadBroken = (r, t)) : exec (.commitCourse .fits f) s =
      .next (t.withPatternPort ⟨r, none, t.patternPort.lastResult.code :: zeros (12 + 24 * f.entries.length)⟩) :=
  congrArg _ (takeWrite_pattern (breaks := true) (f := Layout.commitCourse f.entries.length) h rfl ho)

/-- Settles O21: a record that passes takes a free slot, and otherwise nothing but the answer changes. -/
theorem commitCourse : Obligations.CommitCourse := by
  intro s f ho hranges
  obtain ⟨-, -, -, hgeo, -⟩ := hranges
  obtain ⟨-, -, -, -, ⟨-, hsystems⟩, -, -, -, -, -, -, -, -, -, -, -, ⟨-, hcarriers⟩, -⟩ := hgeo
  have hpasses := checkCourse_exists_iff (f := f) hsystems hcarriers
  refine ⟨fun hin hfree => ?_, fun hin hfull => ?_, fun hout => ?_⟩
  · obtain ⟨c, hc⟩ := hpasses.2 hin
    refine ⟨c, checkCourse_takenFrom hc, exec_commitCourse ho f ?_⟩
    have hslot : ¬ Config.slotCount ≤ s.loadBroken.slotsInUse := Nat.not_le.2 hfree
    simp only [ownCommitCourse, show s.loadBroken.geo = s.geo from rfl, hc, if_neg hslot]
    rfl
  · obtain ⟨c, hc⟩ := hpasses.2 hin
    have hslot : Config.slotCount ≤ s.loadBroken.slotsInUse := hfull
    exact exec_commitCourse ho f (by simp only [ownCommitCourse, show s.loadBroken.geo = s.geo from rfl, hc, if_pos hslot])
  · have hnone : checkCourse f s.geo.record = none :=
      Option.eq_none_iff_forall_ne_some.2 fun c hc => hout (hpasses.1 ⟨c, hc⟩)
    exact exec_commitCourse ho f (by simp only [ownCommitCourse, show s.loadBroken.geo = s.geo from rfl, hnone])

end Sys2Proof.Machine
end

section
/-! SUPPORT. One count of a KNITTING stroke: the state the stroke's work starts from, what is due, and a count with one
work due (R106, R150 to R155). -/

namespace Sys2Proof.Machine

variable {s t u : State} {l l' : List Block}

/-! ## Frames -/

theorem State.sameBut.trans (h : u.sameBut t l) (h' : t.sameBut s l) : u.sameBut s l := by
  intro b hb
  have hut := h b hb
  have hts := h' b hb
  cases b <;> exact Eq.trans hut hts

theorem State.sameBut.mono (h : t.sameBut s l) (hsub : ∀ b ∈ l, b ∈ l') : t.sameBut s l' :=
  fun b hb => h b fun hl => hb (hsub b hl)

/-! ## The state the stroke's work starts from -/

variable {c : Course} {r : StrokeRecord} {a b : Bool} {p : Nat}

/-- P has moved, the carriers have followed the catchers, and F has followed P (R106, R154). -/
def State.counted (s : State) (r : StrokeRecord) (a b : Bool) (p : Nat) : State :=
  ((s.moved a b p).followCatchers r.direction s.pos.count).withHeads
    { s.heads with stroke := some { r with furthest := r.reach p } }

theorem StrokeRecord.advanceFurthest_eq (r : StrokeRecord) (p : Nat) :
    r.advanceFurthest p = { r with furthest := r.reach p } := by
  unfold StrokeRecord.advanceFurthest StrokeRecord.reach
  cases r.direction <;> rfl

@[simp] theorem State.counted_carriers (k : Carrier) : (s.counted r a b p).carriers[k] = s.followed r.direction p k :=
  State.followCatchers_get (s := s.moved a b p) r.direction s.pos.count k

theorem State.counted_sameBut : (s.counted r a b p).sameBut (s.moved a b p) [.heads, .carriers, .retained] := by
  intro x hx
  have hfollow := State.followCatchers_sameBut (s := s.moved a b p) r.direction s.pos.count x
  cases x <;> simp_all [Block.same, State.counted]

@[simp] theorem State.counted_geo : (s.counted r a b p).geo = s.geo := State.counted_sameBut .geo (by decide)
@[simp] theorem State.counted_pos : (s.counted r a b p).pos = { s.pos with count := p, levelA := a, levelB := b } :=
  State.counted_sameBut .pos (by decide)
@[simp] theorem State.counted_image : (s.counted r a b p).image = s.image := State.counted_sameBut .image (by decide)
@[simp] theorem State.counted_queue : (s.counted r a b p).queue = s.queue := State.counted_sameBut .queue (by decide)
@[simp] theorem State.counted_catchers : (s.counted r a b p).catchers = s.catchers :=
  State.counted_sameBut .catchers (by decide)
@[simp] theorem State.counted_pins : (s.counted r a b p).pins = { s.pins with encA := a, encB := b } :=
  State.counted_sameBut .pins (by decide)

theorem State.countsTo.ne (h : s.countsTo a b p) : s.pos.count ≠ p := by
  obtain ⟨-, -, hp, -⟩ := h
  split at hp <;> omega

/-- A count of a KNITTING stroke is its work, from the state it starts from. -/
theorem State.countChanged_knits (h : s.knits c r) (hd : c.direction = r.direction) (hc : s.countsTo a b p) :
    (s.moved a b p).countChanged s.pos.count =
      (let t := s.counted r a b p
       let due := t.dueWork { r with furthest := r.reach p } s.pos.count
       if due.any (t.faulting { r with furthest := r.reach p } s.pos.count) then
         (sortByRank (Config.rank s.freeIndex) due).foldl (fun u w => u.runWork s.pos.count w)
           (t.withFreeIndex (s.freeIndex + 1))
       else due.foldl (fun u w => u.runWork s.pos.count w) t) := by
  obtain ⟨hhead, hk, hstroke⟩ := h
  have hmoved : (s.moved a b p).head? = some c := hhead
  have hfree : ((s.moved a b p).followCatchers r.direction s.pos.count).freeIndex = s.freeIndex := by simp; rfl
  have hcount : ((s.moved a b p).followCatchers r.direction s.pos.count).pos.count = p := by simp; rfl
  have hheads : ((s.moved a b p).followCatchers r.direction s.pos.count).heads = s.heads := by simp; rfl
  unfold State.countChanged
  rw [if_neg (show s.pos.count ≠ (s.moved a b p).pos.count from hc.ne)]
  simp only [hmoved, hk, hd, State.strokeWork, hstroke, hcount, StrokeRecord.advanceFurthest_eq, hheads, hfree]
  rfl

/-- A count with one work due. -/
theorem exec_count_single {w : CountWork} (h : s.knits c r) (hd : c.direction = r.direction) (hc : s.countsTo a b p)
    (hdue : (s.counted r a b p).dueWork { r with furthest := r.reach p } s.pos.count = [w]) :
    exec (.encoderTransition a b) s = .next
      ((if (s.counted r a b p).faulting { r with furthest := r.reach p } s.pos.count w = true
        then (s.counted r a b p).withFreeIndex (s.freeIndex + 1) else s.counted r a b p).runWork s.pos.count w) := by
  rw [exec_encoderTransition_counts hc, State.countChanged_knits h hd hc]
  simp only [hdue, List.any_cons, List.any_nil, Bool.or_false]
  split <;> rfl

/-! ## What is due -/

/-- No head's selection is due where every head is quiet. -/
theorem State.counted_dueWork (hheads : ∀ h : Head, s.headQuiet r p h) :
    (s.counted r a b p).dueWork { r with furthest := r.reach p } s.pos.count =
      (if s.image.plan.any fun e =>
          catchDue r.direction (catcherIndex s.geo.record r.direction s.pos.count)
            (catcherIndex s.geo.record r.direction p) (s.counted r a b p) e ||
          releaseDue (catcherIndex s.geo.record r.direction s.pos.count) (catcherIndex s.geo.record r.direction p)
            (s.counted r a b p) e then [.catchers] else []) ++
      (if ({ r with furthest := r.reach p } : StrokeRecord).reversed s.geo.record.backlash p then [.reversal] else []) ++
      (if ({ r with furthest := r.reach p } : StrokeRecord).atEnd p then [.complete] else []) := by
  have hnone : (allHeads.filterMap fun h =>
      if headIndex s.geo.record h r.direction s.pos.count ≠ headIndex s.geo.record h r.direction p ∧
        headIndex s.geo.record h r.direction p = r.next[h] then some (CountWork.select h) else none) = [] := by
    refine List.filterMap_eq_nil_iff.2 fun h _ => if_neg ?_
    rintro ⟨hmoves, hthere⟩
    exact (hheads h).elim hmoves fun hnot => hnot hthere
  simp only [State.dueWork, State.counted_geo, State.counted_pos, State.counted_image, hnone, List.nil_append]

/-- A quiet entry is neither caught nor released, whatever the carriers. -/
theorem State.entryQuiet.not_due {e : PlanEntry} (h : s.entryQuiet r p e) (u : State) :
    catchDue r.direction (catcherIndex s.geo.record r.direction s.pos.count) (catcherIndex s.geo.record r.direction p) u e
        = false ∧
      releaseDue (catcherIndex s.geo.record r.direction s.pos.count) (catcherIndex s.geo.record r.direction p) u e
        = false := by
  unfold catchDue releaseDue
  rcases h with h | ⟨hcatch, hrelease⟩ <;> simp [*]

/-- Short of the end point and within the backlash, P brings neither reversal nor completion. -/
theorem StrokeRecord.within.not_due {backlash : Nat} (h : r.within backlash p) :
    ({ r with furthest := r.reach p } : StrokeRecord).reversed backlash p = false ∧
      ({ r with furthest := r.reach p } : StrokeRecord).atEnd p = false := by
  unfold StrokeRecord.within at h
  unfold StrokeRecord.reversed StrokeRecord.atEnd StrokeRecord.reach
  cases hd : r.direction <;> simp only [hd] at h ⊢ <;> simp only [decide_eq_false_iff_not] <;> omega

end Sys2Proof.Machine
end

section
/-! O46. A count catches and releases a plan entry in its window (R74, R106, R120 to R122, R164). -/

namespace Sys2Proof.Machine

variable {s t u : State} {c : Course} {cs : List Course} {r : StrokeRecord} {a b : Bool} {p : Nat}

/-! ## One catch and one release -/

/-- A position brought to the nearer end of -32..N+31 (R106). -/
theorem Geometry.clampPosition_eq (g : Geometry) (x : Int) :
    g.clampPosition x = max (-32) (min ((g.bedNeedles : Int) + 31) x) := by
  unfold Geometry.clampPosition clamp
  split_ifs <;> omega

/-- A catch before the carrier's sensor is looked at (R120, R106). -/
def State.caught (s : State) (k : Carrier) (x : Int) : State :=
  (s.withCatchers (s.catchers.set (s.railOf k).val true)).changeCarrier k fun e =>
    { e with status := .engaged (s.geo.record.clampPosition x) }

theorem State.catchCarrier_eq (k : Carrier) (x : Int) : s.catchCarrier k x =
    if s.pins.yarn[k] then (s.caught k x).strokeFault .yarnBreak (some k) none else s.caught k x := rfl

/-- A catch of a carrier whose yarn runs. -/
theorem State.catchCarrier_whole {k : Carrier} (h : s.pins.yarn[k] = false) (x : Int) :
    s.catchCarrier k x = s.caught k x := by
  rw [State.catchCarrier_eq, h]; rfl

/-- A catch of a carrier whose sensor already reports a break faults the stroke (R122). -/
theorem State.catchCarrier_broken {k : Carrier} (h : s.pins.yarn[k] = true) (x : Int) :
    s.catchCarrier k x = (s.caught k x).strokeFault .yarnBreak (some k) none := by
  rw [State.catchCarrier_eq, h]; rfl

theorem State.caught_catchers (k : Carrier) (x : Int) (rail : Rail) :
    (s.caught k x).catchers[rail] = if rail = s.railOf k then true else s.catchers[rail] := by
  simp [State.caught, Vector.getElem_set, Fin.ext_iff, eq_comm (a := rail.val)]

theorem State.caught_carriers (k : Carrier) (x : Int) (j : Carrier) : (s.caught k x).carriers[j] =
    if j = k then ⟨.engaged (s.geo.record.clampPosition x), s.carriers[j].rail⟩ else s.carriers[j] :=
  State.changeCarrier_get (s := s.withCatchers _) _ k j

theorem State.caught_sameBut (k : Carrier) (x : Int) : (s.caught k x).sameBut s [.catchers, .carriers, .retained] := by
  intro y hy
  cases y <;> simp_all [Block.same, State.caught]

theorem State.releaseCarrier_catchers (k : Carrier) (q : Int) (rail : Rail) :
    (s.releaseCarrier k q).catchers[rail] = if rail = s.railOf k then false else s.catchers[rail] := by
  simp [State.releaseCarrier, Vector.getElem_set, Fin.ext_iff, eq_comm (a := rail.val)]

theorem State.releaseCarrier_carriers (k : Carrier) (q : Int) (j : Carrier) :
    (s.releaseCarrier k q).carriers[j] = if j = k then ⟨.parked q, s.railOf j⟩ else s.carriers[j] := by
  simp only [State.releaseCarrier, State.changeHead_carriers, State.changeCarrier_get, State.withCatchers_carriers]
  split
  · next h => rw [h]
  · rfl

theorem State.releaseCarrier_queue (h : s.queue.courses = c :: cs) (k : Carrier) (q : Int) :
    (s.releaseCarrier k q).queue = { s.queue with courses := { c with parked := c.parked ++ [(k, q)] } :: cs } := by
  simp [State.releaseCarrier, State.changeHead, h]

theorem State.releaseCarrier_sameBut (k : Carrier) (q : Int) :
    (s.releaseCarrier k q).sameBut s [.catchers, .carriers, .retained, .queue] := by
  intro y hy
  cases y <;> simp_all [Block.same]

/-! ## What an entry brings -/

section Event
variable {d : Direction} {c0 c1 : Int} {e : PlanEntry}

theorem catcherEvent_catch (hk : s.headIs .knitting = true) (h : catchDue d c0 c1 s e = true) :
    catcherEvent d c0 c1 e s = ({ e with progress := .carrying }, s.catchCarrier e.carrier c1) := by
  simp [catcherEvent, hk, h]

theorem catcherEvent_release (hk : s.headIs .knitting = true) (hc : catchDue d c0 c1 s e = false)
    (h : releaseDue c0 c1 s e = true) :
    catcherEvent d c0 c1 e s = ({ e with progress := .left }, s.releaseCarrier e.carrier e.release) := by
  simp [catcherEvent, hk, hc, h]

theorem catcherEvent_quiet (h : catchDue d c0 c1 s e = false ∧ releaseDue c0 c1 s e = false) :
    catcherEvent d c0 c1 e s = (e, s) := by
  simp [catcherEvent, h]

/-- An entry's catch is due while it awaits it, its carrier PARKED, as the index enters p - d (R120). -/
theorem catchDue_iff : catchDue d c0 c1 s e = true ↔
    e.progress = .awaitingCatch ∧ (∃ x, s.carriers[e.carrier].status = .parked x) ∧ c0 ≠ c1 ∧ c1 = e.pickup - d.sign := by
  have hparked : s.carriers[e.carrier].parkedAt.isSome = true ↔ ∃ x, s.carriers[e.carrier].status = .parked x := by
    unfold CarrierEntry.parkedAt
    split
    · next x hx => exact ⟨fun _ => ⟨x, hx⟩, fun _ => rfl⟩
    · next hno => simpa using hno
  simp only [catchDue, Bool.and_eq_true, decide_eq_true_eq, hparked, and_assoc]

/-- An entry's release is due while it carries, its carrier ENGAGED, as the index enters q (R121). -/
theorem releaseDue_iff : releaseDue c0 c1 s e = true ↔
    e.progress = .carrying ∧ s.carriers[e.carrier].isEngaged = true ∧ c0 ≠ c1 ∧ c1 = e.release := by
  simp only [releaseDue, Bool.and_eq_true, decide_eq_true_eq, and_assoc]

theorem catchDue_carrying (h : e.progress ≠ .awaitingCatch) : catchDue d c0 c1 s e = false := by
  simp [catchDue, h]

/-- One entry that may be due among entries that bring nothing. -/
theorem catcherEvents_one {pre post : List PlanEntry} (e : PlanEntry)
    (h : ∀ f ∈ pre ++ post, ∀ u, catcherEvent d c0 c1 f u = (f, u)) : catcherEvents d c0 c1 (pre ++ e :: post) s =
      (pre ++ (catcherEvent d c0 c1 e s).1 :: post, (catcherEvent d c0 c1 e s).2) := by
  have hquiet (l : List PlanEntry) (hl : ∀ f ∈ l, ∀ u, catcherEvent d c0 c1 f u = (f, u)) (u : State) :
      catcherEvents d c0 c1 l u = (l, u) := by
    induction l with
    | nil => rfl
    | cons f l ih => simp [catcherEvents, hl f (by simp), ih fun g hg => hl g (by simp [hg])]
  induction pre with
  | nil => simp [catcherEvents, hquiet post (by simpa using h)]
  | cons f pre ih =>
    rw [List.cons_append, catcherEvents, h f (by simp)]
    simp only [ih fun g hg => h g (by simp_all), List.cons_append]

/-- The first part of O46: one entry as the catcher index moves. -/
theorem catcherEvent_cases (h : s.queue.courses = c :: cs) (hk : c.state = .knitting) :
    (e.progress = .awaitingCatch → (∃ x, s.carriers[e.carrier].status = .parked x) → c0 ≠ c1 → c1 = e.pickup - d.sign →
      catcherEvent d c0 c1 e s = ({ e with progress := .carrying },
        if s.pins.yarn[e.carrier] = true then (s.caught e.carrier c1).strokeFault .yarnBreak (some e.carrier) none
        else s.caught e.carrier c1)) ∧
    (e.progress = .carrying → s.carriers[e.carrier].isEngaged = true → c0 ≠ c1 → c1 = e.release →
      catcherEvent d c0 c1 e s = ({ e with progress := .left }, s.releaseCarrier e.carrier e.release)) := by
  have hhead : s.headIs .knitting = true := by simp [State.headIs_cons h, hk]
  refine ⟨fun hp hs hne heq => ?_, fun hp hs hne heq => ?_⟩
  · rw [catcherEvent_catch hhead (catchDue_iff.2 ⟨hp, hs, hne, heq⟩), State.catchCarrier_eq]
  · exact catcherEvent_release hhead (catchDue_carrying (by simp [hp])) (releaseDue_iff.2 ⟨hp, hs, hne, heq⟩)

/-- An entry brings nothing outside its windows, before its catch is possible and after its release. -/
theorem catcherEvent_still (h : e.progress = .left ∨ c0 = c1 ∨
    (e.progress = .awaitingCatch ∧ (c1 ≠ e.pickup - d.sign ∨ s.carriers[e.carrier].parkedAt = none)) ∨
    (e.progress = .carrying ∧ (c1 ≠ e.release ∨ s.carriers[e.carrier].isEngaged = false))) :
    catcherEvent d c0 c1 e s = (e, s) := by
  refine catcherEvent_quiet ?_
  unfold catchDue releaseDue
  rcases h with h | h | ⟨hp, h | h⟩ | ⟨hp, h | h⟩ <;> simp_all

end Event

end Sys2Proof.Machine
end

section
/-! O46, continued: the count that brings one plan entry due. -/

namespace Sys2Proof.Machine

variable {s t u : State} {c : Course} {cs : List Course} {r : StrokeRecord} {a b : Bool} {p : Nat}

/-! ## Carriers that follow -/

/-- A PARKED carrier stays where it is as P moves (R106). -/
theorem State.followed_parked {d : Direction} {k : Carrier} {x : Int} (h : s.carriers[k].status = .parked x) :
    s.followed d p k = s.carriers[k] := by
  unfold State.followed
  split
  · rfl
  · rw [CarrierEntry.follow, h]

/-- An ENGAGED carrier stays ENGAGED as P moves (R106). -/
theorem State.followed_isEngaged (d : Direction) {k : Carrier} (h : s.carriers[k].isEngaged = true) :
    (s.followed d p k).isEngaged = true := by
  unfold State.followed
  split
  · exact h
  · unfold CarrierEntry.isEngaged at h
    unfold CarrierEntry.follow
    split at h
    · next hx => rw [hx]; rfl
    · cases h

theorem State.followed_rail (d : Direction) (k : Carrier) : (s.followed d p k).rail = s.carriers[k].rail := by
  unfold State.followed CarrierEntry.follow
  split
  · rfl
  · split <;> rfl

theorem State.strokeFault_sameBut (reason : FaultReason) (k : Option Carrier) (h : Option Head) :
    (s.strokeFault reason k h).sameBut s
      [.heads, .carriers, .retained, .queue, .stops, .patternReasons, .driveReasons, .reasonCounts] := by
  intro y hy
  cases y <;> simp_all [Block.same]

theorem State.withImage_sameBut (x : StrokeImage) : (s.withImage x).sameBut s [.image] := by
  intro y hy
  cases y <;> simp_all [Block.same]

theorem State.headIs_of_queue (h : t.queue = s.queue) (st : CourseState) : t.headIs st = s.headIs st := by
  rw [State.headIs, State.headIs, State.head?, State.head?, h]

/-! ## The count -/

/-- The catcher index of a stroke's direction at a P (R101). -/
abbrev State.indexAt (s : State) (r : StrokeRecord) (p : Nat) : Int := catcherIndex s.geo.record r.direction p

section Count
variable {e e' : PlanEntry} {pre post : List PlanEntry}

/-- The catchers' work where every entry but one brings nothing. -/
theorem State.runWork_catchers {p0 : Nat} (hk : s.headIs .knitting = true) (hs : s.heads.stroke = some r)
    (hplan : s.image.plan = pre ++ e :: post) (hquiet : ∀ f ∈ pre ++ post, ∀ u,
      catcherEvent r.direction (s.indexAt r p0) (s.indexAt r s.pos.count) f u = (f, u))
    (hevent : catcherEvent r.direction (s.indexAt r p0) (s.indexAt r s.pos.count) e s = (e', t)) :
    s.runWork p0 .catchers = t.withImage { t.image with plan := pre ++ e' :: post } := by
  simp only [State.runWork, hk, if_true, hs, State.runCatchers, hplan, catcherEvents_one e hquiet, hevent]

/-- Among quiet entries the catchers' work faults exactly for a catch of a carrier whose yarn is broken. -/
theorem State.counted_faulting (hplan : s.image.plan = pre ++ e :: post)
    (hquiet : ∀ f ∈ pre ++ post, s.entryQuiet r p f) :
    (s.counted r a b p).faulting { r with furthest := r.reach p } s.pos.count .catchers =
      (s.pins.yarn[e.carrier] &&
        catchDue r.direction (s.indexAt r s.pos.count) (s.indexAt r p) (s.counted r a b p) e) := by
  have hnone (l : List PlanEntry) (hl : ∀ f ∈ l, f ∈ pre ++ post) : (l.any fun f => s.pins.yarn[f.carrier] &&
      catchDue r.direction (s.indexAt r s.pos.count) (s.indexAt r p) (s.counted r a b p) f) = false :=
    List.any_eq_false.2 fun f hf => by simp [((hquiet f (hl f hf)).not_due (s.counted r a b p)).1]
  simp only [State.faulting, State.counted_image, State.counted_pins, State.counted_geo, State.counted_pos, hplan,
    List.any_append, List.any_cons, hnone pre fun f hf => List.mem_append_left _ hf,
    hnone post fun f hf => List.mem_append_right _ hf, Bool.false_or, Bool.or_false]

/-- A count that brings one plan entry alone due is that entry's event, from the state the stroke's work starts from; the
free index moves where the event is a catch of a carrier whose yarn is broken (log 12). -/
theorem exec_count_entry (hkn : s.knits c r) (hd : c.direction = r.direction) (hc : s.countsTo a b p)
    (hheads : ∀ h : Head, s.headQuiet r p h) (hplan : s.image.plan = pre ++ e :: post)
    (hquiet : ∀ f ∈ pre ++ post, s.entryQuiet r p f) (hwithin : r.within s.geo.record.backlash p)
    (hdue : (catchDue r.direction (s.indexAt r s.pos.count) (s.indexAt r p) (s.counted r a b p) e ||
      releaseDue (s.indexAt r s.pos.count) (s.indexAt r p) (s.counted r a b p) e) = true)
    (hu : u = if s.pins.yarn[e.carrier] &&
        catchDue r.direction (s.indexAt r s.pos.count) (s.indexAt r p) (s.counted r a b p) e
      then (s.counted r a b p).withFreeIndex (s.freeIndex + 1) else s.counted r a b p)
    (hevent : catcherEvent r.direction (s.indexAt r s.pos.count) (s.indexAt r p) e u = (e', t)) :
    exec (.encoderTransition a b) s = .next (t.withImage { t.image with plan := pre ++ e' :: post }) := by
  obtain ⟨hreversed, hend⟩ := hwithin.not_due
  have hwork : (s.counted r a b p).dueWork { r with furthest := r.reach p } s.pos.count = [.catchers] := by
    rw [State.counted_dueWork hheads, hreversed, hend, if_pos (List.any_eq_true.2 ⟨e, by simp [hplan], hdue⟩)]
    rfl
  have hsame : u.sameBut (s.counted r a b p) [.freeIndex] := by
    rw [hu]
    intro y hy
    split <;> cases y <;> simp_all [Block.same]
  have hhead : u.headIs .knitting = true := by
    rw [State.headIs_of_queue ((hsame .queue (by decide)).trans State.counted_queue)]
    simp [State.headIs, hkn.1, hkn.2.1]
  have hstroke : u.heads.stroke = some { r with furthest := r.reach p } := by rw [hsame .heads (by decide)]; rfl
  have hgeo : u.geo = s.geo := (hsame .geo (by decide)).trans State.counted_geo
  have hcount : u.pos.count = p := by rw [hsame .pos (by decide), State.counted_pos]
  rw [exec_count_single hkn hd hc hwork, State.counted_faulting hplan hquiet, ← hu]
  refine congrArg _ (State.runWork_catchers hhead hstroke (by rw [hsame .image (by decide), State.counted_image, hplan])
    (fun f hf v => ?_) ?_)
  · rw [State.indexAt, State.indexAt, hgeo, hcount]
    exact catcherEvent_quiet ((hquiet f hf).not_due v)
  · rw [State.indexAt, State.indexAt, hgeo, hcount]
    exact hevent

end Count
end Sys2Proof.Machine
end

section
/-! O46, concluded: the catch, the release, and the catch of a carrier whose yarn is broken. -/

namespace Sys2Proof.Machine

variable {s : State} {c : Course} {cs : List Course} {r : StrokeRecord} {a b : Bool} {p : Nat} {e : PlanEntry}
  {pre post : List PlanEntry}

/-- What a count with one plan entry due starts from: a KNITTING stroke, and nothing else due. -/
structure State.bringsEntry (s : State) (c : Course) (r : StrokeRecord) (a b : Bool) (p : Nat) (pre : List PlanEntry)
    (e : PlanEntry) (post : List PlanEntry) : Prop where
  knits : s.knits c r
  direction : c.direction = r.direction
  counts : s.countsTo a b p
  heads : ∀ h : Head, s.headQuiet r p h
  plan : s.image.plan = pre ++ e :: post
  quiet : ∀ f ∈ pre ++ post, s.entryQuiet r p f
  within : r.within s.geo.record.backlash p
  moves : s.indexAt r s.pos.count ≠ s.indexAt r p

/-- What a work leaves of the state it starts from, it leaves of the state after the move of P. -/
theorem State.counted_frame (t : State) {l : List Block} (h : t.sameBut (s.counted r a b p) l)
    (hsub : ∀ y ∈ [Block.heads, .carriers, .retained], y ∈ l) : t.sameBut (s.moved a b p) l :=
  h.trans (State.counted_sameBut.mono hsub)

theorem State.bringsEntry.headIs (h : s.bringsEntry c r a b p pre e post) :
    (s.counted r a b p).headIs .knitting = true := by
  rw [State.headIs_of_queue State.counted_queue]
  simp [State.headIs, h.knits.1, h.knits.2.1]

/-- The catch is due: the PARKED carrier has not followed P. -/
theorem State.bringsEntry.catchDue (h : s.bringsEntry c r a b p pre e post) (hp : e.progress = .awaitingCatch)
    (hs : ∃ x, s.carriers[e.carrier].status = .parked x) (hi : s.indexAt r p = e.pickup - r.direction.sign) :
    catchDue r.direction (s.indexAt r s.pos.count) (s.indexAt r p) (s.counted r a b p) e = true := by
  obtain ⟨x, hx⟩ := hs
  exact catchDue_iff.2 ⟨hp, ⟨x, by rw [State.counted_carriers, State.followed_parked hx, hx]⟩, h.moves, hi⟩

/-- The catch of a carrier whose yarn is not broken. -/
theorem exec_count_catch (h : s.bringsEntry c r a b p pre e post) (hp : e.progress = .awaitingCatch)
    (hs : ∃ x, s.carriers[e.carrier].status = .parked x) (hi : s.indexAt r p = e.pickup - r.direction.sign)
    (hy : s.pins.yarn[e.carrier] = false) : exec (.encoderTransition a b) s =
      .next (((s.counted r a b p).caught e.carrier (s.indexAt r p)).withImage
        { s.image with plan := pre ++ { e with progress := .carrying } :: post }) := by
  have hdue := h.catchDue hp hs hi
  have himage : ((s.counted r a b p).caught e.carrier (s.indexAt r p)).image = s.image :=
    (State.caught_sameBut _ _ .image (by decide)).trans State.counted_image
  rw [exec_count_entry (u := s.counted r a b p) h.knits h.direction h.counts h.heads h.plan h.quiet h.within
    (by rw [hdue]; rfl) (by rw [hy]; rfl) ((catcherEvent_catch h.headIs hdue).trans
      (congrArg _ (State.catchCarrier_whole (by rw [State.counted_pins, hy]) _))), himage]

/-- The catch of a carrier whose sensor already reports a break (R122). -/
theorem exec_count_catch_broken (h : s.bringsEntry c r a b p pre e post) (hp : e.progress = .awaitingCatch)
    (hs : ∃ x, s.carriers[e.carrier].status = .parked x) (hi : s.indexAt r p = e.pickup - r.direction.sign)
    (hy : s.pins.yarn[e.carrier] = true) : exec (.encoderTransition a b) s =
      .next (((((s.counted r a b p).withFreeIndex (s.freeIndex + 1)).caught e.carrier (s.indexAt r p)).strokeFault .yarnBreak
        (some e.carrier) none).withImage { s.image with plan := pre ++ { e with progress := .carrying } :: post }) := by
  have hdue := h.catchDue hp hs hi
  have himage : ((((s.counted r a b p).withFreeIndex (s.freeIndex + 1)).caught e.carrier (s.indexAt r p)).strokeFault
      .yarnBreak (some e.carrier) none).image = s.image := by
    rw [State.strokeFault_sameBut _ _ _ .image (by decide), State.caught_sameBut _ _ .image (by decide)]
    exact State.counted_image
  rw [exec_count_entry (u := (s.counted r a b p).withFreeIndex (s.freeIndex + 1)) h.knits h.direction h.counts h.heads
    h.plan h.quiet h.within (by rw [hdue]; rfl) (by rw [hy, hdue]; rfl)
    ((catcherEvent_catch (s := (s.counted r a b p).withFreeIndex (s.freeIndex + 1)) h.headIs hdue).trans
      (congrArg _ (State.catchCarrier_broken (by rw [State.withFreeIndex_pins, State.counted_pins, hy]) _))), himage]

/-- The release. -/
theorem exec_count_release (h : s.bringsEntry c r a b p pre e post) (hp : e.progress = .carrying)
    (hs : s.carriers[e.carrier].isEngaged = true) (hi : s.indexAt r p = e.release) :
    exec (.encoderTransition a b) s = .next (((s.counted r a b p).releaseCarrier e.carrier e.release).withImage
      { s.image with plan := pre ++ { e with progress := .left } :: post }) := by
  have hdue : releaseDue (s.indexAt r s.pos.count) (s.indexAt r p) (s.counted r a b p) e = true :=
    releaseDue_iff.2 ⟨hp, by rw [State.counted_carriers]; exact State.followed_isEngaged _ hs, h.moves, hi⟩
  have hcatch (d : Direction) (c0 c1 : Int) : catchDue d c0 c1 (s.counted r a b p) e = false :=
    catchDue_carrying (by simp [hp])
  have himage : ((s.counted r a b p).releaseCarrier e.carrier e.release).image = s.image := by simp
  rw [exec_count_entry (u := s.counted r a b p) h.knits h.direction h.counts h.heads h.plan h.quiet h.within
    (by rw [hdue, Bool.or_true]) (by rw [hcatch, Bool.and_false]; rfl)
    (catcherEvent_release h.headIs (hcatch _ _ _) hdue), himage]

theorem State.counted_railOf (k : Carrier) : (s.counted r a b p).railOf k = s.railOf k := by
  rw [State.railOf, State.counted_geo, State.railOf]

/-- The entry of the caught carrier, and every other (R106, R120). -/
theorem State.counted_caught (s : State) (r : StrokeRecord) (a b : Bool) (p : Nat) (e : PlanEntry) :
    ((s.counted r a b p).caught e.carrier (s.indexAt r p)).carriers[e.carrier] =
        ⟨.engaged (s.geo.record.clampPosition (s.indexAt r p)), s.carriers[e.carrier].rail⟩ ∧
      ∀ k : Carrier, k ≠ e.carrier →
        ((s.counted r a b p).caught e.carrier (s.indexAt r p)).carriers[k] = s.followed r.direction p k := by
  refine ⟨?_, fun k hk => ?_⟩
  · rw [State.caught_carriers, if_pos rfl, State.counted_carriers, State.followed_rail, State.counted_geo]
  · rw [State.caught_carriers, if_neg hk, State.counted_carriers]

/-- An ENGAGED carrier becomes HELD as it is, any other stays (R123). -/
theorem CarrierEntry.hold_eq (e : CarrierEntry) :
    e.hold = match e.status with | .engaged x => ⟨.held x, e.rail⟩ | _ => e := by
  unfold CarrierEntry.hold
  split <;> simp_all

/-- Every head's lines are at rest after a fault (R163). -/
theorem HeadSequencers.silence_lines (x : HeadSequencers) (hd : Head) : x.silence.lines[hd] = .miss := by
  have hrest : ∀ hd : Head, HeadSequencers.initial.lines[hd] = .miss := by decide
  exact hrest hd

theorem HeadSequencers.silence_pulses (x : HeadSequencers) (hd : Head) : x.silence.pulses[hd] = false := by
  have hrest : ∀ hd : Head, HeadSequencers.initial.pulses[hd] = false := by decide
  exact hrest hd

/-- The fault of a catch whose carrier's sensor already reports a break, block by block (R122, R163, R164). -/
theorem State.caught_fault (h : s.bringsEntry c r a b p pre e post) (hq : s.queue.courses = c :: cs) (n : Nat) :
    let w := ((s.counted r a b p).withFreeIndex n).caught e.carrier (s.indexAt r p)
    let t := w.strokeFault .yarnBreak (some e.carrier) none
    t.queue = { s.queue with courses := { c with state := .faulted, lastFault := some .yarnBreak } :: cs } ∧
    t.stops = { s.stops with
      latch := true, faultRecord := some ⟨c.tag, .yarnBreak, some e.carrier, none, p, r.next, true⟩ } ∧
    t.heads.stroke = some { r with furthest := r.reach p } ∧
    (∀ hd : Head, t.headLines hd = (false, false, false) ∧ t.heads.pulses[hd] = false) ∧
    (∀ k : Carrier, t.carriers[k] = ((s.counted r a b p).caught e.carrier (s.indexAt r p)).carriers[k].hold) ∧
    (∀ rail : Rail, t.catchers[rail] = if rail = s.railOf e.carrier then true else s.catchers[rail]) ∧
    t.sameBut (s.moved a b p) [.catchers, .heads, .carriers, .retained, .queue, .stops, .patternReasons, .driveReasons,
      .reasonCounts, .freeIndex] := by
  intro w t
  have hw : w.sameBut (s.counted r a b p) [.catchers, .carriers, .retained, .freeIndex] :=
    ((State.caught_sameBut _ _).mono (by simp)).trans fun y hy => by cases y <;> simp_all [Block.same]
  have hframe : w.sameBut (s.moved a b p) [.catchers, .heads, .carriers, .retained, .freeIndex] :=
    State.counted_frame w (hw.mono (by simp)) (by simp)
  have hqueue : w.queue = s.queue := hframe .queue (by decide)
  have hwheads : w.heads = { s.heads with stroke := some { r with furthest := r.reach p } } := hw .heads (by decide)
  obtain ⟨hheads, hcarriers, hfault, hstops, -⟩ := State.strokeFault_effect (s := w) (c := c) (cs := cs)
    (by rw [hqueue, hq]) h.knits.2.1 .yarnBreak (some e.carrier) none
  refine ⟨by rw [← hqueue]; exact hfault, ?_, ?_, fun hd => ⟨?_, ?_⟩, hcarriers, fun rail => ?_, ?_⟩
  · rw [hstops, hframe .stops (by decide), State.faultRecordNow, hwheads, hframe .pos (by decide)]
    rfl
  · rw [hheads, HeadSequencers.silence, hwheads]
  · rw [State.headLines, hheads, HeadSequencers.silence_lines]
    rfl
  · rw [hheads, HeadSequencers.silence_pulses]
  · have hcaught := State.caught_catchers (s := s.counted r a b p) e.carrier (s.indexAt r p) rail
    rw [State.counted_railOf, State.counted_catchers] at hcaught
    rw [State.strokeFault_catchers]
    exact hcaught
  · exact ((State.strokeFault_sameBut _ _ _).mono (by simp)).trans (hframe.mono (by simp))

/-- Settles O46: one event of an entry, then the count that brings one entry due, by catch, by catch with a broken yarn, and
by release. -/
theorem catchAndRelease : Obligations.CatchAndRelease := by
  refine ⟨fun s c cs d c0 c1 e h hk => ⟨fun hp hs hne heq => ?_, fun hp hs hne heq => ?_, catcherEvent_still⟩,
    fun s c cs r a b p e pre post hkn hq hd hc hheads hplan hquiet hwithin => ?_⟩
  · refine ⟨s.caught e.carrier c1, (catcherEvent_cases h hk).1 hp hs hne heq, s.caught_catchers _ _, fun k => ?_,
      s.caught_sameBut _ _⟩
    rw [State.caught_carriers, Geometry.clampPosition_eq]
  · exact ⟨_, (catcherEvent_cases h hk).2 hp hs hne heq, s.releaseCarrier_catchers _ _, s.releaseCarrier_carriers _ _,
      State.releaseCarrier_queue h _ _, s.releaseCarrier_sameBut _ _⟩
  · intro index there hmoves
    have h : s.bringsEntry c r a b p pre e post := ⟨hkn, hd, hc, hheads, hplan, hquiet, hwithin, hmoves⟩
    have hthere : s.geo.record.clampPosition (s.indexAt r p) = there := Geometry.clampPosition_eq _ _
    refine ⟨fun hp hs hi => ?_, fun hp hs hi => ?_⟩
    · obtain ⟨hcaught, hothers⟩ := s.counted_caught r a b p e
      rw [hthere] at hcaught
      cases hy : s.pins.yarn[e.carrier] with
      | false =>
        have hframe := State.caught_sameBut (s := s.counted r a b p) e.carrier (s.indexAt r p)
        have hheads' := hframe .heads (by decide)
        refine ⟨_, exec_count_catch h hp hs hi hy, fun rail => ?_, rfl, congrArg HeadSequencers.stroke hheads',
          fun _ => ⟨hheads', hcaught, hothers, ?_⟩, nofun⟩
        · rw [State.catchLine, State.withImage_catchers, State.caught_catchers, State.counted_railOf, State.counted_catchers]
          rfl
        · exact State.counted_frame _ (((State.withImage_sameBut _).mono (by simp)).trans (hframe.mono (by simp))) (by simp)
      | true =>
        obtain ⟨hqueue, hstops, hstroke, hlines, hcarriers, hcatchers, hframe⟩ :=
          State.caught_fault (a := a) (b := b) h hq (s.freeIndex + 1)
        refine ⟨_, exec_count_catch_broken h hp hs hi hy, fun rail => ?_, rfl, hstroke, nofun, fun _ =>
          ⟨hlines, ?_, fun k hk => ?_, hqueue, hstops, ?_⟩⟩
        · rw [State.catchLine, State.withImage_catchers, hcatchers]
          rfl
        · rw [State.withImage_carriers, hcarriers, hcaught]
          rfl
        · rw [State.withImage_carriers, hcarriers, hothers k hk, CarrierEntry.hold_eq, State.followed_rail] <;> rfl
        · exact ((State.withImage_sameBut _).mono (by simp)).trans (hframe.mono (by simp))
    · have hframe := State.releaseCarrier_sameBut (s := s.counted r a b p) e.carrier e.release
      refine ⟨_, exec_count_release h hp hs hi, fun rail => ?_, rfl, hframe .heads (by decide), ?_, fun k hk => ?_, ?_, ?_⟩
      · rw [State.catchLine, State.withImage_catchers, State.releaseCarrier_catchers, State.counted_railOf,
          State.counted_catchers]
        rfl
      · rw [State.withImage_carriers, State.releaseCarrier_carriers, if_pos rfl, State.counted_railOf]
      · rw [State.withImage_carriers, State.releaseCarrier_carriers, if_neg hk, State.counted_carriers]
      · have hqueue := State.releaseCarrier_queue (s := s.counted r a b p) (c := c) (cs := cs)
          (by rw [State.counted_queue, hq]) e.carrier e.release
        rw [State.counted_queue] at hqueue
        exact hqueue
      · exact State.counted_frame _ (((State.withImage_sameBut _).mono (by simp)).trans (hframe.mono (by simp))) (by simp)

end Sys2Proof.Machine
end

section
/-! O47. A count that completes the stroke (R72, R73, R155, R156). -/

namespace Sys2Proof.Machine

variable {s : State} {c : Course} {cs : List Course} {r : StrokeRecord} {a b : Bool} {p : Nat}

/-! ## The carriers still carried (R156) -/

/-- The release, in plan order, of the entries that are CARRYING. -/
def State.releaseEntries (s : State) (plan : List PlanEntry) : State :=
  plan.foldl (fun t e => if e.progress = .carrying then t.releaseCarrier e.carrier e.release else t) s

theorem State.releaseCarrying_eq : s.releaseCarrying = s.releaseEntries s.image.plan := rfl

/-- The state after the first entry. -/
theorem State.releaseEntries_cons (e : PlanEntry) (plan : List PlanEntry) : s.releaseEntries (e :: plan) =
    (if e.progress = .carrying then s.releaseCarrier e.carrier e.release else s).releaseEntries plan := rfl

theorem State.releaseCarrier_railOf (k : Carrier) (q : Int) (j : Carrier) :
    (s.releaseCarrier k q).railOf j = s.railOf j := by rw [State.railOf, State.releaseCarrier_geo, State.railOf]

/-- A carrier that no entry carries stays. -/
theorem State.releaseEntries_carriers {plan : List PlanEntry} {k : Carrier}
    (h : ∀ e ∈ plan, e.progress = .carrying → e.carrier ≠ k) : (s.releaseEntries plan).carriers[k] = s.carriers[k] := by
  induction plan generalizing s with
  | nil => rfl
  | cons e plan ih =>
    rw [State.releaseEntries_cons, ih fun f hf => h f (by simp [hf])]
    split
    · next hp => rw [State.releaseCarrier_carriers, if_neg fun hk => h e (by simp) hp hk.symm]
    · rfl

/-- A catcher stays on a rail on which no entry carries. -/
theorem State.releaseEntries_catchers {plan : List PlanEntry} {rail : Rail}
    (h : ∀ e ∈ plan, e.progress = .carrying → s.railOf e.carrier ≠ rail) :
    (s.releaseEntries plan).catchers[rail] = s.catchers[rail] := by
  induction plan generalizing s with
  | nil => rfl
  | cons e plan ih =>
    rw [State.releaseEntries_cons]
    split
    · next hp =>
      rw [ih fun f hf => by rw [State.releaseCarrier_railOf]; exact h f (by simp [hf]), State.releaseCarrier_catchers,
        if_neg fun hr => h e (by simp) hp hr.symm]
    · exact ih fun f hf => h f (by simp [hf])

/-- A carrying entry alone on its rail leaves its carrier PARKED at its release point and its catcher raised. -/
theorem State.releaseEntries_released {plan : List PlanEntry} {e : PlanEntry} {rail : Rail} (he : e ∈ plan)
    (hp : e.progress = .carrying) (hrail : s.railOf e.carrier = rail)
    (halone : ∀ f ∈ plan, f.progress = .carrying → s.railOf f.carrier = rail → f = e) :
    (s.releaseEntries plan).carriers[e.carrier] = ⟨.parked e.release, rail⟩ ∧
      (s.releaseEntries plan).catchers[rail] = false := by
  induction plan generalizing s with
  | nil => cases he
  | cons f plan ih =>
    rw [State.releaseEntries_cons]
    by_cases hin : e ∈ plan
    · have halone' := fun g hg => halone g (List.mem_cons_of_mem f hg)
      split
      · exact ih hin (by rw [State.releaseCarrier_railOf, hrail]) fun g hg => by
          simpa only [State.releaseCarrier_railOf] using halone' g hg
      · exact ih hin hrail halone'
    · obtain rfl : e = f := (List.mem_cons.1 he).resolve_right hin
      have hother (g : PlanEntry) (hg : g ∈ plan) (hgp : g.progress = .carrying) : s.railOf g.carrier ≠ rail :=
        fun hr => hin (halone g (by simp [hg]) hgp hr ▸ hg)
      rw [if_pos hp]
      refine ⟨?_, ?_⟩
      · rw [State.releaseEntries_carriers fun g hg hgp hk => hother g hg hgp (by rw [hk, hrail]),
          State.releaseCarrier_carriers, if_pos rfl, hrail]
      · rw [State.releaseEntries_catchers fun g hg hgp => by
          rw [State.releaseCarrier_railOf]; exact hother g hg hgp, State.releaseCarrier_catchers, if_pos hrail.symm]

/-! ## The count -/

/-- P is at or beyond the end point and not back beyond the backlash (R154, R155). -/
def StrokeRecord.ends (r : StrokeRecord) (backlash : Nat) (p : Nat) : Prop :=
  match r.direction with
  | .l2r => r.finish ≤ p ∧ r.furthest - backlash ≤ p
  | .r2l => (p : Int) ≤ r.finish ∧ (p : Int) ≤ r.furthest + backlash

theorem StrokeRecord.ends.due {backlash : Nat} (h : r.ends backlash p) :
    ({ r with furthest := r.reach p } : StrokeRecord).reversed backlash p = false ∧
      ({ r with furthest := r.reach p } : StrokeRecord).atEnd p = true := by
  unfold StrokeRecord.ends at h
  unfold StrokeRecord.reversed StrokeRecord.atEnd StrokeRecord.reach
  cases hd : r.direction <;> simp only [hd] at h ⊢ <;> simp only [decide_eq_false_iff_not, decide_eq_true_eq] <;> omega

/-- A count to the end point with nothing else due completes the stroke. -/
theorem exec_count_complete (hkn : s.knits c r) (hd : c.direction = r.direction) (hc : s.countsTo a b p)
    (hheads : ∀ h : Head, s.headQuiet r p h) (hquiet : ∀ e ∈ s.image.plan, s.entryQuiet r p e)
    (hends : r.ends s.geo.record.backlash p) :
    exec (.encoderTransition a b) s = .next (s.counted r a b p).completeStroke := by
  obtain ⟨hreversed, hend⟩ := hends.due
  have hnone : (s.image.plan.any fun e =>
      catchDue r.direction (s.indexAt r s.pos.count) (s.indexAt r p) (s.counted r a b p) e ||
        releaseDue (s.indexAt r s.pos.count) (s.indexAt r p) (s.counted r a b p) e) = false :=
    List.any_eq_false.2 fun e he => by simp [(hquiet e he).not_due (s.counted r a b p)]
  have hwork : (s.counted r a b p).dueWork { r with furthest := r.reach p } s.pos.count = [.complete] := by
    rw [State.counted_dueWork hheads, hreversed, hend, hnone]
    rfl
  have hhead : (s.counted r a b p).headIs .knitting = true := by
    rw [State.headIs_of_queue State.counted_queue]
    simp [State.headIs, hkn.1, hkn.2.1]
  rw [exec_count_single hkn hd hc hwork]
  simp [State.faulting, State.runWork, hhead]

/-- The completion of a stroke, block by block (R72, R156). -/
theorem State.completeStroke_effect (h : s.queue.courses = c :: cs) :
    s.completeStroke.queue = { s.queue with
      courses := cs
      completions := s.queue.completions ++
        [{ c with parked := c.parked ++ carriedPairs s.image.plan }.completion .done] } ∧
    s.completeStroke.mem = ⟨s.mem.cells, []⟩ ∧ s.completeStroke.tech = ⟨s.tech.tables, []⟩ ∧
    s.completeStroke.image = .cleared ∧ s.completeStroke.heads = { s.heads with stroke := none } ∧
    s.completeStroke.patternReasons = { s.patternReasons with completionWaiting := true } ∧
    s.completeStroke.driveReasons = { s.driveReasons with strokeDone := true } ∧
    s.completeStroke.reasonCounts = { s.reasonCounts with strokeDone := s.reasonCounts.strokeDone + 1 } ∧
    s.completeStroke.carriers = s.releaseCarrying.carriers ∧ s.completeStroke.catchers = s.releaseCarrying.catchers := by
  have hreleased := State.releaseCarrying_queue h
  obtain ⟨hqueue, hmem, htech, himage, hheads, hreasons⟩ := State.retire_effect (s := s.releaseCarrying)
    (by rw [hreleased]) .done
  simp [State.completeStroke, hqueue, hmem, htech, himage, hheads, hreasons, hreleased]

theorem State.completeStroke_sameBut : s.completeStroke.sameBut s [.queue, .mem, .tech, .image, .heads, .patternReasons,
    .driveReasons, .reasonCounts, .carriers, .catchers, .retained] := by
  intro y hy
  cases y <;> simp_all [Block.same]

/-- Settles O47, from the completion block by block and the release of each carrier still carried. -/
theorem strokeCompletes : Obligations.StrokeCompletes := by
  intro s c cs r g a b p hkn hq hd hg hc hheads hquiet hends
  have hcourses : (s.counted r a b p).queue.courses = c :: cs := by rw [State.counted_queue, hq]
  obtain ⟨hqueue, hmem, htech, himage, hstroke, hreasons, hdone, hcounts, hcarriers, hcatchers⟩ :=
    State.completeStroke_effect hcourses
  have hframe := State.counted_sameBut (s := s) (r := r) (a := a) (b := b) (p := p)
  rw [State.releaseCarrying_eq, State.counted_image] at hcarriers hcatchers
  refine ⟨_, exec_count_complete hkn hd hc hheads hquiet hends, ?_, ?_, ?_, himage, hstroke, ?_, ?_, ?_, fun k hk => ?_,
    fun e he hp halone => ?_, ?_⟩
  · rw [hqueue, State.counted_queue, State.counted_image]
    simp only [Course.completion, hg, carriedPairs]
  · rw [hmem, hframe .mem (by decide)]; rfl
  · rw [htech, hframe .tech (by decide)]; rfl
  · rw [hreasons, hframe .patternReasons (by decide)]; rfl
  · rw [hdone, hframe .driveReasons (by decide)]; rfl
  · rw [hcounts, hframe .reasonCounts (by decide)]; rfl
  · rw [hcarriers, State.releaseEntries_carriers hk, State.counted_carriers]
  · rw [hcarriers, hcatchers]
    exact State.releaseEntries_released he hp (State.counted_railOf _) fun f hf hfp hr =>
      halone f hf hfp (by rwa [State.counted_railOf] at hr)
  · exact State.counted_frame (r := r) _ State.completeStroke_sameBut (by simp)

end Sys2Proof.Machine
end

section
/-! SUPPORT. A stage of arming in its turn (R126). -/

namespace Sys2Proof.Machine

/-- In its turn a stage acts on the head course (R126). -/
theorem State.atStage_head {s : State} {c : Course} {cs : List Course} {stage : ArmingStage}
    (h : s.queue.courses = c :: cs) (hc : c.state = .arming) (hst : s.arm.stage = some stage) (act : Course → State) :
    s.atStage stage act = act c := by
  simp only [State.atStage, State.head?_cons h, hc, hst, and_self, if_true]

end Sys2Proof.Machine
end

section
/-! O34. Stage 3 of arming: the zone as taken, its bounds clamped, and the refusal of bounds that cross (R67, R89). -/

namespace Sys2Proof.Machine

variable {s : State} {c : Course} {left right : Int}

/-- A bound clamped to 0..N-1, in the words of the statement (R89). -/
theorem Geometry.clampNeedle_eq {g : Geometry} (hn : 1 ≤ g.bedNeedles) (x : Int) :
    (g.clampNeedle x : Int) = max 0 (min ((g.bedNeedles : Int) - 1) x) := by
  unfold Geometry.clampNeedle clamp
  split_ifs <;> omega

/-- The record's zone, or else the global zone as it stands (R89). -/
theorem State.zoneTaken_eq (h : c.zone = some (left, right) ∨
    (c.zone = none ∧ left = s.queue.zoneLeft ∧ right = s.queue.zoneRight)) : s.zoneTaken c = (left, right) := by
  rcases h with h | ⟨h, rfl, rfl⟩ <;> simp [State.zoneTaken, h]

theorem exec_zoneStage {cs : List Course} (h : s.queue.courses = c :: cs) (hc : c.state = .arming)
    (hst : s.arm.stage = some .zone) : exec .zoneStage s = .next (s.clampZone c) :=
  congrArg Host.Outcome.next (State.atStage_head h hc hst s.clampZone)

/-- Settles O34, from the zone as taken and each bound clamped. -/
theorem zoneStage : Obligations.ZoneStage := by
  intro s c cs left right zl zr h hc hst hrange htaken hzl hzr
  obtain ⟨⟨hneedles, -⟩, -⟩ := hrange
  have hclamped {x : Int} {z : Nat} (hz : (z : Int) = max 0 (min ((s.geo.record.bedNeedles : Int) - 1) x)) :
      s.geo.record.clampNeedle x = z :=
    Int.ofNat_inj.1 ((Geometry.clampNeedle_eq (by omega) x).trans hz.symm)
  rw [exec_zoneStage h hc hst]
  simp only [State.clampZone, State.zoneTaken_eq htaken, hclamped hzl, hclamped hzr]
  rfl

end Sys2Proof.Machine
end

section
/-! O37. Stage 5 of arming: the pairing of transfers, and the first entry unpaired (R97 to R99). -/

namespace Sys2Proof.Machine

variable {n : Nat} {racking : Int} {lists : Vector (Store Action) 6} {e : SystemEntry} {es : List SystemEntry}

/-! ## The first unpaired entry of a list -/

/-- An XFER that faces no RECV, or a RECV that faces no XFER (R98). -/
def Unpaired (a facing : Action) : Prop := (a = .xfer ∧ facing ≠ .recv) ∨ (a = .recv ∧ facing ≠ .xfer)

theorem isUnpaired_iff (a facing : Action) : isUnpaired a facing = true ↔ Unpaired a facing := by
  cases a <;> simp [isUnpaired, Action.partner, Unpaired]

/-- A needle of the bed reads its entry. -/
theorem listEntry_of_lt {i : Nat} (hi : i < n) (l : Store Action) : listEntry n l i = Store.read .miss l i := by
  rw [listEntry, if_pos (by omega), Int.toNat_natCast]

/-- No front entry of a system is unpaired (R98). -/
def FrontPaired (n : Nat) (racking : Int) (front back : Store Action) : Prop :=
  ∀ i < n, ¬ Unpaired (listEntry n front i) (listEntry n back ((i : Int) - racking))

/-- No back entry of a system is unpaired (R98). -/
def BackPaired (n : Nat) (racking : Int) (front back : Store Action) : Prop :=
  ∀ m < n, ¬ Unpaired (listEntry n back m) (listEntry n front ((m : Int) + racking))

/-- The search of one list finds nothing where every entry is paired with what it faces (R98). -/
theorem find?_isUnpaired_none {l : Store Action} {facing : Nat → Action}
    (h : ∀ i < n, ¬ Unpaired (listEntry n l i) (facing i)) :
    ((List.range n).find? fun i => isUnpaired (Store.read .miss l i) (facing i)) = none := by
  refine List.find?_eq_none.2 fun i hi hun => ?_
  have hi := List.mem_range.1 hi
  exact h i hi (by rwa [listEntry_of_lt hi, ← isUnpaired_iff])

/-- The search of one list finds the unpaired entry with no unpaired one before it (R99). -/
theorem find?_isUnpaired_some {l : Store Action} {facing : Nat → Action} {i : Nat} (hi : i < n)
    (hun : Unpaired (listEntry n l i) (facing i)) (hfirst : ∀ j < i, ¬ Unpaired (listEntry n l j) (facing j)) :
    ((List.range n).find? fun i => isUnpaired (Store.read .miss l i) (facing i)) = some i := by
  refine List.find?_range_eq_some.2 ⟨?_, List.mem_range.2 hi, fun j hj => ?_⟩
  · rwa [isUnpaired_iff, ← listEntry_of_lt hi]
  · rw [Bool.not_eq_true', ← Bool.not_eq_true, isUnpaired_iff, ← listEntry_of_lt (hj.trans hi)]
    exact hfirst j hj

theorem unpairedFront_none {front back : Store Action} (h : FrontPaired n racking front back) :
    unpairedFront n racking front back = none := find?_isUnpaired_none h

theorem unpairedBack_none {front back : Store Action} (h : BackPaired n racking front back) :
    unpairedBack n racking front back = none := find?_isUnpaired_none h

theorem unpairedFront_some {front back : Store Action} {i : Nat} (hi : i < n)
    (hun : Unpaired (listEntry n front i) (listEntry n back ((i : Int) - racking)))
    (hfirst : ∀ j < i, ¬ Unpaired (listEntry n front j) (listEntry n back ((j : Int) - racking))) :
    unpairedFront n racking front back = some i :=
  find?_isUnpaired_some (facing := fun i => listEntry n back ((i : Int) - racking)) hi hun hfirst

theorem unpairedBack_some {front back : Store Action} {m : Nat} (hm : m < n)
    (hun : Unpaired (listEntry n back m) (listEntry n front ((m : Int) + racking)))
    (hfirst : ∀ j < m, ¬ Unpaired (listEntry n back j) (listEntry n front ((j : Int) + racking))) :
    unpairedBack n racking front back = some m :=
  find?_isUnpaired_some (facing := fun m => listEntry n front ((m : Int) + racking)) hm hun hfirst

/-! ## The systems in order -/

/-- Both lists of an entry's system are paired. -/
def SystemEntry.Paired (e : SystemEntry) (n : Nat) (racking : Int) (lists : Vector (Store Action) 6) : Prop :=
  FrontPaired n racking lists[System.head e.system .front] lists[System.head e.system .back] ∧
    BackPaired n racking lists[System.head e.system .front] lists[System.head e.system .back]

/-- The check of one system and then of the ones after it (R99). -/
theorem pairingRefusal_cons : pairingRefusal n racking lists (e :: es) =
    match unpairedFront n racking lists[System.head e.system .front] lists[System.head e.system .back],
      unpairedBack n racking lists[System.head e.system .front] lists[System.head e.system .back] with
    | some i, _ => some (.transferPair e.system .front i)
    | none, some m => some (.transferPair e.system .back (m + racking))
    | none, none => pairingRefusal n racking lists es := by
  rw [pairingRefusal, List.findSome?_cons]
  dsimp only
  cases unpairedFront n racking lists[System.head e.system .front] lists[System.head e.system .back] with
  | some i => rfl
  | none => cases unpairedBack n racking lists[System.head e.system .front] lists[System.head e.system .back] <;> rfl

/-- Paired systems are passed over (R99). -/
theorem pairingRefusal_append {pre : List SystemEntry} (h : ∀ f ∈ pre, f.Paired n racking lists) :
    pairingRefusal n racking lists (pre ++ es) = pairingRefusal n racking lists es := by
  induction pre with
  | nil => rfl
  | cons f pre ih =>
    obtain ⟨hfront, hback⟩ := h f (by simp)
    rw [List.cons_append, pairingRefusal_cons, unpairedFront_none hfront, unpairedBack_none hback]
    exact ih fun g hg => h g (by simp [hg])

/-- Where every system is paired nothing is refused (R99). -/
theorem pairingRefusal_eq_none (h : ∀ f ∈ es, f.Paired n racking lists) : pairingRefusal n racking lists es = none := by
  rw [← List.append_nil es, pairingRefusal_append h]
  rfl

/-! ## The statement -/

theorem exec_transferPairing {s : State} {c : Course} {cs : List Course} (h : s.queue.courses = c :: cs)
    (hc : c.state = .arming) (hst : s.arm.stage = some .pairing) :
    exec .transferPairing s = .next (s.checkPairs c) :=
  congrArg Host.Outcome.next (State.atStage_head h hc hst s.checkPairs)

/-- Settles O37: paired systems are passed over, and the first system that is not gives its first unpaired entry. -/
theorem transferPairing : Obligations.TransferPairing := by
  intro s c cs h hc hst
  dsimp only
  rw [exec_transferPairing h hc hst, State.checkPairs]
  refine ⟨fun hpaired => ?_, fun pre e post hlisted hpre => ?_⟩
  · rw [pairingRefusal_eq_none fun f hf => ⟨fun i hi => (hpaired f hf i hi).1, fun i hi => (hpaired f hf i hi).2⟩]
    rfl
  · rw [hlisted, pairingRefusal_append fun f hf => ⟨fun i hi => (hpre f hf i hi).1, fun i hi => (hpre f hf i hi).2⟩,
      pairingRefusal_cons]
    refine ⟨fun i hi hun hfirst => ?_, fun m hm hfront hun hfirst => ?_⟩
    · rw [unpairedFront_some hi hun hfirst]
    · rw [unpairedFront_none hfront, unpairedBack_some hm hun hfirst]

end Sys2Proof.Machine
end

section
/-! O39. Stage 6 of arming: the listed systems planned in order (R101, R115, R116, R119). -/

namespace Sys2Proof.Machine

variable {s : State} {d : Direction}

/-! ## What is to be planned -/

/-- A carrier to be planned for a system, with the bounds of the system's extent. -/
abbrev PlanTask := System × Carrier × Nat × Nat

/-- The carrier an entry names and the extent of its system, where there are both (R115). -/
def State.engages (s : State) (e : SystemEntry) : Option (Carrier × Nat × Nat) :=
  match e.carrier, s.image.extents[e.system] with
  | some k, some (l, r) => some (k, l, r)
  | _, _ => none

/-- What the entries give to be planned, in order. -/
def State.planTasks (s : State) (es : List SystemEntry) : List PlanTask :=
  es.filterMap fun e => (s.engages e).map fun x => (e.system, x)

theorem State.planTasks_cons_none {e : SystemEntry} (h : s.engages e = none) (es : List SystemEntry) :
    s.planTasks (e :: es) = s.planTasks es := by
  rw [State.planTasks, List.filterMap_cons, h]
  rfl

theorem State.planTasks_cons_some {e : SystemEntry} {x : Carrier × Nat × Nat} (h : s.engages e = some x)
    (es : List SystemEntry) : s.planTasks (e :: es) = (e.system, x) :: s.planTasks es := by
  rw [State.planTasks, List.filterMap_cons, h]
  rfl

/-- An entry that names a carrier and whose extent is empty leaves it idle (R115). -/
def State.leavesIdle (s : State) (e : SystemEntry) : Bool := e.carrier.isSome && (s.image.extents[e.system]).isNone

/-- One carrier to be planned, checked against a plan. -/
def State.planTask (s : State) (d : Direction) (plan : List PlanEntry) (x : PlanTask) : ArmingRefusal ⊕ PlanEntry :=
  s.planCarrier d plan x.1 x.2.1 x.2.2.1 x.2.2.2

/-- The carriers to be planned, one after the other, each against the entries before it. -/
def State.runTasks (s : State) (d : Direction) : List PlanTask → List PlanEntry → ArmingRefusal ⊕ List PlanEntry
  | [], plan => .inr plan
  | x :: xs, plan =>
    match s.planTask d plan x with
    | .inl refusal => .inl refusal
    | .inr entry => s.runTasks d xs (plan ++ [entry])

/-- Stage 6's pass over the entries is the pass over what is to be planned, with the note of idle carriers (R115). -/
theorem State.planEntries_eq (es : List SystemEntry) (plan : List PlanEntry) (idle : Bool) :
    s.planEntries d es plan idle =
      (s.runTasks d (s.planTasks es) plan).map id fun plan => (plan, idle || es.any s.leavesIdle) := by
  induction es generalizing plan idle with
  | nil => simp [State.planEntries, State.planTasks, State.runTasks]
  | cons e es ih =>
    rw [State.planEntries, List.any_cons]
    cases hk : e.carrier with
    | none =>
      rw [State.planTasks_cons_none (by simp [State.engages, hk])]
      simp [ih, State.leavesIdle, hk]
    | some k =>
      cases hx : s.image.extents[e.system] with
      | none =>
        rw [State.planTasks_cons_none (by simp [State.engages, hk, hx])]
        simp [ih, State.leavesIdle, hk, hx]
      | some x =>
        rw [State.planTasks_cons_some (by rw [State.engages, hk, hx]), State.runTasks, State.planTask]
        dsimp only
        cases s.planCarrier d plan e.system k x.1 x.2 with
        | inl refusal => rfl
        | inr entry => simp [ih, State.leavesIdle, hx]

/-- Entries that each pass the checks against those before them are taken into the plan. -/
theorem State.runTasks_append {tasks : List PlanTask} {plan entries : List PlanEntry}
    (hlen : entries.length ≤ tasks.length)
    (h : ∀ (i : Nat) (x : PlanTask) (p : PlanEntry), tasks[i]? = some x → entries[i]? = some p →
      s.planTask d (plan ++ entries.take i) x = .inr p) :
    s.runTasks d tasks plan = s.runTasks d (tasks.drop entries.length) (plan ++ entries) := by
  induction entries generalizing tasks plan with
  | nil => simp
  | cons p entries ih =>
    cases tasks with
    | nil => simp at hlen
    | cons x tasks =>
      have hfirst : s.planTask d plan x = .inr p := by simpa using h 0 x p rfl rfl
      have hrest := ih (tasks := tasks) (plan := plan ++ [p]) (by simpa using hlen) fun i y q hy hq => by
        simpa using h (i + 1) y q hy hq
      simpa [State.runTasks, hfirst] using hrest

/-! ## The statement -/

theorem exec_carrierPlan {c : Course} {cs : List Course} (h : s.queue.courses = c :: cs) (hc : c.state = .arming)
    (hst : s.arm.stage = some .carrierPlan) : exec .carrierPlan s = .next (s.planCarriers c) :=
  congrArg Host.Outcome.next (State.atStage_head h hc hst s.planCarriers)

/-- Settles O39: the entries that pass are taken into the plan, up to the end or to the first refusal. -/
theorem carrierPlan : Obligations.CarrierPlan := by
  intro s c cs h hc hst
  rw [exec_carrierPlan h hc hst, State.planCarriers, State.planEntries_eq]
  refine ⟨fun plan hlen hpass => ?_, fun plan x reason hx hpass hrefused => ?_⟩
  · have hlen : plan.length = (s.planTasks c.listed).length := hlen
    rw [State.runTasks_append (plan := []) hlen.le hpass, hlen, List.drop_length, State.runTasks, List.nil_append]
    rfl
  · have hx : (s.planTasks c.listed)[plan.length]? = some x := hx
    obtain ⟨hlt, hget⟩ := List.getElem?_eq_some_iff.1 hx
    have hrefused : s.planTask c.direction plan x = .inl reason := hrefused
    rw [State.runTasks_append (plan := []) hlt.le hpass, List.drop_eq_getElem_cons hlt, hget, List.nil_append,
      State.runTasks, hrefused]
    rfl

end Sys2Proof.Machine
end

section
/-! O40. Stage 7 of arming: the course extent, the turning points and their clamping (R102, R130, R131). -/

namespace Sys2Proof.Machine

variable {s : State} {c : Course}

/-! ## The ends of a list -/

theorem maxOf_eq {l : List Int} {x : Int} (hx : x ∈ l) (h : ∀ y ∈ l, y ≤ x) : maxOf l = x := by
  cases l with
  | nil => cases hx
  | cons y l => exact Option.some_inj.1 (List.max?_cons'.symm.trans (List.max?_eq_some_iff.2 ⟨hx, h⟩))

theorem minOf_eq {l : List Int} {x : Int} (hx : x ∈ l) (h : ∀ y ∈ l, x ≤ y) : minOf l = x := by
  cases l with
  | nil => cases hx
  | cons y l => exact Option.some_inj.1 (List.min?_cons'.symm.trans (List.min?_eq_some_iff.2 ⟨hx, h⟩))

/-! ## The course extent (R102) -/

/-- The extent lies between the least and the greatest of its points (R102). -/
theorem StrokeImage.courseExtent_points {im : StrokeImage} {l r : Int} (hl : l ∈ im.points) (hr : r ∈ im.points)
    (h : ∀ x ∈ im.points, l ≤ x ∧ x ≤ r) : im.courseExtent = (l, r) := by
  unfold StrokeImage.courseExtent
  split
  · next hnil => rw [hnil] at hl; cases hl
  · rw [minOf_eq hl fun x hx => (h x hx).1, maxOf_eq hr fun x hx => (h x hx).2]

/-- Without a point the extent is the clamped zone (R102). -/
theorem StrokeImage.courseExtent_zone {im : StrokeImage} {zl zr : Nat} (h : im.points = [])
    (hz : im.zone = some (zl, zr)) : im.courseExtent = (↑zl, ↑zr) := by
  simp only [StrokeImage.courseExtent, h, hz]

/-! ## The clamping of a turning point (R131) -/

theorem clampLeft_eq {g : Geometry} {tl : Int} (h : (g.travelLo : Int) ≤ tl ∨ (g.travelLo : Int) - tl ≤ clampRoom g) :
    clampLeft g tl = some (max tl g.travelLo, decide (tl < g.travelLo)) := by
  unfold clampLeft
  split_ifs with hin hroom
  · simp [hin]
  · rw [max_eq_right (by omega), decide_eq_true (by omega)]
  · omega

theorem clampLeft_none {g : Geometry} {tl : Int} (h : tl < g.travelLo) (hroom : clampRoom g < (g.travelLo : Int) - tl) :
    clampLeft g tl = none := by
  rw [clampLeft, if_neg (by omega), if_neg (by omega)]

theorem clampRight_eq {g : Geometry} {tr : Int} (h : tr ≤ g.travelHi ∨ tr - g.travelHi ≤ clampRoom g) :
    clampRight g tr = some (min tr g.travelHi, decide ((g.travelHi : Int) < tr)) := by
  unfold clampRight
  split_ifs with hin hroom
  · simp [hin]
  · rw [min_eq_right (by omega), decide_eq_true (by omega)]
  · omega

theorem clampRight_none {g : Geometry} {tr : Int} (h : (g.travelHi : Int) < tr)
    (hroom : clampRoom g < tr - g.travelHi) : clampRight g tr = none := by
  rw [clampRight, if_neg (by omega), if_neg (by omega)]

/-! ## The statement -/

theorem Direction.sign_mul (d : Direction) (x : Nat) :
    d.sign * (x : Int) = match d with | .l2r => x | .r2l => -(x : Int) := by
  cases d <;> simp [Direction.sign]

theorem exec_extentAndTurningPoints {cs : List Course} (h : s.queue.courses = c :: cs) (hc : c.state = .arming)
    (hst : s.arm.stage = some .extent) : exec .extentAndTurningPoints s = .next (s.findTurningPoints c) :=
  congrArg Host.Outcome.next (State.atStage_head h hc hst s.findTurningPoints)

/-- Settles O40, from the extent, the offsets counted, and each turning point clamped or out of reach. -/
theorem extentAndTurningPoints : Obligations.ExtentAndTurningPoints := by
  intro s c cs l r dmax dmin h hc hst g points offsets lead tl tr room hextent hmax hmin hoffsets
  have hpoints : points = s.image.points := by
    refine congrArg (· ++ _) (congrArg (allSystems.flatMap ·) (funext fun sys => ?_))
    cases s.image.extents[sys] <;> rfl
  have hcounted : countedOffsets g c.listed s.image.plan = offsets := by
    simp only [countedOffsets, List.isEmpty_iff, offsets]
  have hcourse : s.image.courseExtent = (l, r) := by
    rcases hextent with ⟨-, hl, hr, hends⟩ | ⟨hnil, zl, zr, hz, rfl, rfl⟩
    · rw [hpoints] at hl hr hends
      exact StrokeImage.courseExtent_points hl hr hends
    · exact StrokeImage.courseExtent_zone (hpoints.symm.trans hnil) hz
  have hlead : c.direction.sign * (g.lead : Int) = lead := Direction.sign_mul c.direction g.lead
  have hleft : turningLeft g c.direction l dmax = tl := by rw [turningLeft, hlead]
  have hright : turningRight g c.direction r dmin = tr := by rw [turningRight, hlead]
  rw [exec_extentAndTurningPoints h hc hst, State.findTurningPoints, hcounted, hcourse,
    maxOf_eq hmax fun x hx => (hoffsets x hx).2, minOf_eq hmin fun x hx => (hoffsets x hx).1, hleft, hright]
  refine ⟨fun ⟨hout, hfar⟩ => ?_, fun hin hout hfar => ?_, fun hinLeft hinRight => ?_⟩
  · rw [clampLeft_none hout hfar]
  · rw [clampLeft_eq hin, clampRight_none hout hfar]
  · rw [clampLeft_eq hinLeft, clampRight_eq hinRight]
    rfl

end Sys2Proof.Machine
end

section
/-! O44. A count that brings one head to its next window makes one selection event (R103, R150 to R152). -/

namespace Sys2Proof.Machine

variable {s : State} {c : Course} {r : StrokeRecord} {a b : Bool} {p : Nat} {h : Head}

/-! ## One selection -/

/-- Head `h`'s next window moves on by one in the direction of travel (R150). -/
def StrokeRecord.advanceHead (r : StrokeRecord) (h : Head) : StrokeRecord :=
  { r with next := r.next.set h.val (r.next[h] + r.direction.sign) }

theorem StrokeRecord.advanceHead_next (r : StrokeRecord) (h h' : Head) :
    (r.advanceHead h).next[h'] = if h' = h then r.next[h] + r.direction.sign else r.next[h'] := by
  simp [StrokeRecord.advanceHead, Vector.getElem_set, Fin.ext_iff, eq_comm]

/-- The heads after head `h` has issued `x`: a MISS issues nothing, any other action stands on the head's lines and its
pulse runs (R152). -/
def HeadSequencers.issue (hs : HeadSequencers) (r : StrokeRecord) (h : Head) (x : Action) : HeadSequencers where
  stroke := some (r.advanceHead h)
  pulses := if x = .miss then hs.pulses else hs.pulses.set h.val true
  lines := if x = .miss then hs.lines else hs.lines.set h.val x

theorem HeadSequencers.issue_pulses (hs : HeadSequencers) (x : Action) (h' : Head) :
    (hs.issue r h x).pulses[h'] = if h' = h ∧ x ≠ .miss then true else hs.pulses[h'] := by
  by_cases hx : x = .miss <;> simp [HeadSequencers.issue, hx, Vector.getElem_set, Fin.ext_iff, eq_comm]

theorem HeadSequencers.issue_lines (hs : HeadSequencers) (x : Action) (h' : Head) :
    (hs.issue r h x).lines[h'] = if h' = h ∧ x ≠ .miss then x else hs.lines[h'] := by
  by_cases hx : x = .miss <;> simp [HeadSequencers.issue, hx, Vector.getElem_set, Fin.ext_iff, eq_comm]

/-- A selection that is no OVERSPEED issues the action at the head's next window (R150, R152, R153). -/
theorem State.select_issues (hr : s.heads.stroke = some r)
    (hfree : s.actionAt h r.next[h] = .miss ∨ s.heads.pulses[h] = false) :
    s.select h = s.withHeads (s.heads.issue r h (s.actionAt h r.next[h])) := by
  simp only [State.select, hr]
  split
  · next hmiss => simp only [HeadSequencers.issue, hmiss, if_true]; rfl
  · next hact =>
    rw [if_neg (by rw [hfree.resolve_left hact]; exact Bool.false_ne_true)]
    simp only [HeadSequencers.issue, hact, if_false]
    rfl

/-- The lines of a head carry the bits of its action's code (R181). -/
theorem State.headLines_eq (s : State) (h : Head) : s.headLines h = s.heads.lines[h].pins := by
  unfold State.headLines
  cases s.heads.lines[h] <;> rfl

/-- The action at a window, in the words of the statement (R103, R151). -/
theorem State.actionAt_eq (s : State) (h : Head) (v : Int) : s.actionAt h v =
    listEntry s.geo.record.bedNeedles s.image.lists[h] (if h.val % 2 = 0 then v else v - s.pos.racking) := by
  unfold State.actionAt Head.bed
  split_ifs <;> rfl

/-! ## The count -/

theorem allHeads_filterMap_select (h : Head) :
    (allHeads.filterMap fun h' => if h' = h then some (CountWork.select h') else none) = [.select h] := by
  revert h
  decide

theorem State.knits.counted_headIs (hkn : s.knits c r) : (s.counted r a b p).headIs .knitting = true := by
  rw [State.headIs_of_queue State.counted_queue]
  simp [State.headIs, hkn.1, hkn.2.1]

/-- The selection of one head is all that is due (R150). -/
theorem State.counted_dueWork_select (hmoves : headIndex s.geo.record h r.direction s.pos.count ≠ r.next[h])
    (hthere : headIndex s.geo.record h r.direction p = r.next[h]) (hheads : ∀ h' : Head, h' ≠ h → s.headQuiet r p h')
    (hquiet : ∀ e ∈ s.image.plan, s.entryQuiet r p e) (hwithin : r.within s.geo.record.backlash p) :
    (s.counted r a b p).dueWork { r with furthest := r.reach p } s.pos.count = [.select h] := by
  obtain ⟨hreversed, hend⟩ := hwithin.not_due
  have hentries : (s.image.plan.any fun e =>
      catchDue r.direction (s.indexAt r s.pos.count) (s.indexAt r p) (s.counted r a b p) e ||
        releaseDue (s.indexAt r s.pos.count) (s.indexAt r p) (s.counted r a b p) e) = false :=
    List.any_eq_false.2 fun e he => by simp [(hquiet e he).not_due (s.counted r a b p)]
  have hdue (h' : Head) : (headIndex s.geo.record h' r.direction s.pos.count ≠ headIndex s.geo.record h' r.direction p ∧
      headIndex s.geo.record h' r.direction p = r.next[h']) ↔ h' = h := by
    refine ⟨fun ⟨hne, heq⟩ => ?_, ?_⟩
    · by_contra hother
      exact (hheads h' hother).elim hne fun hnot => hnot heq
    · rintro rfl
      exact ⟨hthere ▸ hmoves, hthere⟩
  simp only [State.dueWork, State.counted_geo, State.counted_pos, State.counted_image, hdue, allHeads_filterMap_select,
    hentries, hreversed, hend]
  rfl

/-- Settles O44: the one work due is the selection, and it issues the action of the head's next window. -/
theorem selectionEvent : Obligations.SelectionEvent := by
  intro s c r a b p h hkn hd hc hmoves hthere hheads hquiet hwithin i action hfree
  have haction : (s.counted r a b p).actionAt h r.next[h] = action := by
    rw [State.actionAt_eq, State.counted_geo, State.counted_image, State.counted_pos]
    rfl
  have hfault : (s.counted r a b p).faulting { r with furthest := r.reach p } s.pos.count (.select h) = false := by
    rw [State.faulting, haction]
    rcases hfree with hfree | hfree
    · simp [hfree]
    · simp [State.counted, hfree]
  have hselect := State.select_issues (s := s.counted r a b p) (h := h) (r := { r with furthest := r.reach p }) rfl
    (by rw [haction]; exact hfree)
  rw [haction] at hselect
  refine ⟨(s.counted r a b p).select h, ({ r with furthest := r.reach p } : StrokeRecord).advanceHead h, ?_, ?_, rfl,
    rfl, rfl, fun h' => ?_, fun h' => ?_, fun h' => ?_, fun h' => ?_, fun k => ?_, ?_⟩
  · rw [exec_count_single hkn hd hc (State.counted_dueWork_select hmoves hthere hheads hquiet hwithin), hfault]
    simp [State.runWork, hkn.counted_headIs]
  · rw [hselect]; rfl
  · exact StrokeRecord.advanceHead_next _ _ _
  · rw [hselect]; exact HeadSequencers.issue_lines _ _ _
  · rw [State.headLines_eq, State.headLines_eq, ← apply_ite, hselect]
    exact congrArg Action.pins (HeadSequencers.issue_lines _ _ _)
  · rw [hselect]; exact HeadSequencers.issue_pulses _ _ _
  · rw [hselect, State.withHeads_carriers, State.counted_carriers]
  · rw [hselect]
    refine State.counted_frame (r := r) _ (l := [.heads, .carriers, .retained]) (fun y hy => ?_) (by simp)
    cases y <;> simp_all [Block.same]

end Sys2Proof.Machine
end

section
/-! SUPPORT. What O57 and O58 speak of, as a view of the state: the stop latch, the head lines, the head course with its
plan, the carrier table and the catchers, and the changes waiting for retained memory (R105, R107, R119, R123, R152, R159). -/

namespace Sys2Proof.Machine

/-! ## The view -/

/-- The yarn side of the part: for each course its state and the carriers it names; what the outputs follow; the carrier
table with rails, catchers and plan; retained memory's table and the changes still to be written to it. -/
structure Yarns where
  phase : Phase
  stopIn : Bool
  latch : Bool
  courses : List (CourseState × List Carrier)
  pulses : Head → Bool
  lines : Head → Action
  rails : Carrier → Rail
  /-- the number of carriers in use -/
  used : Nat
  table : Carrier → CarrierEntry
  catchers : Rail → Bool
  plan : List PlanEntry
  extents : System → Option (Nat × Nat)
  stored : Carrier → CarrierEntry
  writes : List RetainedChange

/-- A course as the view sees it. -/
def Course.yarns (c : Course) : CourseState × List Carrier := (c.state, c.carriers)

/-- The view of a state. -/
def State.yarns (s : State) : Yarns where
  phase := s.phase
  stopIn := s.pins.stopIn
  latch := s.stops.latch
  courses := s.queue.courses.map Course.yarns
  pulses h := s.heads.pulses[h]
  lines h := s.heads.lines[h]
  rails := s.railOf
  used := s.geo.record.carriers
  table k := s.carriers[k]
  catchers r := s.catchers[r]
  plan := s.image.plan
  extents sys := s.image.extents[sys]
  stored k := s.retained.carriers[k]
  writes := s.retained.writes

/-- The carrier table of retained memory after one change has been written. -/
def RetainedChange.into (table : Carrier → CarrierEntry) : RetainedChange → Carrier → CarrierEntry
  | .carrier k e => Function.update table k e
  | .resume _ => table
  | .clearResume => table
  | .recovered cs _ => fun k => cs[k]

theorem RetainedMemory.apply_carriers (m : RetainedMemory) (c : RetainedChange) (j : Carrier) :
    (m.apply c).carriers[j] = c.into (fun k => m.carriers[k]) j := by
  cases c with
  | carrier k e =>
    simp only [RetainedMemory.apply, RetainedChange.into, Fin.getElem_fin, Vector.getElem_set, Function.update_apply,
      Fin.ext_iff, eq_comm (a := j.val)]
  | resume r => rfl
  | clearResume => rfl
  | recovered cs r => rfl

theorem RetainedMemory.foldl_apply_carriers (l : List RetainedChange) (m : RetainedMemory) (j : Carrier) :
    (l.foldl RetainedMemory.apply m).carriers[j] = l.foldl RetainedChange.into (fun k => m.carriers[k]) j := by
  induction l generalizing m with
  | nil => rfl
  | cons c l ih =>
    rw [List.foldl_cons, List.foldl_cons, ih]
    exact congrArg (fun table => l.foldl RetainedChange.into table j) (funext fun k => RetainedMemory.apply_carriers m c k)

/-- `entriesApart` of the entries of a table. -/
def tableApart (table : Carrier → CarrierEntry) : Prop :=
  ∀ (j k : Carrier) (x : Int), j ≠ k → (table j).rail = (table k).rail → (table j).status = .parked x →
    (table k).status ≠ .parked x

theorem entriesApart_iff {v : Vector CarrierEntry 16} {table : Carrier → CarrierEntry} (h : ∀ k : Carrier, v[k] = table k) :
    entriesApart v ↔ tableApart table := by
  unfold entriesApart tableApart
  simp only [h]

namespace Yarns
variable (y : Yarns)

/-- Whether the part takes frames and counts (R180). -/
def live : Bool := decide (y.phase = .startUp) || decide (y.phase = .running)

/-- The state of the head course, if there is one. -/
def head : Option CourseState := y.courses.head?.map Prod.fst

/-- The carriers the head course names. -/
def named : List Carrier := (y.courses.head?.map Prod.snd).getD []

/-- Whether a carrier is attached to its rail's catcher. -/
def attached (k : Carrier) : Bool := (y.table k).isEngaged || (y.table k).isHeld

/-! ## The invariants of the view -/

/-- `State.latchOk` of the view. -/
def latchOk : Prop :=
  (y.live = false → y.courses = []) ∧ (y.phase = .running → y.stopIn = true → y.latch = true) ∧
  (y.phase = .held → y.latch = y.stopIn)

/-- `State.linesOk` of the view. -/
def linesOk : Prop := ∀ h : Head, y.pulses h = decide (y.lines h ≠ .miss)

/-- `State.retainedOk` of the view. -/
def retainedOk : Prop := y.writes.foldl RetainedChange.into y.stored = y.table

/-- What `State.carriersOk` says of the carrier table and the catchers while the part works. -/
structure Placed : Prop where
  unused : ∀ k : Carrier, y.used ≤ k.val → (y.table k).status = .unknown
  engaged : ∀ k : Carrier, (y.table k).isEngaged = true → y.head = some .knitting
  held : ∀ k : Carrier, (y.table k).isHeld = true → y.head = some .faulted
  carried : ∀ k : Carrier, y.attached k = true ↔ ∃ e ∈ y.plan, e.carrier = k ∧ e.progress = .carrying
  oneEach : (y.plan.map fun e => y.rails e.carrier).Nodup
  locked : ∀ e ∈ y.plan, e.carrier ∈ y.named
  lowered : ∀ r : Rail, y.catchers r = true ↔ ∃ k : Carrier, y.attached k = true ∧ y.rails k = r

/-- What `State.parkedOk` says of the PARKED carriers while the part works. -/
structure Spaced : Prop where
  apart : ∀ (j k : Carrier) (x : Int), j ≠ k → y.rails j = y.rails k → (y.table j).status = .parked x →
    (y.table k).status ≠ .parked x
  recorded : ∀ (k : Carrier) (x : Int), (y.table k).status = .parked x → (y.table k).rail = y.rails k
  ordered : ∀ (sys : System) (l r : Nat), y.extents sys = some (l, r) → l ≤ r
  free : ∀ e ∈ y.plan, e.progress ≠ .left → ∀ j : Carrier, j ≠ e.carrier → y.rails j = y.rails e.carrier →
    (y.table j).status ≠ .parked e.release

/-- The carrier table that retained memory holds once `n` of the waiting changes have been written. -/
def contents (n : Nat) : Carrier → CarrierEntry := (y.writes.take n).foldl RetainedChange.into y.stored

/-- Every content that retained memory passes through holds its PARKED carriers apart. -/
def storedApart : Prop := ∀ n : Nat, tableApart (y.contents n)

/-- `State.parkedOk` of the view, but for the conditions of the stroke and the locks. -/
structure ParkedOk : Prop where
  placed : y.live = true → y.Placed
  retained : y.retainedOk
  stored : y.storedApart
  spaced : y.live = true → y.Spaced

end Yarns

variable {s t u : State}

theorem State.yarns_head : s.yarns.head = s.head?.map Course.state := by
  simp [Yarns.head, State.yarns, State.head?, Course.yarns, Function.comp_def]

theorem State.headIs_yarns {st : CourseState} : s.headIs st = true ↔ s.yarns.head = some st := by
  simp [State.headIs, State.yarns_head]

theorem State.yarns_live : s.yarns.live = s.live := rfl

theorem State.mem_named {k : Carrier} : k ∈ s.yarns.named ↔ ∃ c, s.head? = some c ∧ k ∈ c.carriers := by
  rcases h : s.queue.courses with _ | ⟨c, cs⟩ <;> simp [Yarns.named, State.yarns, State.head?, h, Course.yarns]

theorem State.inUse_eq_false_iff {k : Carrier} : s.inUse k = false ↔ s.yarns.used ≤ k.val := by
  simp only [State.inUse, decide_eq_false_iff_not, not_lt]
  rfl

theorem State.table_eq (k : Carrier) : s.carriers[k] = s.yarns.table k := rfl

theorem State.latchOk_iff : s.latchOk ↔ s.yarns.latchOk := by
  simp [State.latchOk, State.emptyUnlessLive, Yarns.latchOk, State.yarns_live]
  simp [State.yarns]

theorem State.linesOk_iff : s.linesOk ↔ s.yarns.linesOk := Iff.rfl

theorem State.retainedOk_iff : s.retainedOk ↔ s.yarns.retainedOk := by
  have hflush (k : Carrier) : s.retained.flush.carriers[k] =
      s.retained.writes.foldl RetainedChange.into (fun k => s.retained.carriers[k]) k :=
    RetainedMemory.foldl_apply_carriers _ _ k
  constructor
  · intro h
    exact funext fun k => by rw [← State.table_eq, ← h]; exact (hflush k).symm
  · intro h
    exact Vector.ext fun i hi => (hflush ⟨i, hi⟩).trans (congrFun h ⟨i, hi⟩)

theorem State.storedApart_iff :
    (∀ n : Nat, entriesApart ((s.retained.writes.take n).foldl RetainedMemory.apply s.retained).carriers) ↔
      s.yarns.storedApart :=
  forall_congr' fun _ => entriesApart_iff (RetainedMemory.foldl_apply_carriers _ _)

theorem State.carriersOk_iff : s.carriersOk ↔ s.strokeOk ∧ s.locksOk ∧ (s.yarns.live = true → s.yarns.Placed) := by
  unfold State.carriersOk
  refine and_congr_right fun _ => and_congr_right fun _ => imp_congr_right fun _ => ?_
  constructor
  · rintro ⟨hun, heng, hheld, hatt, hone, hnamed, hlow⟩
    exact ⟨fun k hk => hun k (State.inUse_eq_false_iff.2 hk), fun k hk => State.headIs_yarns.1 (heng k hk),
      fun k hk => State.headIs_yarns.1 (hheld k hk), hatt, hone, fun e he => State.mem_named.2 (hnamed e he), hlow⟩
  · rintro ⟨hun, heng, hheld, hatt, hone, hnamed, hlow⟩
    exact ⟨fun k hk => hun k (State.inUse_eq_false_iff.1 hk), fun k hk => State.headIs_yarns.2 (heng k hk),
      fun k hk => State.headIs_yarns.2 (hheld k hk), hatt, hone, fun e he => State.mem_named.1 (hnamed e he), hlow⟩

theorem State.parkedOk_iff : s.parkedOk ↔ s.strokeOk ∧ s.locksOk ∧ s.yarns.ParkedOk := by
  unfold State.parkedOk
  simp only [State.carriersOk_iff, State.retainedOk_iff, State.storedApart_iff]
  constructor
  · rintro ⟨⟨hs, hl, hp⟩, hr, ha, hsp⟩
    refine ⟨hs, hl, hp, hr, ha, fun hlive => ?_⟩
    obtain ⟨h1, h2, h3, h4⟩ := hsp hlive
    exact ⟨h1, h2, h3, h4⟩
  · rintro ⟨hs, hl, hp, hr, ha, hsp⟩
    exact ⟨⟨hs, hl, hp⟩, hr, ha, fun hlive => ⟨(hsp hlive).apart, (hsp hlive).recorded, (hsp hlive).ordered,
      (hsp hlive).free⟩⟩

/-! ## The relation -/

namespace Yarns
variable {y z w : Yarns}

/-- The three invariants of O58 carried from one view to another. -/
structure OutputsKept (y z : Yarns) : Prop where
  latch : y.latchOk → z.latchOk
  lines : y.linesOk → z.linesOk
  retained : y.retainedOk → z.retainedOk

/-- The invariants of O57 carried from one view to another. -/
structure CarriersKept (y z : Yarns) : Prop where
  placed : (y.live = true → y.Placed) → z.live = true → z.Placed
  parked : y.ParkedOk → z.ParkedOk

/-- All of them. -/
structure Kept (y z : Yarns) : Prop where
  outputs : y.OutputsKept z
  carriers : y.CarriersKept z

theorem OutputsKept.trans (h : y.OutputsKept z) (h' : z.OutputsKept w) : y.OutputsKept w :=
  ⟨h'.latch ∘ h.latch, h'.lines ∘ h.lines, h'.retained ∘ h.retained⟩

theorem CarriersKept.trans (h : y.CarriersKept z) (h' : z.CarriersKept w) : y.CarriersKept w :=
  ⟨h'.placed ∘ h.placed, h'.parked ∘ h.parked⟩

theorem Kept.refl (y : Yarns) : y.Kept y := ⟨⟨id, id, id⟩, ⟨id, id⟩⟩

theorem Kept.trans (h : y.Kept z) (h' : z.Kept w) : y.Kept w :=
  ⟨h.outputs.trans h'.outputs, h.carriers.trans h'.carriers⟩

end Yarns

end Sys2Proof.Machine
end

section
/-! SUPPORT. The moves of the view, and which of them keep its invariants: a change of the carrier table with its waiting
writes (R107), the head course in another state (R70), and what becomes of carriers, catchers and plan (R119 to R123). -/

namespace Sys2Proof.Machine

/-! ## A change of the carrier table (R107) -/

/-- Every entry of a table is the old or the new one. -/
def mixes (table old new : Carrier → CarrierEntry) : Prop := ∀ k : Carrier, table k = old k ∨ table k = new k

theorem foldl_into_mixes {old new : Carrier → CarrierEntry} {l : List RetainedChange}
    (hl : ∀ c ∈ l, ∃ k : Carrier, c = .carrier k (new k)) {table : Carrier → CarrierEntry} (ht : mixes table old new) :
    mixes (l.foldl RetainedChange.into table) old new := by
  induction l generalizing table with
  | nil => exact ht
  | cons c l ih =>
    obtain ⟨k, rfl⟩ := hl c (by simp)
    refine ih (fun d hd => hl d (by simp [hd])) fun j => ?_
    simp only [RetainedChange.into, Function.update_apply]
    split
    · next h => exact .inr (by rw [h])
    · exact ht j

/-- The changes to be written where a table becomes another (R107; log 14, log 26). -/
def tableChanges (old new : Carrier → CarrierEntry) (ks : List Carrier) : List RetainedChange :=
  ks.filterMap fun k => if new k = old k then none else some (.carrier k (new k))

theorem foldl_into_tableChanges (old new : Carrier → CarrierEntry) (ks : List Carrier) (table : Carrier → CarrierEntry)
    (j : Carrier) : (tableChanges old new ks).foldl RetainedChange.into table j =
      if j ∈ ks ∧ new j ≠ old j then new j else table j := by
  induction ks generalizing table with
  | nil => simp [tableChanges]
  | cons k ks ih =>
    by_cases hk : new k = old k
    · have hskip : tableChanges old new (k :: ks) = tableChanges old new ks := by simp [tableChanges, hk]
      rw [hskip, ih]
      by_cases hj : j = k <;> simp [hj, hk]
    · have htake : tableChanges old new (k :: ks) = .carrier k (new k) :: tableChanges old new ks := by
        simp [tableChanges, hk]
      rw [htake, List.foldl_cons, ih]
      by_cases hj : j = k <;> simp [hj, hk, RetainedChange.into]

namespace Yarns
variable {y z w : Yarns}

/-- The table changed, with the changes queued for retained memory. -/
def change (y : Yarns) (f : Carrier → CarrierEntry → CarrierEntry) : Yarns :=
  { y with
    table := fun k => f k (y.table k)
    writes := y.writes ++ tableChanges y.table (fun k => f k (y.table k)) allCarriers }

/-- Once every change is written, retained memory holds the table again. -/
theorem retainedOk_change (h : y.retainedOk) (f : Carrier → CarrierEntry → CarrierEntry) : (y.change f).retainedOk := by
  rw [retainedOk, change, List.foldl_append, h]
  refine funext fun k => ?_
  rw [foldl_into_tableChanges]
  split
  · rfl
  · next hne => simpa [mem_allCarriers, eq_comm] using hne

/-- The contents passed through are tables in which some carriers have changed already. -/
theorem storedApart_change {f : Carrier → CarrierEntry → CarrierEntry} (hr : y.retainedOk) (ha : y.storedApart)
    (hm : ∀ table, mixes table y.table (y.change f).table → tableApart table) : (y.change f).storedApart := by
  intro n
  rw [contents, change, List.take_append, List.foldl_append]
  rcases Nat.lt_or_ge n y.writes.length with hn | hn
  · rw [show n - y.writes.length = 0 by omega]
    exact ha n
  · rw [List.take_of_length_le hn, hr]
    refine hm _ (foldl_into_mixes (fun c hc => ?_) fun k => .inl rfl)
    obtain ⟨k, -, hk⟩ := List.mem_filterMap.1 (List.mem_of_mem_take hc)
    split at hk
    · cases hk
    · exact ⟨k, (Option.some.inj hk).symm⟩

/-- The table itself is the last of the contents. -/
theorem tableApart_table (hr : y.retainedOk) (ha : y.storedApart) : tableApart y.table := by
  have h := ha y.writes.length
  rwa [contents, List.take_length, hr] at h

/-- No carrier is PARKED but as it was. -/
def parksNone (y z : Yarns) : Prop := ∀ (k : Carrier) (x : Int), (z.table k).status = .parked x → z.table k = y.table k

theorem parksNone.refl (y : Yarns) : y.parksNone y := fun _ _ _ => rfl

theorem storedApart_change_of_parksNone {f : Carrier → CarrierEntry → CarrierEntry} (hr : y.retainedOk)
    (ha : y.storedApart) (hf : y.parksNone (y.change f)) : (y.change f).storedApart := by
  refine storedApart_change hr ha fun table ht j k x hne hrail hj hk => ?_
  have hold {i : Carrier} (hi : (table i).status = .parked x) : table i = y.table i := by
    rcases ht i with h | h
    · exact h
    · rw [h]; exact hf i x (by rw [← h, hi])
  rw [hold hj, hold hk] at hrail
  exact tableApart_table hr ha j k x hne hrail (hold hj ▸ hj) (hold hk ▸ hk)

/-! ## The head course -/

/-- The head course in another state. -/
def headTo (y : Yarns) (st : CourseState) : Yarns :=
  { y with courses := match y.courses with | [] => [] | x :: rest => (st, x.2) :: rest }

/-- The plan replaced. -/
def withPlan (y : Yarns) (plan : List PlanEntry) : Yarns := { y with plan := plan }

/-- No image: no plan and no extents (R87). -/
def imageless (y : Yarns) : Yarns := { y with plan := [], extents := fun sys => StrokeImage.cleared.extents[sys] }

theorem headTo_courses {st : CourseState} : (y.headTo st).courses = [] ↔ y.courses = [] := by
  unfold headTo
  rcases h : y.courses with _ | ⟨x, rest⟩ <;> simp

theorem headTo_named (st : CourseState) : (y.headTo st).named = y.named := by
  unfold headTo named
  rcases h : y.courses with _ | ⟨x, rest⟩ <;> simp

theorem headTo_head {st st' : CourseState} (h : y.head = some st) : (y.headTo st').head = some st' := by
  unfold head headTo at *
  rcases hc : y.courses with _ | ⟨x, rest⟩ <;> simp_all

theorem courses_ne_nil {st : CourseState} (h : y.head = some st) : y.courses ≠ [] := by
  rintro hc
  simp [head, hc] at h

/-- A part with a course is live (R84, R180). -/
theorem latchOk.live (h : y.latchOk) {st : CourseState} (hst : y.head = some st) : y.live = true := by
  by_contra hl
  exact courses_ne_nil hst (h.1 (by simpa using hl))

theorem not_held_of_live (h : y.live = true) : y.phase ≠ .held := by
  intro hp
  simp [Yarns.live, hp] at h

/-! ## Carriers and catchers -/

/-- No carrier is attached to a catcher. -/
def detached (y : Yarns) : Prop := ∀ k : Carrier, y.attached k = false

/-- While the head course is neither KNITTING nor FAULTED no carrier is attached (R123). -/
theorem Placed.detached (h : y.Placed) (hk : y.head ≠ some .knitting) (hf : y.head ≠ some .faulted) : y.detached := by
  intro k
  refine Bool.eq_false_iff.2 fun hatt => ?_
  rcases Bool.or_eq_true_iff.1 hatt with he | he
  · exact hk (h.engaged k he)
  · exact hf (h.held k he)

theorem detached.not_engaged (h : y.detached) (k : Carrier) : (y.table k).isEngaged = false :=
  (Bool.or_eq_false_iff.1 (h k)).1

theorem detached.not_held (h : y.detached) (k : Carrier) : (y.table k).isHeld = false :=
  (Bool.or_eq_false_iff.1 (h k)).2

/-- With no carrier attached every catcher is raised (R119). -/
theorem Placed.raised (h : y.Placed) (hd : y.detached) (r : Rail) : y.catchers r = false :=
  Bool.eq_false_iff.2 fun hr => by
    obtain ⟨k, hk, -⟩ := (h.lowered r).1 hr
    simp [hd k] at hk

/-- No plan, no carrier attached, every catcher raised. -/
theorem Placed.atRest (hun : ∀ k : Carrier, y.used ≤ k.val → (y.table k).status = .unknown) (hd : y.detached)
    (hplan : y.plan = []) (hc : ∀ r : Rail, y.catchers r = false) : y.Placed where
  unused := hun
  engaged k hk := by simp [hd.not_engaged k] at hk
  held k hk := by simp [hd.not_held k] at hk
  carried k := by simp [hd k, hplan]
  oneEach := by simp [hplan]
  locked := by simp [hplan]
  lowered r := by simp [hc r, hd _]

/-- Attached carriers stay attached, UNKNOWN ones UNKNOWN, and plan, rails and catchers as they are. -/
theorem Placed.of_attached (h : y.Placed) (hused : z.used = y.used) (hrails : z.rails = y.rails) (hplan : z.plan = y.plan)
    (hcatchers : z.catchers = y.catchers) (hnamed : z.named = y.named)
    (hun : ∀ k : Carrier, (y.table k).status = .unknown → (z.table k).status = .unknown)
    (hatt : ∀ k : Carrier, z.attached k = y.attached k)
    (heng : ∀ k : Carrier, (z.table k).isEngaged = true → z.head = some .knitting)
    (hheld : ∀ k : Carrier, (z.table k).isHeld = true → z.head = some .faulted) : z.Placed where
  unused k hk := hun k (h.unused k (by rwa [← hused]))
  engaged := heng
  held := hheld
  carried k := by rw [hatt, hplan]; exact h.carried k
  oneEach := by rw [hplan, hrails]; exact h.oneEach
  locked := by rw [hplan, hnamed]; exact h.locked
  lowered r := by simp only [hcatchers, hatt, hrails]; exact h.lowered r

/-- Every release point that a plan still owes is one that another plan still owes. -/
def owes (plan plan' : List PlanEntry) : Prop :=
  ∀ e ∈ plan', e.progress ≠ .left → ∃ f ∈ plan, f.progress ≠ .left ∧ f.carrier = e.carrier ∧ f.release = e.release

theorem owes.refl (plan : List PlanEntry) : owes plan plan := fun e he hl => ⟨e, he, hl, rfl, rfl⟩

theorem owes.nil (plan : List PlanEntry) : owes plan [] := nofun

/-- Where no carrier is PARKED but as it was, the PARKED ones stay apart, and clear of the release points still owed. -/
theorem Spaced.of_parksNone (h : y.Spaced) (hp : y.parksNone z) (hrails : z.rails = y.rails)
    (hextents : ∀ (sys : System) (l r : Nat), z.extents sys = some (l, r) → l ≤ r) (hplan : owes y.plan z.plan) :
    z.Spaced where
  apart j k x hne hrail hj hk := by
    rw [hrails] at hrail
    exact h.apart j k x hne hrail (hp j x hj ▸ hj) (hp k x hk ▸ hk)
  recorded k x hk := by rw [hrails, hp k x hk]; exact h.recorded k x (hp k x hk ▸ hk)
  ordered := hextents
  free e he hleft j hne hrail hj := by
    obtain ⟨f, hf, hfleft, hcarrier, hrelease⟩ := hplan e he hleft
    rw [hrails, ← hcarrier] at hrail
    rw [← hcarrier] at hne
    rw [← hrelease] at hj
    exact h.free f hf hfleft j hne hrail (hp j _ hj ▸ hj)

theorem cleared_ordered (sys : System) (l r : Nat) (h : StrokeImage.cleared.extents[sys] = some (l, r)) : l ≤ r := by
  have hnone : ∀ sys : System, StrokeImage.cleared.extents[sys] = none := by decide
  rw [hnone sys] at h
  cases h

/-! ## What a move has to show -/

/-- A move between views of the same phase and inputs: the latch may be set in a live part. -/
theorem OutputsKept.of_same (hphase : z.phase = y.phase) (hstop : z.stopIn = y.stopIn)
    (hcourses : y.courses = [] → z.courses = []) (hlatch : z.latch = y.latch ∨ z.latch = true ∧ (y.latchOk → y.phase ≠ .held))
    (hlines : y.linesOk → z.linesOk) (hretained : y.retainedOk → z.retainedOk) : y.OutputsKept z where
  latch h := by
    have hlive : z.live = y.live := by rw [Yarns.live, hphase, Yarns.live]
    obtain ⟨hidle, hrun, hheld⟩ := h
    refine ⟨fun hl => hcourses (hidle (hlive ▸ hl)), fun hp hs => ?_, fun hp => ?_⟩
    · rcases hlatch with he | ⟨he, -⟩
      · rw [he]; exact hrun (hphase ▸ hp) (hstop ▸ hs)
      · exact he
    · rcases hlatch with he | ⟨-, hnot⟩
      · rw [he, hstop]; exact hheld (hphase ▸ hp)
      · exact absurd (hphase ▸ hp) (hnot ⟨hidle, hrun, hheld⟩)
  lines := hlines
  retained := hretained

/-- A move that leaves retained memory and its changes, and parks no carrier. -/
theorem CarriersKept.of_parksNone (hlive : z.live = true → y.live = true) (hplaced : y.Placed → z.Placed)
    (hretained : y.retainedOk → z.retainedOk) (hstored : y.retainedOk → y.storedApart → z.storedApart)
    (hp : y.parksNone z) (hrails : z.rails = y.rails)
    (hextents : (∀ (sys : System) (l r : Nat), y.extents sys = some (l, r) → l ≤ r) →
      ∀ (sys : System) (l r : Nat), z.extents sys = some (l, r) → l ≤ r)
    (hplan : owes y.plan z.plan) : y.CarriersKept z where
  placed h hl := hplaced (h (hlive hl))
  parked h := ⟨fun hl => hplaced (h.placed (hlive hl)), hretained h.retained, hstored h.retained h.stored,
    fun hl => (h.spaced (hlive hl)).of_parksNone hp hrails (hextents (h.spaced (hlive hl)).ordered) hplan⟩

end Yarns
end Sys2Proof.Machine
end

section
/-! SUPPORT. The moves of the view one by one: stroke fault, resumption, carriers that follow, return to QUEUED, retirement,
catch and release (R71, R72, R106, R120 to R123, R163, R167, R168). -/

namespace Sys2Proof.Machine

/-! ## What the changes of one entry do to its status (R105, R123) -/

namespace CarrierEntry
variable (e : CarrierEntry) (p : Int)

/-- Whether the entry's carrier is attached to a catcher. -/
def attached : Bool := e.isEngaged || e.isHeld

theorem hold_attached : e.hold.attached = e.attached := by
  rcases e with ⟨_ | _ | _ | _, rail⟩ <;> rfl
theorem hold_isEngaged : e.hold.isEngaged = false := by
  rcases e with ⟨_ | _ | _ | _, rail⟩ <;> rfl
theorem hold_unknown (h : e.status = .unknown) : e.hold.status = .unknown := by simp [hold, h]
theorem hold_parked {x : Int} (h : e.hold.status = .parked x) : e.hold = e := by
  rcases e with ⟨_ | _ | _ | _, rail⟩ <;> simp [hold] at h ⊢

theorem engageHeld_attached : (e.engageHeld p).attached = e.attached := by
  rcases e with ⟨_ | _ | _ | _, rail⟩ <;> rfl
theorem engageHeld_isHeld : (e.engageHeld p).isHeld = false := by
  rcases e with ⟨_ | _ | _ | _, rail⟩ <;> rfl
theorem engageHeld_unknown (h : e.status = .unknown) : (e.engageHeld p).status = .unknown := by simp [engageHeld, h]
theorem engageHeld_parked {x : Int} (h : (e.engageHeld p).status = .parked x) : e.engageHeld p = e := by
  rcases e with ⟨_ | _ | _ | _, rail⟩ <;> simp [engageHeld] at h ⊢

theorem follow_isEngaged : (e.follow p).isEngaged = e.isEngaged := by
  rcases e with ⟨_ | _ | _ | _, rail⟩ <;> rfl
theorem follow_isHeld : (e.follow p).isHeld = e.isHeld := by
  rcases e with ⟨_ | _ | _ | _, rail⟩ <;> rfl
theorem follow_unknown (h : e.status = .unknown) : (e.follow p).status = .unknown := by simp [follow, h]
theorem follow_parked {x : Int} (h : (e.follow p).status = .parked x) : e.follow p = e := by
  rcases e with ⟨_ | _ | _ | _, rail⟩ <;> simp [follow] at h ⊢

theorem dropHeld_isEngaged : e.dropHeld.isEngaged = e.isEngaged := by
  rcases e with ⟨_ | _ | _ | _, rail⟩ <;> rfl
theorem dropHeld_isHeld : e.dropHeld.isHeld = false := by
  rcases e with ⟨_ | _ | _ | _, rail⟩ <;> rfl
theorem dropHeld_unknown (h : e.status = .unknown) : e.dropHeld.status = .unknown := by simp [dropHeld, h]
theorem dropHeld_parked {x : Int} (h : e.dropHeld.status = .parked x) : e.dropHeld = e := by
  rcases e with ⟨_ | _ | _ | _, rail⟩ <;> simp [dropHeld, lost] at h ⊢

theorem not_attached_of_parked {x : Int} (h : e.status = .parked x) : e.attached = false := by
  simp [attached, isEngaged, isHeld, h]
theorem not_attached_of_unknown (h : e.status = .unknown) : e.attached = false := by
  simp [attached, isEngaged, isHeld, h]

end CarrierEntry

namespace Yarns
variable {y z w : Yarns}

theorem attached_eq (k : Carrier) : y.attached k = (y.table k).attached := rfl

/-! ## Faults, resumption and carriers that follow -/

/-- The view after a stroke fault (R163). -/
def faulted (y : Yarns) : Yarns :=
  { (y.change fun _ e => e.hold).headTo .faulted with
    latch := true
    pulses := fun h => HeadSequencers.initial.pulses[h]
    lines := fun h => HeadSequencers.initial.lines[h] }

theorem initial_linesOk (h : Head) :
    HeadSequencers.initial.pulses[h] = decide (HeadSequencers.initial.lines[h] ≠ .miss) := by
  revert h; decide

theorem Kept.faulted (h : y.head = some .knitting) : y.Kept y.faulted := by
  have hhead : y.faulted.head = some .faulted := headTo_head (y := y.change fun _ e => e.hold) h
  refine ⟨.of_same rfl rfl headTo_courses.2 (.inr ⟨rfl, fun hl => not_held_of_live (hl.live h)⟩)
      (fun _ => initial_linesOk) (fun hr => retainedOk_change hr _),
    .of_parksNone id (fun hp => hp.of_attached rfl rfl rfl rfl (headTo_named _) (fun k => (y.table k).hold_unknown)
      (fun k => (y.table k).hold_attached) (fun k hk => ?_) (fun _ _ => hhead)) (fun hr => retainedOk_change hr _)
      (fun hr ha => storedApart_change_of_parksNone hr ha fun k _ => (y.table k).hold_parked)
      (fun k _ => (y.table k).hold_parked) rfl id (.refl _)⟩
  exact absurd hk (by rw [Bool.not_eq_true]; exact (y.table k).hold_isEngaged)

/-- The view after an accepted resumption (R167). -/
def resumed (y : Yarns) (x : Int) : Yarns := (y.change fun _ e => e.engageHeld x).headTo .knitting

theorem Kept.resumed (h : y.head = some .faulted) (x : Int) : y.Kept (y.resumed x) := by
  have hhead : (y.resumed x).head = some .knitting := headTo_head (y := y.change fun _ e => e.engageHeld x) h
  refine ⟨.of_same rfl rfl headTo_courses.2 (.inl rfl) id (fun hr => retainedOk_change hr _),
    .of_parksNone id (fun hp => hp.of_attached rfl rfl rfl rfl (headTo_named _)
      (fun k => (y.table k).engageHeld_unknown x) (fun k => (y.table k).engageHeld_attached x) (fun _ _ => hhead)
      (fun k hk => ?_)) (fun hr => retainedOk_change hr _)
      (fun hr ha => storedApart_change_of_parksNone hr ha fun k _ => (y.table k).engageHeld_parked x)
      (fun k _ => (y.table k).engageHeld_parked x) rfl id (.refl _)⟩
  exact absurd hk (by rw [Bool.not_eq_true]; exact (y.table k).engageHeld_isHeld x)

/-- A change of every entry that engages, holds and parks no carrier, and finds none that is UNKNOWN. -/
theorem Kept.adjusted {f : CarrierEntry → CarrierEntry} (heng : ∀ e, (f e).isEngaged = e.isEngaged)
    (hheld : ∀ e, (f e).isHeld = e.isHeld) (hun : ∀ e, e.status = .unknown → (f e).status = .unknown)
    (hpark : ∀ e x, (f e).status = .parked x → f e = e) : y.Kept (y.change fun _ => f) := by
  refine ⟨.of_same rfl rfl id (.inl rfl) id (fun hr => retainedOk_change hr _),
    .of_parksNone id (fun hp => hp.of_attached rfl rfl rfl rfl rfl (fun k => hun (y.table k)) (fun k => ?_)
      (fun k hk => hp.engaged k ?_) (fun k hk => hp.held k ?_)) (fun hr => retainedOk_change hr _)
      (fun hr ha => storedApart_change_of_parksNone hr ha fun k => hpark (y.table k)) (fun k => hpark (y.table k)) rfl id
      (.refl _)⟩
  · exact congrArg₂ or (heng (y.table k)) (hheld (y.table k))
  · rwa [← heng (y.table k)]
  · rwa [← hheld (y.table k)]

/-- Attached carriers follow the catchers (R106). -/
theorem Kept.followed (y : Yarns) (x : Int) : y.Kept (y.change fun _ e => e.follow x) :=
  .adjusted (fun e => e.follow_isEngaged x) (fun e => e.follow_isHeld x) (fun e => e.follow_unknown x)
    fun e _ => e.follow_parked x

/-! ## The head course enters and leaves the states in which no carrier is attached -/

theorem Kept.headTo (hk : y.head ≠ some .knitting) (hf : y.head ≠ some .faulted) (st : CourseState) :
    y.Kept (y.headTo st) := by
  refine ⟨.of_same rfl rfl headTo_courses.2 (.inl rfl) id id,
    .of_parksNone id (fun hp => ?_) id (fun _ ha => ha) (.refl _) rfl id (.refl _)⟩
  have hd := hp.detached hk hf
  exact hp.of_attached rfl rfl rfl rfl (headTo_named _) (fun _ => id) (fun _ => rfl)
    (fun k hk => absurd hk (Bool.eq_false_iff.1 (hd.not_engaged k)))
    (fun k hk => absurd hk (Bool.eq_false_iff.1 (hd.not_held k)))

/-- A head course with no carrier attached loses its image, with whatever becomes of the courses (R87). -/
theorem Kept.imageless (hd : y.Placed → y.detached) {courses : List (CourseState × List Carrier)}
    (hc : y.courses = [] → courses = []) : y.Kept { y.imageless with courses := courses } := by
  refine ⟨.of_same rfl rfl hc (.inl rfl) id id,
    .of_parksNone id (fun hp => ?_) id (fun _ ha => ha) (.refl _) rfl (fun _ => cleared_ordered) (.nil _)⟩
  exact .atRest hp.unused (hd hp) rfl (hp.raised (hd hp))

/-- The view after the return to QUEUED (R71). -/
def requeued (y : Yarns) : Yarns := (y.headTo .queued).imageless

theorem Kept.requeued (h : y.head = some .arming ∨ y.head = some .armed) : y.Kept y.requeued :=
  .imageless (fun hp => hp.detached (by rintro hk; simp [hk] at h) (by rintro hf; simp [hf] at h)) headTo_courses.2

/-- The view after the head course has left the queue (R72). -/
def retired (y : Yarns) : Yarns := { y.imageless with courses := y.courses.tail }

/-- With every entry released the head course may leave (R156). -/
theorem Kept.retired (h : ∀ e ∈ y.plan, e.progress ≠ .carrying) : y.Kept y.retired := by
  refine .imageless (fun hp k => Bool.eq_false_iff.2 fun hk => ?_) (fun hc => by rw [hc]; rfl)
  obtain ⟨e, he, -, hcarrying⟩ := (hp.carried k).1 hk
  exact h e he hcarrying

/-- The view after the head course is discarded: HELD carriers are UNKNOWN, their catchers raised (R168). -/
def discarded (y : Yarns) : Yarns :=
  { (y.change fun _ e => e.dropHeld).retired with
    catchers := fun r => y.catchers r && !(allCarriers.any fun k => (y.table k).isHeld && decide (y.rails k = r)) }

theorem Kept.discarded (h : y.head = some .faulted) : y.Kept y.discarded := by
  refine ⟨.of_same rfl rfl (fun hc => by rw [Yarns.discarded, Yarns.retired, change, hc]; rfl) (.inl rfl) id
      (fun hr => retainedOk_change hr _),
    .of_parksNone id (fun hp => ?_) (fun hr => retainedOk_change hr _)
      (fun hr ha => storedApart_change_of_parksNone hr ha fun k _ => (y.table k).dropHeld_parked)
      (fun k _ => (y.table k).dropHeld_parked) rfl (fun _ => cleared_ordered) (.nil _)⟩
  have hne (k : Carrier) : (y.table k).isEngaged = false := Bool.eq_false_iff.2 fun hk => by
    have := hp.engaged k hk
    simp [h] at this
  refine .atRest (fun k hk => (y.table k).dropHeld_unknown (hp.unused k hk)) (fun k => ?_) rfl fun r => ?_
  · exact Bool.or_eq_false_iff.2 ⟨(y.table k).dropHeld_isEngaged.trans (hne k), (y.table k).dropHeld_isHeld⟩
  · rw [Bool.eq_false_iff]
    intro hr
    obtain ⟨hlow, hno⟩ := Bool.and_eq_true_iff.1 hr
    obtain ⟨k, hk, hrail⟩ := (hp.lowered r).1 hlow
    rw [attached, hne k, Bool.false_or] at hk
    simp only [Bool.not_eq_true', List.any_eq_false, Bool.and_eq_true, decide_eq_true_eq] at hno
    exact hno k (mem_allCarriers k) ⟨hk, hrail⟩

/-! ## Catch and release -/

/-- Which carriers a plan carries, with one entry singled out. -/
theorem carries_iff {pre post : List PlanEntry} {e : PlanEntry} {k : Carrier} :
    (∃ f ∈ pre ++ e :: post, f.carrier = k ∧ f.progress = .carrying) ↔
      (e.carrier = k ∧ e.progress = .carrying) ∨ ∃ f ∈ pre ++ post, f.carrier = k ∧ f.progress = .carrying := by
  simp only [List.mem_append, List.mem_cons]
  constructor
  · rintro ⟨f, hf | rfl | hf, h⟩
    · exact .inr ⟨f, .inl hf, h⟩
    · exact .inl h
    · exact .inr ⟨f, .inr hf, h⟩
  · rintro (h | ⟨f, hf | hf, h⟩)
    · exact ⟨e, .inr (.inl rfl), h⟩
    · exact ⟨f, .inl hf, h⟩
    · exact ⟨f, .inr (.inr hf), h⟩

/-- The release points a plan owes, after one of its entries has gone on. -/
theorem owes.progress {pre post : List PlanEntry} {e : PlanEntry} (hp : e.progress ≠ .left) (p : Progress) :
    owes (pre ++ e :: post) (pre ++ { e with progress := p } :: post) := by
  intro f hf hleft
  simp only [List.mem_append, List.mem_cons] at hf
  rcases hf with hf | rfl | hf
  · exact ⟨f, by simp [hf], hleft, rfl, rfl⟩
  · exact ⟨e, by simp, hp, rfl, rfl⟩
  · exact ⟨f, by simp [hf], hleft, rfl, rfl⟩

/-- The view after a catch, but for the plan (R120). -/
def caught (y : Yarns) (k : Carrier) (x : Int) : Yarns :=
  { y.change fun j e => if j = k then { e with status := .engaged x } else e with
    catchers := Function.update y.catchers (y.rails k) true }

theorem caught_table (k j : Carrier) (x : Int) :
    (y.caught k x).table j = if j = k then ⟨.engaged x, (y.table j).rail⟩ else y.table j := rfl

theorem caught_parksNone (k : Carrier) (x : Int) : y.parksNone (y.caught k x) := by
  intro j p hj
  rw [caught_table] at hj ⊢
  split at hj
  · cases hj
  · next hne => rw [if_neg hne]

theorem caught_attached (k j : Carrier) (x : Int) :
    (y.caught k x).attached j = true ↔ j = k ∨ y.attached j = true := by
  rw [attached_eq, caught_table, attached_eq]
  split
  · next h => simp [h, CarrierEntry.attached, CarrierEntry.isEngaged]
  · next h => simp [h]

section Entry
variable {pre post : List PlanEntry} {e : PlanEntry}

theorem Placed.caught (h : (y.withPlan (pre ++ e :: post)).Placed) (hk : y.head = some .knitting)
    (hp : e.progress = .awaitingCatch) {p : Int} (ht : (y.table e.carrier).status = .parked p) (x : Int) :
    ((y.caught e.carrier x).withPlan (pre ++ { e with progress := .carrying } :: post)).Placed where
  unused k hk := by
    have hun := h.unused k hk
    change ((y.caught e.carrier x).table k).status = _
    rw [caught_table]
    split
    · next he =>
      subst he
      rw [show (y.table e.carrier).status = .unknown from hun] at ht
      cases ht
    · exact hun
  engaged _ _ := hk
  held k hheld := by
    change ((y.caught e.carrier x).table k).isHeld = true at hheld
    rw [caught_table] at hheld
    split at hheld
    · cases hheld
    · exact h.held k hheld
  carried k := by
    refine (caught_attached e.carrier k x).trans ?_
    rw [show y.attached k = (y.withPlan (pre ++ e :: post)).attached k from rfl, h.carried k]
    simp only [withPlan, carries_iff, hp]
    simp [eq_comm]
  oneEach := by
    have hone := h.oneEach
    simp only [withPlan, List.map_append, List.map_cons] at hone ⊢
    exact hone
  locked f hf := by
    simp only [withPlan, List.mem_append, List.mem_cons] at hf
    rcases hf with hf | rfl | hf
    · exact h.locked f (by simp [withPlan, hf])
    · exact h.locked e (by simp [withPlan])
    · exact h.locked f (by simp [withPlan, hf])
  lowered r := by
    have hlow := h.lowered r
    change Function.update y.catchers (y.rails e.carrier) true r = true ↔
      ∃ k, (y.caught e.carrier x).attached k = true ∧ y.rails k = r
    simp only [caught_attached, Function.update_apply]
    split
    · next hr => exact ⟨fun _ => ⟨e.carrier, .inl rfl, hr.symm⟩, fun _ => rfl⟩
    · next hr =>
      refine hlow.trans ⟨fun ⟨k, hk, hrail⟩ => ⟨k, .inr hk, hrail⟩, ?_⟩
      rintro ⟨k, rfl | hk, hrail⟩
      · exact absurd hrail.symm hr
      · exact ⟨k, hk, hrail⟩

theorem Kept.caught (hk : y.head = some .knitting) (hp : e.progress = .awaitingCatch) {p : Int}
    (ht : (y.table e.carrier).status = .parked p) (x : Int) : (y.withPlan (pre ++ e :: post)).Kept
      ((y.caught e.carrier x).withPlan (pre ++ { e with progress := .carrying } :: post)) :=
  ⟨.of_same rfl rfl id (.inl rfl) id (fun hr => retainedOk_change (y := y) hr _),
    .of_parksNone id (fun h => h.caught hk hp ht x) (fun hr => retainedOk_change (y := y) hr _)
      (fun hr ha => storedApart_change_of_parksNone (y := y) hr ha (caught_parksNone e.carrier x))
      (caught_parksNone e.carrier x) rfl id (.progress (by simp [hp]) _)⟩

/-- Carriers that each stand on their recorded rail and are apart on it are apart by their recorded rails. -/
theorem Spaced.tableApart (h : y.Spaced) : tableApart y.table := by
  intro j k x hne hrail hj hk
  rw [h.recorded j x hj, h.recorded k x hk] at hrail
  exact h.apart j k x hne hrail hj hk

/-- A change of one entry passes through no content but the old and the new table. -/
theorem storedApart_change_one {f : Carrier → CarrierEntry → CarrierEntry} {k : Carrier} (hr : y.retainedOk)
    (ha : y.storedApart) (hf : ∀ j, j ≠ k → f j (y.table j) = y.table j) (hz : Machine.tableApart (y.change f).table) :
    (y.change f).storedApart := by
  refine storedApart_change hr ha fun table ht => ?_
  have hsame (j : Carrier) (hj : j ≠ k) : table j = y.table j ∧ table j = (y.change f).table j := by
    have hfj : (y.change f).table j = y.table j := hf j hj
    rcases ht j with h | h
    · exact ⟨h, h.trans hfj.symm⟩
    · exact ⟨h.trans hfj, h⟩
  rcases ht k with h | h
  · rw [show table = y.table from funext fun j => if hj : j = k then hj ▸ h else (hsame j hj).1]
    exact tableApart_table hr ha
  · rw [show table = (y.change f).table from funext fun j => if hj : j = k then hj ▸ h else (hsame j hj).2]
    exact hz

/-- The table with one carrier PARKED at `q` on its rail, and the change queued (R111, R121). -/
def parkedAt (y : Yarns) (k : Carrier) (q : Int) : Yarns :=
  y.change fun j e => if j = k then ⟨.parked q, y.rails k⟩ else e

theorem parkedAt_table (k j : Carrier) (q : Int) :
    (y.parkedAt k q).table j = if j = k then ⟨.parked q, y.rails k⟩ else y.table j := rfl

theorem parkedAt_attached (k j : Carrier) (q : Int) :
    (y.parkedAt k q).attached j = true ↔ j ≠ k ∧ y.attached j = true := by
  rw [attached_eq, parkedAt_table, attached_eq]
  split
  · next h => simp [h, CarrierEntry.attached, CarrierEntry.isEngaged, CarrierEntry.isHeld]
  · next h => simp [h]

theorem Spaced.of_same (h : y.Spaced) (htable : z.table = y.table) (hrails : z.rails = y.rails)
    (hextents : z.extents = y.extents) (hplan : z.plan = y.plan) : z.Spaced :=
  ⟨by rw [htable, hrails]; exact h.apart, by rw [htable, hrails]; exact h.recorded, by rw [hextents]; exact h.ordered,
    by rw [htable, hrails, hplan]; exact h.free⟩

/-- A carrier PARKED at a position that no other on its rail has leaves the PARKED ones apart, if no plan entry owes a
release on that rail. -/
theorem Spaced.parkedAt (h : y.Spaced) {k : Carrier} {q : Int}
    (hfree : ∀ j, j ≠ k → y.rails j = y.rails k → (y.table j).status ≠ .parked q) {plan : List PlanEntry}
    (hplan : owes y.plan plan) (hrail : ∀ e ∈ plan, e.progress ≠ .left → e.carrier ≠ k → y.rails k ≠ y.rails e.carrier) :
    ((y.parkedAt k q).withPlan plan).Spaced where
  apart i j x hne hrails hi hj := by
    change ((y.parkedAt k q).table i).status = _ at hi
    change ((y.parkedAt k q).table j).status = _ at hj
    rw [parkedAt_table] at hi hj
    change y.rails i = y.rails j at hrails
    split at hi <;> split at hj
    · next hik hjk => exact hne (hik.trans hjk.symm)
    · next hik hjk => subst hik; cases hi; exact hfree j hjk hrails.symm hj
    · next hik hjk => subst hjk; cases hj; exact hfree i hik hrails hi
    · exact h.apart i j x hne hrails hi hj
  recorded j x hj := by
    change ((y.parkedAt k q).table j).status = _ at hj
    change ((y.parkedAt k q).table j).rail = y.rails j
    rw [parkedAt_table] at hj ⊢
    split at hj
    · next hjk => rw [if_pos hjk, hjk]
    · next hjk => rw [if_neg hjk]; exact h.recorded j x hj
  ordered := h.ordered
  free e he hleft j hne hrails hj := by
    change ((y.parkedAt k q).table j).status = _ at hj
    change y.rails j = y.rails e.carrier at hrails
    rw [parkedAt_table] at hj
    split at hj
    · next hjk => subst hjk; exact hrail e he hleft (Ne.symm hne) hrails
    · obtain ⟨f, hf, hfleft, hcarrier, hrelease⟩ := hplan e he hleft
      rw [← hcarrier] at hne hrails
      rw [← hrelease] at hj
      exact h.free f hf hfleft j hne hrails hj

/-- The view after a release, but for the plan (R121). -/
def released (y : Yarns) (k : Carrier) (q : Int) : Yarns :=
  { y.parkedAt k q with catchers := Function.update y.catchers (y.rails k) false }

/-- On the rail of a plan entry there is no other entry of the plan (R116). -/
theorem Placed.rails_ne (h : (y.withPlan (pre ++ e :: post)).Placed) {f : PlanEntry} (hf : f ∈ pre ++ post) :
    y.rails e.carrier ≠ y.rails f.carrier := by
  have hone := h.oneEach
  rw [withPlan, List.map_append, List.map_cons, List.nodup_middle, List.nodup_cons, ← List.map_append] at hone
  intro heq
  exact hone.1 (List.mem_map.2 ⟨f, hf, heq.symm⟩)

theorem Placed.released (h : (y.withPlan (pre ++ e :: post)).Placed) (hp : e.progress = .carrying) (q : Int) :
    ((y.released e.carrier q).withPlan (pre ++ { e with progress := .left } :: post)).Placed := by
  have hcarried (k : Carrier) : y.attached k = true ↔
      e.carrier = k ∨ ∃ f ∈ pre ++ post, f.carrier = k ∧ f.progress = .carrying :=
    (h.carried k).trans (by simp only [withPlan, carries_iff, hp, and_true])
  have hother (k : Carrier) (hk : ∃ f ∈ pre ++ post, f.carrier = k ∧ f.progress = .carrying) :
      y.rails e.carrier ≠ y.rails k := by
    obtain ⟨f, hf, rfl, -⟩ := hk
    exact h.rails_ne hf
  have hattached : y.attached e.carrier = true := (hcarried _).2 (.inl rfl)
  have hmem (f : PlanEntry) (hf : f ∈ pre ++ { e with progress := .left } :: post) :
      ∃ g ∈ pre ++ e :: post, g.carrier = f.carrier := by
    simp only [List.mem_append, List.mem_cons] at hf
    rcases hf with hf | rfl | hf
    · exact ⟨f, by simp [hf], rfl⟩
    · exact ⟨e, by simp, rfl⟩
    · exact ⟨f, by simp [hf], rfl⟩
  refine ⟨fun k hk => ?_, fun k hk => ?_, fun k hk => ?_, fun k => ?_, ?_, fun f hf => ?_, fun r => ?_⟩
  · change ((y.parkedAt e.carrier q).table k).status = _
    have hun := h.unused k hk
    rw [parkedAt_table, if_neg]
    · exact hun
    · rintro rfl
      exact absurd hattached (Bool.eq_false_iff.1 (CarrierEntry.not_attached_of_unknown (y.table e.carrier) hun))
  · change ((y.parkedAt e.carrier q).table k).isEngaged = true at hk
    rw [parkedAt_table] at hk
    split at hk
    · cases hk
    · exact h.engaged k hk
  · change ((y.parkedAt e.carrier q).table k).isHeld = true at hk
    rw [parkedAt_table] at hk
    split at hk
    · cases hk
    · exact h.held k hk
  · refine (parkedAt_attached e.carrier k q).trans ?_
    rw [hcarried k]
    simp only [withPlan, carries_iff, reduceCtorEq, and_false, false_or]
    refine ⟨fun ⟨hne, hk⟩ => hk.resolve_left (Ne.symm hne), fun hk => ⟨?_, .inr hk⟩⟩
    rintro rfl
    exact hother _ hk rfl
  · have hone := h.oneEach
    simp only [withPlan, List.map_append, List.map_cons] at hone ⊢
    exact hone
  · obtain ⟨g, hg, hcarrier⟩ := hmem f hf
    rw [← hcarrier]
    exact h.locked g hg
  · change Function.update y.catchers (y.rails e.carrier) false r = true ↔
      ∃ k, (y.parkedAt e.carrier q).attached k = true ∧ y.rails k = r
    simp only [parkedAt_attached, Function.update_apply]
    split
    · next hr =>
      refine ⟨nofun, ?_⟩
      rintro ⟨k, ⟨hne, hk⟩, hrail⟩
      exact absurd (hr.symm.trans hrail.symm) (hother k (((hcarried k).1 hk).resolve_left (Ne.symm hne)))
    · next hr =>
      refine (h.lowered r).trans ⟨fun ⟨k, hk, hrail⟩ => ⟨k, ⟨?_, hk⟩, hrail⟩, fun ⟨k, ⟨_, hk⟩, hrail⟩ => ⟨k, hk, hrail⟩⟩
      rintro rfl
      exact hr hrail.symm

theorem Kept.released (hl : y.live = true) (hp : e.progress = .carrying) : (y.withPlan (pre ++ e :: post)).Kept
    ((y.released e.carrier e.release).withPlan (pre ++ { e with progress := .left } :: post)) := by
  refine ⟨.of_same rfl rfl id (.inl rfl) id (fun hr => retainedOk_change (y := y) hr _),
    fun h hl => (h hl).released hp _, fun h => ?_⟩
  have hspaced : ((y.released e.carrier e.release).withPlan (pre ++ { e with progress := .left } :: post)).Spaced := by
    refine Spaced.of_same (h.spaced hl |>.parkedAt (k := e.carrier)
      (fun j hne hrail => (h.spaced hl).free e (by simp [withPlan]) (by simp [hp]) j hne hrail)
      (owes.progress (by simp [hp]) .left) fun f hf hleft hne => ?_) rfl rfl rfl rfl
    simp only [List.mem_append, List.mem_cons] at hf
    refine (h.placed hl).rails_ne (f := f) ?_
    rcases hf with hf | rfl | hf
    · simp [hf]
    · exact absurd rfl hleft
    · simp [hf]
  exact ⟨fun _ => (h.placed hl).released hp _, retainedOk_change (y := y) h.retained _,
    storedApart_change_one (y := y) h.retained h.stored (fun j hj => if_neg hj) hspaced.tableApart, fun _ => hspaced⟩

end Entry
end Yarns
end Sys2Proof.Machine
end

section
/-! SUPPORT. What each shared operation does to the view. -/

namespace Sys2Proof.Machine

/-! ## Moves of latch, lines and waiting writes -/

namespace Yarns
variable {y z w : Yarns}

/-- A state whose view differs in latch, lines and retained memory alone keeps what is said of the carriers. -/
theorem CarriersKept.of_same (hlive : z.live = y.live) (hhead : z.head = y.head) (hnamed : z.named = y.named)
    (hrails : z.rails = y.rails) (hused : z.used = y.used) (htable : z.table = y.table)
    (hcatchers : z.catchers = y.catchers) (hplan : z.plan = y.plan) (hextents : z.extents = y.extents)
    (hretained : y.retainedOk → z.retainedOk) (hstored : y.storedApart → z.storedApart) : y.CarriersKept z :=
  .of_parksNone (fun hl => hlive ▸ hl)
    (fun hp => hp.of_attached hused hrails hplan hcatchers hnamed (fun k => by rw [htable]; exact id)
      (fun k => by rw [attached_eq, htable, attached_eq]) (fun k hk => by rw [htable] at hk; rw [hhead]; exact hp.engaged k hk)
      (fun k hk => by rw [htable] at hk; rw [hhead]; exact hp.held k hk))
    hretained (fun _ => hstored) (fun k x _ => by rw [htable]) hrails (fun h => by rw [hextents]; exact h)
    (by rw [hplan]; exact .refl _)

/-- The stop latch set while RESET is not asserted (R159). -/
theorem Kept.latched (h : y.latchOk → y.phase ≠ .held) : y.Kept { y with latch := true } :=
  ⟨.of_same rfl rfl id (.inr ⟨rfl, h⟩) id id, .of_same rfl rfl rfl rfl rfl rfl rfl rfl rfl id id⟩

/-- Lines and pulses changed together (R152). -/
theorem Kept.lined {pulses : Head → Bool} {lines : Head → Action}
    (h : y.linesOk → ∀ hd : Head, pulses hd = decide (lines hd ≠ .miss)) :
    y.Kept { y with pulses := pulses, lines := lines } :=
  ⟨.of_same rfl rfl id (.inl rfl) h id, .of_same rfl rfl rfl rfl rfl rfl rfl rfl rfl id id⟩

/-- The view once a first part of the waiting writes is done (R107). -/
def written (y : Yarns) (done rest : List RetainedChange) : Yarns :=
  { y with stored := done.foldl RetainedChange.into y.stored, writes := rest }

theorem written_contents {done rest : List RetainedChange} (h : y.writes = done ++ rest) (n : Nat) :
    (y.written done rest).contents n = y.contents (done.length + n) := by
  rw [contents, contents, h, List.take_length_add_append, List.foldl_append]
  rfl

theorem Kept.written {done rest : List RetainedChange} (h : y.writes = done ++ rest) : y.Kept (y.written done rest) := by
  have hr : y.retainedOk → (y.written done rest).retainedOk := by
    unfold retainedOk
    rw [h, List.foldl_append]
    exact id
  exact ⟨.of_same rfl rfl id (.inl rfl) id hr, .of_same rfl rfl rfl rfl rfl rfl rfl rfl rfl hr
    fun ha n => by rw [written_contents h]; exact ha _⟩

/-- A waiting write of the resume record leaves the table (R107, R170). -/
theorem Kept.queued {c : RetainedChange} (hc : ∀ table, c.into table = table) :
    y.Kept { y with writes := y.writes ++ [c] } := by
  have hr : y.retainedOk → retainedOk { y with writes := y.writes ++ [c] } := by
    unfold retainedOk
    rw [List.foldl_append, List.foldl_cons, hc]
    exact id
  refine ⟨.of_same rfl rfl id (.inl rfl) id hr, .of_same rfl rfl rfl rfl rfl rfl rfl rfl rfl hr fun ha n => ?_⟩
  have hn := ha n
  rw [contents] at hn ⊢
  rw [List.take_append, List.foldl_append]
  rcases Nat.eq_zero_or_pos (n - y.writes.length) with h0 | hpos
  · rw [h0]; exact hn
  · rw [List.take_of_length_le (l := [c]) hpos, List.foldl_cons, hc]; exact hn

end Yarns

/-! ## The operations -/

section Same
variable (s : State)

@[simp] theorem State.withPhase_yarns (x : Phase) : (s.withPhase x).yarns = { s.yarns with phase := x } := rfl
@[simp] theorem State.withPins_yarns (x : Pins) : (s.withPins x).yarns = { s.yarns with stopIn := x.stopIn } := rfl
@[simp] theorem State.withGeo_yarns (x : GeometryBlock) : (s.withGeo x).yarns =
    { s.yarns with rails := fun k => x.record.carrierRail[k], used := x.record.carriers } := rfl
@[simp] theorem State.withPos_yarns (x : PositionCounter) : (s.withPos x).yarns = s.yarns := rfl
@[simp] theorem State.withMem_yarns (x : PatternMemory) : (s.withMem x).yarns = s.yarns := rfl
@[simp] theorem State.withTech_yarns (x : TechniqueMemory) : (s.withTech x).yarns = s.yarns := rfl
@[simp] theorem State.withImage_yarns (x : StrokeImage) : (s.withImage x).yarns =
    { s.yarns with plan := x.plan, extents := fun sys => x.extents[sys] } := rfl
@[simp] theorem State.withLoad_yarns (x : LoadCursor) : (s.withLoad x).yarns = s.yarns := rfl
@[simp] theorem State.withPtrs_yarns (x : Vector Pointer 8) : (s.withPtrs x).yarns = s.yarns := rfl
@[simp] theorem State.withQueue_yarns (x : CourseQueue) : (s.withQueue x).yarns =
    { s.yarns with courses := x.courses.map Course.yarns } := rfl
@[simp] theorem State.withArm_yarns (x : ArmingEngine) : (s.withArm x).yarns = s.yarns := rfl
@[simp] theorem State.withHeads_yarns (x : HeadSequencers) : (s.withHeads x).yarns =
    { s.yarns with pulses := fun h => x.pulses[h], lines := fun h => x.lines[h] } := rfl
@[simp] theorem State.withCatchers_yarns (x : Vector Bool 8) : (s.withCatchers x).yarns =
    { s.yarns with catchers := fun r => x[r] } := rfl
@[simp] theorem State.withCarriers_yarns (x : Vector CarrierEntry 16) : (s.withCarriers x).yarns =
    { s.yarns with table := fun k => x[k] } := rfl
@[simp] theorem State.withRetained_yarns (x : RetainedMemory) : (s.withRetained x).yarns =
    { s.yarns with stored := fun k => x.carriers[k], writes := x.writes } := rfl
@[simp] theorem State.withSupply_yarns (x : SupplyState) : (s.withSupply x).yarns = s.yarns := rfl
@[simp] theorem State.withStops_yarns (x : StopUnit) : (s.withStops x).yarns = { s.yarns with latch := x.latch } := rfl
@[simp] theorem State.withPort_yarns (p : Port) (x : PortState) : (s.withPort p x).yarns = s.yarns := by cases p <;> rfl
@[simp] theorem State.withPatternReasons_yarns (x : PatternReasons) : (s.withPatternReasons x).yarns = s.yarns := rfl
@[simp] theorem State.withDriveReasons_yarns (x : DriveReasons) : (s.withDriveReasons x).yarns = s.yarns := rfl
@[simp] theorem State.withReasonCounts_yarns (x : ReasonCounts) : (s.withReasonCounts x).yarns = s.yarns := rfl
@[simp] theorem State.withFreeIndex_yarns (x : Nat) : (s.withFreeIndex x).yarns = s.yarns := rfl
@[simp] theorem State.withPatternPort_yarns (x : PortState) : (s.withPatternPort x).yarns = s.yarns := rfl
@[simp] theorem State.withDrivePort_yarns (x : PortState) : (s.withDrivePort x).yarns = s.yarns := rfl
@[simp] theorem State.breakLoad_yarns (b : Bool) : (s.breakLoad b).yarns = s.yarns := by cases b <;> rfl
@[simp] theorem State.raiseFault_yarns : s.raiseFault.yarns = s.yarns := rfl
@[simp] theorem State.raiseGrantWithdrawn_yarns : s.raiseGrantWithdrawn.yarns = s.yarns := rfl
@[simp] theorem State.raiseStrokeDone_yarns : s.raiseStrokeDone.yarns = s.yarns := rfl
@[simp] theorem State.raiseOutcome_yarns (g : Bool) : (s.raiseOutcome g).yarns = s.yarns := rfl
@[simp] theorem State.clearHeadRefused_yarns : s.clearHeadRefused.yarns = s.yarns := rfl
@[simp] theorem State.queueRetained_yarns (c : RetainedChange) :
    (s.queueRetained c).yarns = { s.yarns with writes := s.yarns.writes ++ [c] } := rfl
@[simp] theorem State.nextStage_yarns (st : ArmingStage) : (s.nextStage st).yarns = s.yarns := rfl

@[simp] theorem State.changeCarriers_yarns (f : Carrier → CarrierEntry → CarrierEntry) :
    (s.changeCarriers f).yarns = s.yarns.change f := by
  have hnew (k : Carrier) : (Vector.ofFn fun k : Carrier => f k s.carriers[k])[k] = f k (s.yarns.table k) := by
    simp [State.yarns]
  rw [State.changeCarriers, State.withRetained_yarns, State.withCarriers_yarns]
  simp only [hnew]
  rfl

@[simp] theorem State.changeCarrier_yarns (k : Carrier) (f : CarrierEntry → CarrierEntry) :
    (s.changeCarrier k f).yarns = s.yarns.change fun j e => if j = k then f e else e :=
  s.changeCarriers_yarns _

/-- A change of the head course that leaves its state and its carriers. -/
theorem State.changeHead_yarns {f : Course → Course} (h : ∀ c, (f c).yarns = c.yarns) : (s.changeHead f).yarns = s.yarns := by
  refine congrArg (fun l => { s.yarns with courses := l }) (a₂ := s.queue.courses.map Course.yarns) ?_
  rcases hc : s.queue.courses with _ | ⟨c, cs⟩ <;> simp [State.changeHead, hc, h]

/-- A change of the head course that takes it to another state. -/
theorem State.changeHead_yarns_to {f : Course → Course} {st : CourseState} (h : ∀ c, (f c).yarns = (st, c.carriers)) :
    (s.changeHead f).yarns = s.yarns.headTo st := by
  refine congrArg (fun l => { s.yarns with courses := l }) ?_
  rw [show s.yarns.courses = s.queue.courses.map Course.yarns from rfl]
  rcases hc : s.queue.courses with _ | ⟨c, cs⟩
  · simp [State.changeHead, hc]
  · simp only [State.changeHead, State.withQueue_queue, hc, List.map_cons, h]
    rfl

@[simp] theorem State.releaseCourse_yarns : s.releaseCourse.yarns = s.yarns.imageless := rfl

@[simp] theorem State.setLatch_yarns : s.setLatch.yarns = { s.yarns with latch := true } := by
  unfold State.setLatch
  dsimp only
  split <;> rfl

@[simp] theorem State.returnToQueued_yarns : s.returnToQueued.yarns = s.yarns.requeued := by
  have h := s.changeHead_yarns_to (f := fun c => { c with state := .queued }) (st := .queued) fun _ => rfl
  unfold State.returnToQueued
  dsimp only
  split <;> simp [h, Yarns.requeued]

@[simp] theorem State.strokeFault_yarns (r : FaultReason) (k : Option Carrier) (hd : Option Head) :
    (s.strokeFault r k hd).yarns = if s.headIs .knitting then s.yarns.faulted else s.yarns := by
  split
  · next h =>
    obtain ⟨c, hc, hk⟩ : ∃ c, s.head? = some c ∧ c.state = .knitting := by
      simpa [State.headIs, Option.map_eq_some_iff] using h
    have hto (u : State) := u.changeHead_yarns_to
      (f := fun c => { c with state := .faulted, lastFault := some r }) (st := .faulted) fun _ => rfl
    simp only [State.strokeFault, hc, hk, if_true, State.raiseFault_yarns, State.withStops_yarns, hto,
      State.changeCarriers_yarns, State.withHeads_yarns]
    rfl
  · next h => rw [State.strokeFault_idle (Bool.eq_false_iff.2 h)]

theorem State.retire_yarns (h : s.head? ≠ none) (o : CourseOutcome) : (s.retire o).yarns = s.yarns.retired := by
  unfold State.retire
  split
  · next hc => simp [State.head?, hc] at h
  · next c cs hc =>
    have ht : s.yarns.courses.tail = cs.map Course.yarns := by simp [State.yarns, hc]
    simp only [State.withPatternReasons_yarns, State.withHeads_yarns, State.releaseCourse_yarns, State.withQueue_yarns, ← ht]
    rfl

theorem State.raiseHeldCatchers_yarns : s.raiseHeldCatchers.yarns =
    { s.yarns with
      catchers := fun r =>
        s.yarns.catchers r && !(allCarriers.any fun k => (s.yarns.table k).isHeld && decide (s.yarns.rails k = r)) } := by
  have hr (r : Rail) : (Vector.ofFn fun r : Rail =>
      s.catchers[r] && !(allCarriers.any fun k => s.carriers[k].isHeld && decide (s.railOf k = r)))[r] =
      (s.yarns.catchers r && !(allCarriers.any fun k => (s.yarns.table k).isHeld && decide (s.yarns.rails k = r))) := by
    rw [Fin.getElem_fin, Vector.getElem_ofFn]
    rfl
  simp only [State.raiseHeldCatchers, State.withCatchers_yarns, hr]

theorem State.discardFaulted_yarns (h : s.head? ≠ none) : s.discardFaulted.yarns = s.yarns.discarded := by
  unfold State.discardFaulted
  rw [State.retire_yarns, State.changeCarriers_yarns, State.raiseHeldCatchers_yarns]
  · rfl
  · simpa [State.head?] using h

/-! ## Catchers -/

theorem State.setCatcher_yarns (r : Rail) (b : Bool) : (s.withCatchers (s.catchers.set r.val b)).yarns =
    { s.yarns with catchers := Function.update s.yarns.catchers r b } := by
  have hr (q : Rail) : (s.catchers.set r.val b)[q] = Function.update s.yarns.catchers r b q := by
    simp only [Fin.getElem_fin, Vector.getElem_set, Function.update_apply, Fin.ext_iff, eq_comm (a := q.val)]
    rfl
  simp only [State.withCatchers_yarns, hr]

theorem State.releaseCarrier_yarns (k : Carrier) (q : Int) : (s.releaseCarrier k q).yarns = s.yarns.released k q := by
  have hsame (u : State) := u.changeHead_yarns (f := fun c => { c with parked := c.parked ++ [(k, q)] }) fun _ => rfl
  simp only [State.releaseCarrier, hsame, State.changeCarrier_yarns, State.setCatcher_yarns]
  rfl

/-- A catch; a broken yarn then faults the stroke (R120, R122). -/
theorem State.catchCarrier_yarns (k : Carrier) (c : Int) (hk : s.headIs .knitting = true) :
    (s.catchCarrier k c).yarns = if s.pins.yarn[k]
      then (s.yarns.caught k (s.geo.record.clampPosition c)).faulted
      else s.yarns.caught k (s.geo.record.clampPosition c) := by
  have hcaught : ((s.withCatchers (s.catchers.set (s.railOf k).val true)).changeCarrier k fun e =>
      { e with status := .engaged (s.geo.record.clampPosition c) }).yarns =
      s.yarns.caught k (s.geo.record.clampPosition c) := by
    rw [State.changeCarrier_yarns, State.setCatcher_yarns]
    rfl
  unfold State.catchCarrier
  dsimp only
  split
  · rw [State.strokeFault_yarns, hcaught, if_pos (by simpa [State.headIs, State.head?] using hk)]
  · exact hcaught

end Same

/-! ## The relation over states -/

/-- The invariants of O57 and O58 carried from a state to a next one. -/
def YarnsKept (s t : State) : Prop := s.yarns.Kept t.yarns

variable {s t u : State}

theorem YarnsKept.of_yarns {y : Yarns} (h : t.yarns = y) (hk : s.yarns.Kept y) : YarnsKept s t := by
  unfold YarnsKept; rwa [h]

theorem YarnsKept.of_eq (h : t.yarns = s.yarns) : YarnsKept s t := .of_yarns h (.refl _)

theorem YarnsKept.trans (h : YarnsKept s t) (h' : YarnsKept t u) : YarnsKept s u := Yarns.Kept.trans h h'

/-- From a state of the same view. -/
theorem YarnsKept.after (h : YarnsKept t u) (h' : t.yarns = s.yarns) : YarnsKept s u := .trans (.of_eq h') h

theorem YarnsKept.strokeFault (s : State) (r : FaultReason) (k : Option Carrier) (hd : Option Head) :
    YarnsKept s (s.strokeFault r k hd) := by
  refine .of_yarns (s.strokeFault_yarns r k hd) ?_
  split
  · next h => exact .faulted (State.headIs_yarns.1 h)
  · exact .refl _

theorem YarnsKept.returnToQueued (h : s.headIs .arming = true ∨ s.headIs .armed = true) : YarnsKept s s.returnToQueued :=
  .of_yarns s.returnToQueued_yarns (.requeued (h.imp State.headIs_yarns.1 State.headIs_yarns.1))

theorem YarnsKept.discardFaulted (h : s.headIs .faulted = true) : YarnsKept s s.discardFaulted :=
  .of_yarns (s.discardFaulted_yarns (State.head?_ne_none_of_headIs h)) (.discarded (State.headIs_yarns.1 h))

/-- One catcher event, seen with the plan that it works on (R120, R121). -/
theorem catcherEvent_kept (hl : s.live = true) (d : Direction) (c0 c : Int) (pre post : List PlanEntry) (e : PlanEntry) :
    (s.yarns.withPlan (pre ++ e :: post)).Kept
      ((catcherEvent d c0 c e s).2.yarns.withPlan (pre ++ (catcherEvent d c0 c e s).1 :: post)) := by
  unfold catcherEvent
  split
  · exact .refl _
  · next hk =>
    have hk : s.headIs .knitting = true := eq_true_of_ne_false hk
    have hhead : s.yarns.head = some .knitting := State.headIs_yarns.1 hk
    split
    · next hdue =>
      simp only [catchDue, Bool.and_eq_true, decide_eq_true_eq] at hdue
      obtain ⟨⟨⟨hp, hparked⟩, -⟩, -⟩ := hdue
      obtain ⟨p, ht⟩ : ∃ p, (s.yarns.table e.carrier).status = .parked p := by
        change (s.yarns.table e.carrier).parkedAt.isSome = true at hparked
        unfold CarrierEntry.parkedAt at hparked
        split at hparked
        · next p hst => exact ⟨p, hst⟩
        · cases hparked
      have hcaught := Yarns.Kept.caught (pre := pre) (post := post) hhead hp ht (s.geo.record.clampPosition c)
      rw [State.catchCarrier_yarns s e.carrier c hk]
      split
      · exact hcaught.trans (.faulted hhead)
      · exact hcaught
    · split
      · next hdue =>
        simp only [releaseDue, Bool.and_eq_true, decide_eq_true_eq] at hdue
        obtain ⟨⟨⟨hp, -⟩, -⟩, -⟩ := hdue
        rw [State.releaseCarrier_yarns]
        exact .released hl hp
      · exact .refl _

theorem catcherEvents_kept (d : Direction) (c0 c : Int) (pre es : List PlanEntry) (s : State) (hl : s.live = true) :
    (s.yarns.withPlan (pre ++ es)).Kept
      ((catcherEvents d c0 c es s).2.yarns.withPlan (pre ++ (catcherEvents d c0 c es s).1)) := by
  induction es generalizing pre s with
  | nil => exact .refl _
  | cons e es ih =>
    have hrest := ih (pre ++ [(catcherEvent d c0 c e s).1]) (catcherEvent d c0 c e s).2
      (by simpa [State.live] using hl)
    rw [List.append_assoc, List.append_assoc] at hrest
    exact (catcherEvent_kept hl d c0 c pre es e).trans hrest

theorem YarnsKept.runCatchers (hl : s.live = true) (d : Direction) (c0 c : Int) : YarnsKept s (s.runCatchers d c0 c) :=
  catcherEvents_kept d c0 c [] s.image.plan s hl

/-! ## Completion -/

/-- A plan entry once its carrier has been released, if it was still CARRYING (R156). -/
def PlanEntry.leave (e : PlanEntry) : PlanEntry := if e.progress = .carrying then { e with progress := .left } else e

theorem PlanEntry.leave_not_carrying (e : PlanEntry) : e.leave.progress ≠ .carrying := by
  unfold PlanEntry.leave
  split
  · simp
  · next h => exact h

theorem releaseFold_kept (pre es : List PlanEntry) (s : State) (hl : s.live = true) :
    (s.yarns.withPlan (pre ++ es)).Kept
      (((es.foldl (fun t e => if e.progress = .carrying then t.releaseCarrier e.carrier e.release else t) s).yarns).withPlan
        (pre ++ es.map PlanEntry.leave)) := by
  induction es generalizing pre s with
  | nil => exact .refl _
  | cons e es ih =>
    have hone (u : State) (hu : u.live = true) := ih (pre ++ [e.leave]) u hu
    simp only [List.append_assoc, List.singleton_append] at hone
    rw [List.foldl_cons, List.map_cons]
    split
    · next hp =>
      refine .trans ?_ (hone _ (by simpa [State.live] using hl))
      rw [State.releaseCarrier_yarns, PlanEntry.leave, if_pos hp]
      exact .released hl hp
    · next hp =>
      refine .trans ?_ (hone _ hl)
      rw [PlanEntry.leave, if_neg hp]
      exact .refl _

theorem YarnsKept.completeStroke (hl : s.live = true) (hk : s.headIs .knitting = true) : YarnsKept s s.completeStroke := by
  have hhead : s.releaseCarrying.head? ≠ none := by
    rw [State.headIs_iff, ← State.releaseCarrying_standing, ← State.headIs_iff] at hk
    exact State.head?_ne_none_of_headIs hk
  refine .of_yarns (y := s.releaseCarrying.yarns.retired) (State.retire_yarns _ hhead .done) ?_
  have hreleased := releaseFold_kept [] s.image.plan s hl
  refine hreleased.trans (.retired fun e he => ?_)
  obtain ⟨f, -, rfl⟩ := List.mem_map.1 he
  exact f.leave_not_carrying

theorem YarnsKept.examineCompletion (hl : s.live = true) : YarnsKept s s.examineCompletion := by
  unfold State.examineCompletion
  split
  · split
    · next h => exact .completeStroke hl (Bool.and_eq_true_iff.1 h).1
    · exact .of_eq rfl
  · exact .of_eq rfl

/-! ## A change of P -/

theorem YarnsKept.select (s : State) (h : Head) : YarnsKept s (s.select h) := by
  unfold State.select
  split
  · exact .of_eq rfl
  · next r hr =>
    dsimp only
    split
    · exact .of_eq rfl
    · next hmiss =>
      split
      · exact .strokeFault s _ _ _
      · refine .of_yarns (State.withHeads_yarns _ _) (.lined fun hok g => ?_)
        simp only [Fin.getElem_fin, Vector.getElem_set]
        split
        · simpa using hmiss
        · exact hok g

theorem YarnsKept.runWork (hl : s.live = true) (p0 : Nat) (w : CountWork) : YarnsKept s (s.runWork p0 w) := by
  unfold State.runWork
  split
  · next hk =>
    cases w with
    | select h => exact .select s h
    | catchers => dsimp only; split <;> [exact .runCatchers hl _ _ _; exact .of_eq rfl]
    | reversal => exact .strokeFault s _ _ _
    | complete => exact .completeStroke hl hk
  · exact .of_eq rfl

theorem YarnsKept.runFold (p0 : Nat) (l : List CountWork) (s : State) (hl : s.live = true) :
    YarnsKept s (l.foldl (fun u w => u.runWork p0 w) s) := by
  induction l generalizing s with
  | nil => exact .of_eq rfl
  | cons w ws ih => exact .trans (.runWork hl p0 w) (ih _ (by simpa [State.live] using hl))

theorem YarnsKept.strokeWork (hl : s.live = true) (p0 : Nat) : YarnsKept s (s.strokeWork p0) := by
  unfold State.strokeWork
  split
  · exact .of_eq rfl
  · dsimp only
    split
    · exact .after (.runFold p0 _ _ (by exact hl)) rfl
    · exact .after (.runFold p0 _ _ (by exact hl)) rfl

theorem YarnsKept.followCatchers (s : State) (d : Direction) (p0 : Nat) : YarnsKept s (s.followCatchers d p0) := by
  unfold State.followCatchers
  dsimp only
  split
  · exact .of_eq rfl
  · exact .of_yarns (State.changeCarriers_yarns _ _) (.followed _ _)

theorem YarnsKept.countChanged (hl : s.live = true) (p0 : Nat) : YarnsKept s (s.countChanged p0) := by
  unfold State.countChanged
  split
  · exact .of_eq rfl
  · split
    · exact .of_eq rfl
    · split
      · exact .trans (.followCatchers _ _ _) (.strokeWork (by simpa [State.live] using hl) p0)
      · exact .followCatchers _ _ _
      · exact .of_eq rfl

end Sys2Proof.Machine
end

section
/-! O38. The four checks on one carrier with a non-empty extent: UNKNOWN carriers on its rail, a plan entry on its rail, the
side of its pickup, and the nearest carrier PARKED in its path (R116 to R118). -/

namespace Sys2Proof.Machine

/-! ## The first carrier of a list -/

theorem allCarriers_lt : allCarriers.Pairwise (· < ·) := by decide

/-- The first carrier, by number, with a property. -/
theorem filter_allCarriers_eq_cons {p : Carrier → Bool} {j : Carrier} (hj : p j = true) (hlt : ∀ i < j, p i = false) :
    ∃ rest, allCarriers.filter p = j :: rest := by
  have hmem : j ∈ allCarriers.filter p := List.mem_filter.2 ⟨mem_allCarriers j, hj⟩
  have hsorted : (allCarriers.filter p).Pairwise (· < ·) := allCarriers_lt.filter p
  rcases hl : allCarriers.filter p with _ | ⟨i, rest⟩
  · simp [hl] at hmem
  · rw [hl] at hmem hsorted
    have hi : p i = true := (List.mem_filter.1 (hl ▸ List.mem_cons_self : i ∈ allCarriers.filter p)).2
    rcases List.mem_cons.1 hmem with rfl | hrest
    · exact ⟨rest, rfl⟩
    · have hij : i < j := (List.pairwise_cons.1 hsorted).1 j hrest
      rw [hlt i hij] at hi
      cases hi

variable {s : State} {d : Direction} {k : Carrier}

/-! ## Each check -/

theorem CarrierEntry.isUnknown_iff (e : CarrierEntry) : e.isUnknown = true ↔ e.status = .unknown := by
  unfold CarrierEntry.isUnknown
  split <;> simp_all

theorem CarrierEntry.parkedAt_eq_some (e : CarrierEntry) {x : Int} : e.parkedAt = some x ↔ e.status = .parked x := by
  unfold CarrierEntry.parkedAt
  split
  · next p hp => simp [hp]
  · next hp => exact ⟨nofun, fun h => absurd h (hp x)⟩

theorem CarrierEntry.position_eq_none (e : CarrierEntry) : e.position = none ↔ e.status = .unknown := by
  unfold CarrierEntry.position
  split <;> simp [*]

/-- Whether a carrier is in use, on the rail of carrier `k`, and UNKNOWN (R116). -/
theorem State.unknownOnRail_mem (j : Carrier) : (s.inUse j && decide (s.railOf j = s.railOf k) && s.carriers[j].isUnknown) = true ↔
    s.inUse j = true ∧ s.railOf j = s.railOf k ∧ s.carriers[j].status = .unknown := by
  rw [Bool.and_eq_true, Bool.and_eq_true, decide_eq_true_eq, CarrierEntry.isUnknown_iff, and_assoc]

/-- The lowest UNKNOWN carrier in use on the rail is the one named (R116). -/
theorem State.unknownRefusal_first {j : Carrier} (hu : s.inUse j = true) (hr : s.railOf j = s.railOf k)
    (hj : s.carriers[j].status = .unknown) (hlt : ∀ i : Carrier, i < j → s.inUse i = true → s.railOf i = s.railOf k →
      s.carriers[i].status ≠ .unknown) : s.unknownRefusal k = some (.carrierUnknown k j) := by
  obtain ⟨rest, hl⟩ := filter_allCarriers_eq_cons
    (p := fun i => s.inUse i && decide (s.railOf i = s.railOf k) && s.carriers[i].isUnknown)
    ((State.unknownOnRail_mem j).2 ⟨hu, hr, hj⟩) fun i hi => Bool.eq_false_iff.2 fun hp => by
      obtain ⟨hiu, hir, hist⟩ := (State.unknownOnRail_mem i).1 hp
      exact hlt i hi hiu hir hist
  rw [State.unknownRefusal, State.unknownOnRail, hl]

/-- With no UNKNOWN carrier in use on the rail the check is on the carrier itself (R116). -/
theorem State.unknownRefusal_own (h : ∀ j : Carrier, s.inUse j = true → s.railOf j = s.railOf k →
    s.carriers[j].status ≠ .unknown) :
    s.unknownRefusal k = if s.carriers[k].isUnknown then some (.carrierUnknown k k) else none := by
  have hl : s.unknownOnRail (s.railOf k) = [] := List.filter_eq_nil_iff.2 fun j _ hp => by
    obtain ⟨hu, hr, hj⟩ := (State.unknownOnRail_mem j).1 hp
    exact h j hu hr hj
  rw [State.unknownRefusal, hl]

theorem State.known_of_unknownRefusal (h : s.unknownRefusal k = none) : s.carriers[k].status ≠ .unknown := by
  unfold State.unknownRefusal at h
  split at h
  · cases h
  · split at h
    · cases h
    · next hk => exact fun hu => hk ((CarrierEntry.isUnknown_iff _).2 hu)

/-- The first plan entry on the rail is the one named (R116). -/
theorem State.conflictRefusal_first {pre post : List PlanEntry} {e : PlanEntry} (he : s.railOf e.carrier = s.railOf k)
    (hpre : ∀ f ∈ pre, s.railOf f.carrier ≠ s.railOf k) :
    s.conflictRefusal (pre ++ e :: post) k = some (.railConflict e.carrier k) := by
  have hfind : (pre ++ e :: post).find? (fun f => decide (s.railOf f.carrier = s.railOf k)) = some e := by
    rw [List.find?_append, List.find?_eq_none.2 (fun f hf => by simpa using hpre f hf), List.find?_cons_of_pos (by simp [he]),
      Option.none_or]
  rw [State.conflictRefusal, hfind, Option.map_some]

theorem State.conflictRefusal_eq_none {plan : List PlanEntry} :
    s.conflictRefusal plan k = none ↔ ∀ e ∈ plan, s.railOf e.carrier ≠ s.railOf k := by
  rw [State.conflictRefusal, Option.map_eq_none_iff, List.find?_eq_none]
  simp

theorem sideRefusal_eq_none {p l r : Int} :
    sideRefusal d k p l r = none ↔ (d = .l2r → p ≤ l) ∧ (d = .r2l → r ≤ p) := by
  cases d <;> simp [sideRefusal]

/-! ## The carriers in the path (R118) -/

/-- Carrier `j` is PARKED at `x` on the rail of carrier `k`, in its path from `p` to `q`. -/
def State.inPath (s : State) (d : Direction) (k : Carrier) (p q : Int) (j : Carrier) (x : Int) : Prop :=
  j ≠ k ∧ s.railOf j = s.railOf k ∧ s.carriers[j].status = .parked x ∧ blocks d p q x = true

/-- The carriers in the path of carrier `k`, with their positions. -/
def State.blockers (s : State) (d : Direction) (k : Carrier) (p q : Int) : List (Carrier × Int) :=
  allCarriers.filterMap fun j =>
    match s.carriers[j].parkedAt with
    | some x => if j ≠ k ∧ s.railOf j = s.railOf k ∧ blocks d p q x = true then some (j, x) else none
    | none => none

theorem State.blockedRefusal_eq (p q : Int) : s.blockedRefusal d k p q =
    ((s.blockers d k p q).foldl (nearer p) none).map fun b => .carrierBlocked k b.1 := rfl

theorem State.mem_blockers {p q : Int} {j : Carrier} {x : Int} :
    (j, x) ∈ s.blockers d k p q ↔ s.inPath d k p q j x := by
  have hj : (j, x) ∈ s.blockers d k p q ↔ s.carriers[j].parkedAt = some x ∧ j ≠ k ∧ s.railOf j = s.railOf k ∧
      blocks d p q x = true := by
    rw [State.blockers, List.mem_filterMap]
    constructor
    · rintro ⟨i, -, hi⟩
      split at hi
      · next y hy =>
        split at hi
        · next hin =>
          obtain ⟨rfl, rfl⟩ := Prod.mk.inj (Option.some.inj hi)
          exact ⟨hy, hin⟩
        · cases hi
      · cases hi
    · rintro ⟨hx, hin⟩
      exact ⟨j, mem_allCarriers j, by rw [hx]; exact if_pos hin⟩
  rw [hj, CarrierEntry.parkedAt_eq_some, State.inPath]
  tauto

/-- `y` is `x`, or farther from `p`. -/
def leads (p : Int) (x y : Carrier × Int) : Prop := y = x ∨ |x.2 - p| < |y.2 - p|

theorem nearer_leads {p : Int} {x y : Carrier × Int} {best : Option (Carrier × Int)} (hbest : ∀ b, best = some b → leads p x b)
    (hy : leads p x y) (b : Carrier × Int) (hb : nearer p best y = some b) : leads p x b := by
  unfold nearer at hb
  split at hb
  · exact Option.some.inj hb ▸ hy
  · split at hb
    · exact Option.some.inj hb ▸ hy
    · exact Option.some.inj hb ▸ hbest _ rfl

theorem nearer_eq {p : Int} {x y : Carrier × Int} {best : Option (Carrier × Int)} (hbest : ∀ b, best = some b → leads p x b)
    (hy : leads p x y) (hx : best = some x ∨ y = x) : nearer p best y = some x := by
  rcases hx with rfl | rfl
  · rcases hy with rfl | hlt
    · simp [nearer]
    · simp [nearer, hlt.le]
  · rcases best with _ | b
    · rfl
    · rcases hbest b rfl with rfl | hlt
      · simp [nearer]
      · simp [nearer, hlt]

/-- The one nearest of all is found (R118). -/
theorem foldl_nearer_eq {p : Int} {x : Carrier × Int} {l : List (Carrier × Int)} {best : Option (Carrier × Int)}
    (hbest : ∀ b, best = some b → leads p x b) (hl : ∀ y ∈ l, leads p x y) (hx : best = some x ∨ x ∈ l) :
    l.foldl (nearer p) best = some x := by
  induction l generalizing best with
  | nil => simpa using hx
  | cons y l ih =>
    have hy := hl y (by simp)
    refine ih (nearer_leads hbest hy) (fun z hz => hl z (by simp [hz])) ?_
    by_cases hnow : best = some x ∨ y = x
    · exact .inl (nearer_eq hbest hy hnow)
    · rw [List.mem_cons] at hx
      tauto

theorem foldl_nearer_isSome {p : Int} (l : List (Carrier × Int)) (b : Carrier × Int) :
    (l.foldl (nearer p) (some b)).isSome = true := by
  induction l generalizing b with
  | nil => rfl
  | cons y l ih =>
    rw [List.foldl_cons, nearer]
    split <;> exact ih _

/-- The nearest carrier in the path is the one named (R118). -/
theorem State.blockedRefusal_nearest {p q : Int} {j : Carrier} {x : Int} (hj : s.inPath d k p q j x)
    (hnear : ∀ i y, s.inPath d k p q i y → i ≠ j → |x - p| < |y - p|) :
    s.blockedRefusal d k p q = some (.carrierBlocked k j) := by
  rw [State.blockedRefusal_eq, foldl_nearer_eq (x := (j, x)) (by simp) ?_ (.inr (State.mem_blockers.2 hj)), Option.map_some]
  rintro ⟨i, y⟩ hi
  have hi := State.mem_blockers.1 hi
  by_cases hij : i = j
  · subst hij
    obtain ⟨-, -, hx, -⟩ := hj
    obtain ⟨-, -, hy, -⟩ := hi
    rw [hx] at hy
    cases hy
    exact .inl rfl
  · exact .inr (hnear i y hi hij)

theorem State.blockedRefusal_eq_none {p q : Int} : s.blockedRefusal d k p q = none ↔ ∀ j x, ¬ s.inPath d k p q j x := by
  rw [State.blockedRefusal_eq, Option.map_eq_none_iff]
  constructor
  · intro h j x hj
    rcases hl : s.blockers d k p q with _ | ⟨y, l⟩
    · simpa [hl] using State.mem_blockers.2 hj
    · have hsome := foldl_nearer_isSome (p := p) l y
      rw [hl, List.foldl_cons, show nearer p none y = some y from rfl] at h
      simp [h] at hsome
  · intro h
    have hl : s.blockers d k p q = [] := List.eq_nil_iff_forall_not_mem.2 fun ⟨j, x⟩ hj => h j x (State.mem_blockers.1 hj)
    rw [hl]
    rfl

/-! ## The checks in order -/

section Order
variable {plan : List PlanEntry} {sys : System} {l r : Int}

theorem State.planCarrier_unknown {x : ArmingRefusal} (h : s.unknownRefusal k = some x) :
    s.planCarrier d plan sys k l r = .inl x := by
  simp only [State.planCarrier, h]

theorem State.planCarrier_conflict {x : ArmingRefusal} (hu : s.unknownRefusal k = none)
    (h : s.conflictRefusal plan k = some x) : s.planCarrier d plan sys k l r = .inl x := by
  simp only [State.planCarrier, hu, h]

theorem State.planCarrier_side {x : ArmingRefusal} (hu : s.unknownRefusal k = none) (hc : s.conflictRefusal plan k = none)
    (h : sideRefusal d k (s.carriers[k].position.getD 0) l r = some x) : s.planCarrier d plan sys k l r = .inl x := by
  simp only [State.planCarrier, hu, hc, h]

theorem State.planCarrier_blocked {x : ArmingRefusal} (hu : s.unknownRefusal k = none) (hc : s.conflictRefusal plan k = none)
    (hs : sideRefusal d k (s.carriers[k].position.getD 0) l r = none)
    (h : s.blockedRefusal d k (s.carriers[k].position.getD 0) (releasePoint d s.geo.record.parkGap l r) = some x) :
    s.planCarrier d plan sys k l r = .inl x := by
  simp only [State.planCarrier, hu, hc, hs, h]

/-- A carrier that passes passed every check, and its entry carries its position and its release point (R119). -/
theorem State.planCarrier_eq_inr {e : PlanEntry} : s.planCarrier d plan sys k l r = .inr e ↔
    s.unknownRefusal k = none ∧ s.conflictRefusal plan k = none ∧
    sideRefusal d k (s.carriers[k].position.getD 0) l r = none ∧
    s.blockedRefusal d k (s.carriers[k].position.getD 0) (releasePoint d s.geo.record.parkGap l r) = none ∧
    e = ⟨k, sys, s.carriers[k].position.getD 0, releasePoint d s.geo.record.parkGap l r, .awaitingCatch⟩ := by
  unfold State.planCarrier
  dsimp only
  rcases s.unknownRefusal k with _ | x
  · rcases s.conflictRefusal plan k with _ | x
    · rcases sideRefusal d k (s.carriers[k].position.getD 0) l r with _ | x
      · rcases s.blockedRefusal d k (s.carriers[k].position.getD 0) (releasePoint d s.geo.record.parkGap l r) with _ | x
        · simp [eq_comm]
        · simp
      · simp
    · simp
  · simp

end Order

/-- Settles O38, check by check. -/
theorem carrierChecks : Obligations.CarrierChecks := by
  intro s d plan sys k l r q inWay
  have hq : releasePoint d s.geo.record.parkGap l r = q := by cases d <;> rfl
  have hpath (p : Int) (j : Carrier) (x : Int) : s.inPath d k p q j x ↔ inWay p j x := by
    cases d <;> simp [State.inPath, inWay, blocks]
  refine ⟨fun j hu hr hj hlt => State.planCarrier_unknown (State.unknownRefusal_first hu hr hj hlt), fun hknown => ?_⟩
  have hown := State.unknownRefusal_own hknown
  refine ⟨fun hk => State.planCarrier_unknown ?_, fun p hp => ?_⟩
  · rw [hown, if_pos ((CarrierEntry.isUnknown_iff _).2 hk)]
  have hu : s.unknownRefusal k = none := by
    rw [hown, if_neg]
    rw [CarrierEntry.isUnknown_iff, ← CarrierEntry.position_eq_none, hp]
    simp
  have hpos : s.carriers[k].position.getD 0 = p := by rw [hp]; rfl
  refine ⟨?_, fun hfree => ?_⟩
  · rintro pre e post rfl he hpre
    exact State.planCarrier_conflict hu (State.conflictRefusal_first he hpre)
  have hc := State.conflictRefusal_eq_none.2 hfree
  refine ⟨?_, ?_, fun hl hr => ⟨fun j x hj hnear => ?_, fun hclear => ?_⟩⟩
  · rintro rfl hlt
    exact State.planCarrier_side hu hc (by rw [hpos]; simp [sideRefusal, hlt])
  · rintro rfl hlt
    exact State.planCarrier_side hu hc (by rw [hpos]; simp [sideRefusal, hlt])
  · have hside : sideRefusal d k p l r = none := sideRefusal_eq_none.2 ⟨hl, hr⟩
    refine State.planCarrier_blocked hu hc (by rw [hpos]; exact hside) ?_
    rw [hpos, hq]
    exact State.blockedRefusal_nearest ((hpath p j x).2 hj) fun i y hi => hnear i y ((hpath p i y).1 hi)
  · have hside : sideRefusal d k p l r = none := sideRefusal_eq_none.2 ⟨hl, hr⟩
    have hpass := State.planCarrier_eq_inr (s := s) (d := d) (plan := plan) (sys := sys) (k := k) (l := l) (r := r)
      (e := ⟨k, sys, p, q, .awaitingCatch⟩)
    rw [hpos, hq] at hpass
    exact hpass.2 ⟨hu, hc, hside, State.blockedRefusal_eq_none.2 fun j x hj => hclear j x ((hpath p j x).1 hj), rfl⟩

end Sys2Proof.Machine
end

section
/-! SUPPORT. The moves of the view that commands and power make: SET_CARRIER, a change of the geometry, the queue's ends, the
carrier plan and the image, the inputs, RESET, start-up and the loss of power (R6, R66, R75, R110, R111, R119, R179, R180). -/

namespace Sys2Proof.Machine.Yarns
variable {y z w : Yarns}

/-! ## Carriers placed and lost -/

/-- SET_CARRIER on a rail that no plan entry uses, at a position free there (R111, R114). -/
theorem CarriersKept.parkedAt (hl : y.live = true) {k : Carrier} {q : Int} (hused : k.val < y.used)
    (hfree : ∀ j, j ≠ k → y.rails j = y.rails k → (y.table j).status ≠ .parked q)
    (hrail : y.Placed → ∀ e ∈ y.plan, y.rails e.carrier ≠ y.rails k) : y.CarriersKept (y.parkedAt k q) := by
  have hplaced (h : y.Placed) : (y.parkedAt k q).Placed := by
    have hk : y.attached k = false := Bool.eq_false_iff.2 fun hatt => by
      obtain ⟨e, he, rfl, -⟩ := (h.carried k).1 hatt
      exact hrail h e he rfl
    have hne {j : Carrier} (hj : j ≠ k) : (y.parkedAt k q).table j = y.table j := by rw [parkedAt_table, if_neg hj]
    have hatt (j : Carrier) : (y.parkedAt k q).attached j = y.attached j := by
      by_cases hj : j = k
      · subst hj
        rw [hk, Bool.eq_false_iff]
        exact fun hatt => ((parkedAt_attached j j q).1 hatt).1 rfl
      · rw [attached_eq, hne hj, attached_eq]
    have hother {j : Carrier} (hj : (y.parkedAt k q).attached j = true) : (y.parkedAt k q).table j = y.table j :=
      hne ((parkedAt_attached k j q).1 hj).1
    refine ⟨fun j hj => ?_, fun j hj => ?_, fun j hj => ?_, fun j => ?_, h.oneEach, h.locked, fun r => ?_⟩
    · have hjk : j ≠ k := by rintro rfl; exact absurd hused (Nat.not_lt.2 hj)
      rw [hne hjk]
      exact h.unused j hj
    · refine h.engaged j ?_
      rwa [← hother (j := j) (by rw [attached, hj, Bool.true_or])]
    · refine h.held j ?_
      rwa [← hother (j := j) (by rw [attached, hj, Bool.or_true])]
    · rw [hatt]; exact h.carried j
    · simp only [hatt]; exact h.lowered r
  refine ⟨fun h _ => hplaced (h hl), fun h => ?_⟩
  have hspaced : (y.parkedAt k q).Spaced := (h.spaced hl).parkedAt hfree (.refl _)
    fun e he _ _ => (hrail (h.placed hl) e he).symm
  exact ⟨fun _ => hplaced (h.placed hl), retainedOk_change h.retained _,
    storedApart_change_one h.retained h.stored (fun j hj => if_neg hj) hspaced.tableApart, fun _ => hspaced⟩

/-- The view with other rails and another number of carriers: the carriers concerned are lost (R110). -/
def refitted (y : Yarns) (rails : Carrier → Rail) (used : Nat) : Yarns :=
  { y.change fun k e => if rails k ≠ y.rails k ∨ (used < y.used ∧ used ≤ k.val) then e.lost else e with
    rails := rails, used := used }

/-- A carrier that is not UNKNOWN after a refit is as it was, on its rail. -/
theorem refitted_table {rails : Carrier → Rail} {used : Nat} {k : Carrier} (h : ((y.refitted rails used).table k).status ≠ .unknown) :
    (y.refitted rails used).table k = y.table k ∧ rails k = y.rails k ∧ (used < y.used → k.val < used) := by
  change (if rails k ≠ y.rails k ∨ (used < y.used ∧ used ≤ k.val) then (y.table k).lost else y.table k).status ≠ _ at h
  change (if rails k ≠ y.rails k ∨ (used < y.used ∧ used ≤ k.val) then (y.table k).lost else y.table k) = _ ∧ _
  split at h
  · exact absurd rfl h
  · next hn =>
    rw [not_or, not_not, not_and, Nat.not_le] at hn
    obtain ⟨hrail, hlt⟩ := hn
    exact ⟨if_neg (by rw [not_or, not_not, not_and, Nat.not_le]; exact ⟨hrail, hlt⟩), hrail, hlt⟩

theorem CarriersKept.refitted (hk : y.head ≠ some .knitting) (hf : y.head ≠ some .faulted) (hplan : y.plan = [])
    (rails : Carrier → Rail) (used : Nat) : y.CarriersKept (y.refitted rails used) := by
  have hunknown {k : Carrier} (hst : (y.table k).status = .unknown) : ((y.refitted rails used).table k).status = .unknown := by
    by_contra h
    obtain ⟨he, -⟩ := refitted_table h
    exact h (he ▸ hst)
  have hparked {k : Carrier} {x : Int} (h : ((y.refitted rails used).table k).status = .parked x) :
      (y.refitted rails used).table k = y.table k ∧ rails k = y.rails k := by
    obtain ⟨he, hr, -⟩ := refitted_table (y := y) (rails := rails) (used := used) (k := k) (by simp [h])
    exact ⟨he, hr⟩
  have hplaced (hp : y.Placed) : (y.refitted rails used).Placed := by
    have hd := hp.detached hk hf
    refine .atRest (fun k hle => ?_) (fun k => ?_) hplan (hp.raised hd)
    · by_contra h
      obtain ⟨he, -, hlt⟩ := refitted_table h
      have hle' : used ≤ k.val := hle
      refine h (he ▸ hp.unused k (le_trans (Nat.not_lt.1 fun hu => ?_) hle'))
      exact absurd (hlt hu) (Nat.not_lt.2 hle')
    · by_cases hst : ((y.refitted rails used).table k).status = .unknown
      · exact CarrierEntry.not_attached_of_unknown _ hst
      · rw [attached_eq, (refitted_table hst).1]
        exact hd k
  refine ⟨fun h hl => hplaced (h hl), fun h => ⟨fun hl => hplaced (h.placed hl), ?_, ?_, fun hl => ?_⟩⟩
  · exact retainedOk_change (y := y) h.retained _
  · exact storedApart_change_of_parksNone (y := y) h.retained h.stored fun k x hx => (hparked hx).1
  · have hs := h.spaced hl
    refine ⟨fun j k x hne hr hj hx => ?_, fun k x hx => ?_, hs.ordered, fun e he => ?_⟩
    · obtain ⟨hje, hjr⟩ := hparked hj
      obtain ⟨hke, hkr⟩ := hparked hx
      have hr : rails j = rails k := hr
      rw [hjr, hkr] at hr
      exact hs.apart j k x hne hr (hje ▸ hj) (hke ▸ hx)
    · obtain ⟨hke, hkr⟩ := hparked hx
      change _ = rails k
      rw [hke, hkr]
      exact hs.recorded k x (hke ▸ hx)
    · change e ∈ y.plan at he
      rw [hplan] at he
      cases he

theorem OutputsKept.refitted (y : Yarns) (rails : Carrier → Rail) (used : Nat) : y.OutputsKept (y.refitted rails used) :=
  .of_same rfl rfl id (.inl rfl) id fun hr => retainedOk_change (y := y) hr _

/-! ## The queue's ends -/

/-- A course joins the queue's tail (R66). -/
theorem Kept.committed (hl : y.live = true) (x : CourseState × List Carrier) :
    y.Kept { y with courses := y.courses ++ [x] } := by
  refine ⟨⟨fun h => ⟨fun hn => absurd hl (Bool.eq_false_iff.1 hn), h.2⟩, id, id⟩, .of_parksNone id (fun h => ?_) id
    (fun _ ha => ha) (.refl _) rfl id (.refl _)⟩
  rcases hc : y.courses with _ | ⟨a, rest⟩
  · have hnone : y.head = none := by simp [head, hc]
    have hd := h.detached (by simp [hnone]) (by simp [hnone])
    refine .atRest h.unused hd (List.eq_nil_iff_forall_not_mem.2 fun e he => ?_) (h.raised hd)
    simpa [named, hc] using h.locked e he
  · refine h.of_attached rfl rfl rfl rfl (by simp [named, hc]) (fun _ => id) (fun _ => rfl) (fun k hk => ?_) fun k hk => ?_
    · rw [show Yarns.head _ = y.head by simp [head, hc]]; exact h.engaged k hk
    · rw [show Yarns.head _ = y.head by simp [head, hc]]; exact h.held k hk

/-- A QUEUED head course leaves the queue (R75). -/
theorem CarriersKept.unqueued (h : y.head = some .queued) (hplan : y.plan = []) :
    y.CarriersKept { y with courses := y.courses.tail } :=
  .of_parksNone id
    (fun hp => have hd := hp.detached (by simp [h]) (by simp [h]); .atRest hp.unused hd hplan (hp.raised hd)) id
    (fun _ ha => ha) (.refl _) rfl id (.refl _)

theorem OutputsKept.tail (y : Yarns) : y.OutputsKept { y with courses := y.courses.tail } :=
  .of_same rfl rfl (fun hc => by rw [hc]; rfl) (.inl rfl) id id

/-- The queue empty, heads and catchers at rest, no image. -/
def cleared (y : Yarns) : Yarns :=
  { y.imageless with
    courses := []
    pulses := fun h => HeadSequencers.initial.pulses[h]
    lines := fun h => HeadSequencers.initial.lines[h]
    catchers := fun r => catchersRaised[r] }

theorem catchersRaised_get (r : Rail) : catchersRaised[r] = false := by revert r; decide

/-- SOFT_RESET without a stroke in progress (R109, R179). -/
theorem Kept.softReset (h : y.head ≠ some .knitting) : y.Kept (y.change fun _ e => e.dropHeld).cleared := by
  refine ⟨.of_same rfl rfl (fun _ => rfl) (.inl rfl) (fun _ => initial_linesOk) (fun hr => retainedOk_change hr _),
    .of_parksNone id (fun hp => ?_) (fun hr => retainedOk_change hr _)
      (fun hr ha => storedApart_change_of_parksNone hr ha fun k _ => (y.table k).dropHeld_parked)
      (fun k _ => (y.table k).dropHeld_parked) rfl (fun _ => cleared_ordered) (.nil _)⟩
  refine .atRest (fun k hk => (y.table k).dropHeld_unknown (hp.unused k hk)) (fun k => ?_) rfl catchersRaised_get
  refine Bool.or_eq_false_iff.2 ⟨((y.table k).dropHeld_isEngaged).trans ?_, (y.table k).dropHeld_isHeld⟩
  exact Bool.eq_false_iff.2 fun hk => h (hp.engaged k hk)

/-! ## The image and the carrier plan -/

/-- New system extents, their bounds in order (R100). -/
theorem Kept.imaged {extents : System → Option (Nat × Nat)} (h : ∀ (sys : System) (l r : Nat), extents sys = some (l, r) → l ≤ r) :
    y.Kept { y with extents := extents } :=
  ⟨.of_same rfl rfl id (.inl rfl) id id,
    .of_parksNone id (fun hp => hp.of_attached rfl rfl rfl rfl rfl (fun _ => id) (fun _ => rfl) hp.engaged hp.held) id
      (fun _ ha => ha) (.refl _) rfl (fun _ => h) (.refl _)⟩

/-- What the checks of R116 make of a plan: its entries await their catch, one a rail, each named by the head course. -/
structure PlanFits (y : Yarns) (plan : List PlanEntry) : Prop where
  awaiting : ∀ e ∈ plan, e.progress = .awaitingCatch
  oneEach : (plan.map fun e => y.rails e.carrier).Nodup
  named : ∀ e ∈ plan, e.carrier ∈ y.named

/-- The release points of a plan are free on their rails (R117, R118). -/
def planFree (y : Yarns) (plan : List PlanEntry) : Prop :=
  ∀ e ∈ plan, ∀ j : Carrier, j ≠ e.carrier → y.rails j = y.rails e.carrier → (y.table j).status ≠ .parked e.release

/-- The plan of an ARMING course (R119). -/
theorem Kept.planned (h : y.head = some .arming) {plan : List PlanEntry} (hfits : y.PlanFits plan)
    (hfree : y.Placed → y.Spaced → y.planFree plan) : y.Kept (y.withPlan plan) := by
  have hplaced (hp : y.Placed) : (y.withPlan plan).Placed := by
    have hd := hp.detached (by simp [h]) (by simp [h])
    refine ⟨hp.unused, hp.engaged, hp.held, fun k => ?_, hfits.oneEach, hfits.named, hp.lowered⟩
    rw [show (y.withPlan plan).attached k = false from hd k]
    refine ⟨nofun, ?_⟩
    rintro ⟨e, he, -, hcarrying⟩
    rw [hfits.awaiting e he] at hcarrying
    cases hcarrying
  refine ⟨.of_same rfl rfl id (.inl rfl) id id, fun hp hl => hplaced (hp hl), fun hp => ?_⟩
  refine ⟨fun hl => hplaced (hp.placed hl), hp.retained, hp.stored, fun hl => ?_⟩
  have hs := hp.spaced hl
  exact ⟨hs.apart, hs.recorded, hs.ordered, fun e he _ => hfree (hp.placed hl) hs e he⟩

/-! ## Inputs and power -/

/-- STOP_IN and the latch together (R159, R160, R180). -/
theorem Kept.inputs {stopIn latch : Bool} (hrun : y.phase = .running → stopIn = true → latch = true)
    (hheld : y.phase = .held → latch = stopIn) : y.Kept { y with stopIn := stopIn, latch := latch } :=
  ⟨⟨fun h => ⟨h.1, hrun, hheld⟩, id, id⟩, .of_same rfl rfl rfl rfl rfl rfl rfl rfl rfl id id⟩

/-- A part that is not live has an empty queue; of its carriers only the retained contents count (R180). -/
theorem Kept.down (hl : z.live = false) (hc : z.courses = []) (hheld : z.phase = .held → z.latch = z.stopIn)
    (hlines : z.linesOk) (hretained : y.retainedOk → z.retainedOk) (hstored : y.storedApart → z.storedApart) : y.Kept z := by
  have hnot : z.live ≠ true := Bool.eq_false_iff.1 hl
  refine ⟨⟨fun _ => ⟨fun _ => hc, fun hp => ?_, hheld⟩, fun _ => hlines, hretained⟩, fun _ h => absurd h hnot, fun h => ?_⟩
  · simp [live, hp] at hl
  · exact ⟨fun hl => absurd hl hnot, hretained h.retained, hstored h.stored, fun hl => absurd hl hnot⟩

/-- The start-up: each entry is lost, or it is the retained one, PARKED on its carrier's rail (R108, R180). -/
theorem Kept.startedUp {cs : Vector CarrierEntry 16} {r : Option ResumeRecord} (hphase : z.phase = .startUp)
    (hcourses : z.courses = []) (hlines : z.linesOk) (hraised : ∀ rail, z.catchers rail = false) (hplan : z.plan = [])
    (hextents : z.extents = fun sys => StrokeImage.cleared.extents[sys])
    (hstored : z.stored = y.contents y.writes.length) (hwrites : z.writes = [.recovered cs r])
    (htable : z.table = fun k => cs[k])
    (hentry : ∀ k, (z.table k).status = .unknown ∨
      z.table k = z.stored k ∧ k.val < z.used ∧ (z.table k).rail = z.rails k ∧ ∃ x, (z.table k).status = .parked x) :
    y.Kept z := by
  have hfrom {k : Carrier} {x : Int} (hk : (z.table k).status = .parked x) :
      z.table k = z.stored k ∧ (z.table k).rail = z.rails k := by
    rcases hentry k with hu | ⟨he, -, hr, -⟩
    · simp [hu] at hk
    · exact ⟨he, hr⟩
  have hretained : z.retainedOk := by rw [retainedOk, hwrites, htable]; rfl
  have hplaced : z.Placed := by
    refine .atRest (fun k hk => ?_) (fun k => ?_) hplan hraised
    · rcases hentry k with hu | ⟨-, hlt, -⟩
      · exact hu
      · exact absurd hlt (Nat.not_lt.2 hk)
    · rcases hentry k with hu | ⟨-, -, -, x, hx⟩
      · exact CarrierEntry.not_attached_of_unknown _ hu
      · exact CarrierEntry.not_attached_of_parked _ hx
  refine ⟨⟨fun _ => ⟨fun _ => hcourses, by simp [hphase], by simp [hphase]⟩, fun _ => hlines, fun _ => hretained⟩,
    fun _ _ => hplaced, fun h => ?_⟩
  have hold : tableApart z.stored := by rw [hstored]; exact h.stored _
  have hnew : tableApart z.table := fun i j x hne hrail hi hj => by
    rw [(hfrom hi).1, (hfrom hj).1] at hrail
    exact hold i j x hne hrail ((hfrom hi).1 ▸ hi) ((hfrom hj).1 ▸ hj)
  refine ⟨fun _ => hplaced, hretained, fun n => ?_, fun _ => ⟨fun i j x hne hrail hi hj => ?_, fun k x hk => (hfrom hk).2, ?_, ?_⟩⟩
  · rw [contents, hwrites]
    cases n with
    | zero => exact hold
    | succ n =>
      rw [List.take_succ_cons, List.take_nil]
      change tableApart fun k => cs[k]
      rwa [← htable]
  · rw [← (hfrom hi).2, ← (hfrom hj).2] at hrail
    exact hnew i j x hne hrail hi hj
  · rw [hextents]; exact cleared_ordered
  · rw [hplan]; exact fun e he => absurd he (by simp)

end Sys2Proof.Machine.Yarns
end

section
/-! O26. SET_CARRIER and SET_CARRIER_LIMIT, and the locks on carriers and rails (R107, R111, R112, R114). -/

namespace Sys2Proof.Machine

variable {s : State} {k : Carrier}

/-! ## The locks (R114) -/

theorem State.carrierLocked_iff : s.carrierLocked k = true ↔ s.pastQueued = true ∧ ∃ c, s.head? = some c ∧ k ∈ c.carriers := by
  rw [State.carrierLocked, Bool.and_eq_true]
  refine and_congr_right fun _ => ?_
  rcases s.head? with _ | c <;> simp

theorem State.railLocked_iff {r : Rail} : s.railLocked r = true ↔ ∃ k : Carrier, s.carrierLocked k = true ∧ s.railOf k = r := by
  simp [State.railLocked, mem_allCarriers]

/-- A carrier is locked while the head course names it and is past QUEUED (R114). -/
theorem State.carrierLocked_iff_named : s.carrierLocked k = true ↔ ∃ c cs, s.queue.courses = c :: cs ∧ c.state ≠ .queued ∧
    ∃ e ∈ c.entries, e.carrier = some k := by
  rw [State.carrierLocked_iff, ← Bool.not_eq_false, State.pastQueued_eq_false]
  rcases h : s.queue.courses with _ | ⟨c, cs⟩ <;> simp [State.head?, h, Course.carriers, List.mem_filterMap]

/-! ## SET_CARRIER -/

theorem State.positionTaken_iff {x : Int} : s.positionTaken k x = true ↔
    ∃ j : Carrier, j ≠ k ∧ s.railOf j = s.railOf k ∧ s.carriers[j].status = .parked x := by
  simp [State.positionTaken, mem_allCarriers, CarrierEntry.parkedAt_eq_some, and_assoc]

theorem State.inUse_iff : s.inUse k = true ↔ k.val < s.geo.record.carriers := decide_eq_true_iff

theorem exec_setCarrier (h : s.open) {carrier : Byte} {position : BitVec 16} {r : ResultCode} {t : State}
    (ho : ownSetCarrier carrier position s.loadBroken = (r, t)) : exec (.setCarrier .fits carrier position) s =
      .next (t.withPatternPort ⟨r, none, t.patternPort.lastResult.code :: zeros 3⟩) :=
  congrArg _ (takeWrite_pattern (breaks := true) h rfl ho)

/-- The own rule of SET_CARRIER for a number in 1..16, its checks in order (R111). -/
theorem ownSetCarrier_eq {carrier : Byte} (hk : carrier.toNat = k.val + 1) (position : BitVec 16) :
    ownSetCarrier carrier position s =
      if s.inUse k = false then (.range, s)
      else if s.railLocked (s.railOf k) then (.inUse, s)
      else if s.positionTaken k (s.geo.record.clampPosition position.toInt) then (.range, s)
      else (.ok, s.changeCarrier k fun _ => ⟨.parked (s.geo.record.clampPosition position.toInt), s.railOf k⟩) := by
  simp only [ownSetCarrier, Carrier.ofNumber_eq_some.2 hk]

/-- Where one entry alone may differ, it is the one change to be written (R107; log 14). -/
theorem tableChanges_one {old new : Carrier → CarrierEntry} (h : ∀ j, j ≠ k → new j = old j) :
    tableChanges old new allCarriers = if new k = old k then [] else [.carrier k (new k)] := by
  obtain ⟨pre, post, hall⟩ := List.append_of_mem (mem_allCarriers k)
  have hnodup : (pre ++ k :: post).Nodup := hall ▸ (by decide : allCarriers.Nodup)
  have hother (j : Carrier) (hj : j ∈ pre ++ post) : j ≠ k := by
    rintro rfl
    exact (List.nodup_cons.1 (List.nodup_middle.1 hnodup)).1 hj
  have hnil (l : List Carrier) (hl : ∀ j ∈ l, j ∈ pre ++ post) : tableChanges old new l = [] :=
    List.filterMap_eq_nil_iff.2 fun j hj => if_pos (h j (hother j (hl j hj)))
  have hparts : tableChanges old new allCarriers =
      tableChanges old new pre ++ (tableChanges old new [k] ++ tableChanges old new post) := by
    simp only [tableChanges, hall, ← List.filterMap_append, List.singleton_append]
  rw [hparts, hnil pre fun j hj => List.mem_append_left _ hj, hnil post fun j hj => List.mem_append_right _ hj]
  by_cases hk : new k = old k <;> simp [tableChanges, hk]

theorem State.changeCarrier_retained (f : CarrierEntry → CarrierEntry) : (s.changeCarrier k f).retained =
    { s.retained with
      writes := s.retained.writes ++
        if s.carriers[k] = f s.carriers[k] then [] else [.carrier k (f s.carriers[k])] } := by
  have hwrites : (s.changeCarrier k f).retained.writes = s.retained.writes ++ tableChanges s.yarns.table
      (fun j => if j = k then f (s.yarns.table j) else s.yarns.table j) allCarriers :=
    congrArg Yarns.writes (s.changeCarrier_yarns k f)
  rw [tableChanges_one (k := k) fun j hj => if_neg hj, if_pos rfl] at hwrites
  rw [show (s.changeCarrier k f).retained = { s.retained with writes := (s.changeCarrier k f).retained.writes } from rfl,
    hwrites]
  simp only [eq_comm (a := f _)]
  rfl

theorem State.placed_carriers (f : CarrierEntry → CarrierEntry) (p : PortState) (j : Carrier) :
    ((s.loadBroken.changeCarrier k f).withPatternPort p).carriers[j] = if j = k then f s.carriers[j] else s.carriers[j] := by
  rw [State.withPatternPort_carriers, State.changeCarrier_get]
  rfl

theorem State.placed_retained (f : CarrierEntry → CarrierEntry) (p : PortState) :
    ((s.loadBroken.changeCarrier k f).withPatternPort p).retained =
      { s.retained with
        writes := s.retained.writes ++
          if s.carriers[k] = f s.carriers[k] then [] else [.carrier k (f s.carriers[k])] } := by
  rw [State.withPatternPort_retained, State.changeCarrier_retained]
  rfl

theorem State.placed_sameBut (f : CarrierEntry → CarrierEntry) (p : PortState) :
    ((s.loadBroken.changeCarrier k f).withPatternPort p).sameBut s [.carriers, .retained, .load, .patternPort] := by
  intro b hb
  cases b <;> simp_all [Block.same, State.loadBroken]

/-! ## SET_CARRIER_LIMIT -/

theorem exec_setCarrierLimit (h : s.open) {carrier speed : Byte} {r : ResultCode} {t : State}
    (ho : ownSetCarrierLimit carrier speed s.loadBroken = (r, t)) : exec (.setCarrierLimit .fits carrier speed) s =
      .next (t.withPatternPort ⟨r, none, t.patternPort.lastResult.code :: zeros 2⟩) :=
  congrArg _ (takeWrite_pattern (breaks := true) h rfl ho)

/-- The own rule of SET_CARRIER_LIMIT for a number in 1..16 (R112). -/
theorem ownSetCarrierLimit_eq {carrier : Byte} (hk : carrier.toNat = k.val + 1) (speed : Byte) :
    ownSetCarrierLimit carrier speed s =
      if s.carrierLocked k then (.inUse, s)
      else (.ok, s.withGeo { s.geo with
        record := { s.geo.record with carrierCap := s.geo.record.carrierCap.set k.val (clampClass speed) } }) := by
  simp only [ownSetCarrierLimit, Carrier.ofNumber_eq_some.2 hk]

theorem Carrier.ofNumber_eq_none {n : Nat} (h : n = 0 ∨ 16 < n) : Carrier.ofNumber n = none := by
  rw [Carrier.ofNumber, dif_neg (by omega)]

/-- Settles O26, from the checks of each command in order and from the locks as the head course gives them. -/
theorem carrierCommands : Obligations.CarrierCommands := by
  refine ⟨⟨?_, ?_, ?_, ?_⟩, fun s => ⟨fun k => State.carrierLocked_iff_named, fun r => State.railLocked_iff⟩⟩
  · intro s carrier position k x h hk hused hx
    have hown := ownSetCarrier_eq (s := s.loadBroken) hk position
    rw [if_neg (by rw [Bool.not_eq_false]; exact State.inUse_iff.2 hused),
      show s.loadBroken.geo.record.clampPosition position.toInt = x by rw [hx, ← Geometry.clampPosition_eq]; rfl]
      at hown
    have hlock : s.loadBroken.railLocked (s.loadBroken.railOf k) = s.railLocked (s.railOf k) := rfl
    rw [hlock] at hown
    refine ⟨fun hl => ?_, fun hl htaken => ?_, fun hl hfree => ?_⟩
    · rw [if_pos hl] at hown
      exact exec_setCarrier h hown
    · rw [if_neg (Bool.eq_false_iff.1 hl), if_pos (State.positionTaken_iff (s := s.loadBroken).2 htaken)] at hown
      exact exec_setCarrier h hown
    · rw [if_neg (Bool.eq_false_iff.1 hl), if_neg fun ht => by
        obtain ⟨j, hj, hr, hp⟩ := State.positionTaken_iff.1 ht
        exact hfree j hj hr hp] at hown
      exact ⟨_, exec_setCarrier h hown, State.placed_carriers _ _, State.placed_retained _ _, rfl, rfl,
        State.placed_sameBut _ _⟩
  · intro s carrier position h hout
    refine exec_setCarrier (t := s.loadBroken) h ?_
    by_cases hn : carrier.toNat = 0 ∨ 16 < carrier.toNat
    · rw [ownSetCarrier, Carrier.ofNumber_eq_none hn]
    · obtain ⟨k, hk⟩ : ∃ k : Carrier, carrier.toNat = k.val + 1 := ⟨⟨carrier.toNat - 1, by omega⟩, by simp only; omega⟩
      rw [ownSetCarrier_eq hk, if_pos]
      rw [Bool.eq_false_iff, ne_eq, State.inUse_iff]
      change ¬ k.val < s.geo.record.carriers
      omega
  · intro s carrier speed k h hk
    have hown := ownSetCarrierLimit_eq (s := s.loadBroken) hk speed
    rw [show s.loadBroken.carrierLocked k = s.carrierLocked k from rfl] at hown
    refine ⟨fun hl => ?_, fun hl => ⟨s.geo.record.carrierCap.set k.val (clampClass speed), fun j => ?_, ?_⟩⟩
    · rw [if_pos hl] at hown
      exact exec_setCarrierLimit h hown
    · rw [Fin.getElem_fin, Vector.getElem_set, clampClass_eq]
      simp only [Fin.ext_iff, eq_comm (a := j.val)]
      rfl
    · rw [if_neg (Bool.eq_false_iff.1 hl)] at hown
      exact exec_setCarrierLimit h hown
  · intro s carrier speed h hout
    refine exec_setCarrierLimit (t := s.loadBroken) h ?_
    rw [ownSetCarrierLimit, Carrier.ofNumber_eq_none hout]

end Sys2Proof.Machine
end

section
/-! O57, O58. Every step keeps carriers, catchers and plan in agreement, PARKED carriers apart, and the outputs true to what
they follow: each command's own rule and each event, over the view. -/

namespace Sys2Proof.Machine

/-! ## The relation of a step -/

/-- The invariants of O58 carried from a state to a next one; those of O57 carried where what a course past QUEUED rests on
and holds stands as O56 says. -/
structure YarnsHeld (s t : State) : Prop where
  outputs : s.yarns.OutputsKept t.yarns
  carriers : s.standing.strokeOk → s.standing.locksOk → s.yarns.CarriersKept t.yarns

variable {s t u : State}

theorem YarnsKept.held (h : YarnsKept s t) : YarnsHeld s t := ⟨h.outputs, fun _ _ => h.carriers⟩

theorem YarnsHeld.of_eq (h : t.yarns = s.yarns) : YarnsHeld s t := (YarnsKept.of_eq h).held

/-- The relation that every step keeps, with that of O56 beside it. -/
def StepKept (s t : State) : Prop := ConditionsKept s t ∧ YarnsHeld s t

theorem StepKept.trans (h : StepKept s t) (h' : StepKept t u) : StepKept s u := by
  obtain ⟨hc, hy⟩ := h
  obtain ⟨hc', hy'⟩ := h'
  exact ⟨hc.trans hc', hy.outputs.trans hy'.outputs, fun hs hl =>
    (hy.carriers hs hl).trans (hy'.carriers (hc.1 hs) (hc.2 hs hl))⟩

theorem StepKept.frameFree : FrameFree StepKept where
  refl s := ⟨ConditionsKept.frameFree.refl s, .of_eq rfl⟩
  trans := .trans
  port s p x := ⟨ConditionsKept.frameFree.port s p x, .of_eq (s.withPort_yarns p x)⟩
  breakLoad s b := ⟨ConditionsKept.frameFree.breakLoad s b, .of_eq (s.breakLoad_yarns b)⟩
  pending s x := ⟨ConditionsKept.frameFree.pending s x, .of_eq rfl⟩

theorem FrameForm.Keeps.and {R R' : State → State → Prop} {w : FrameForm} (h : w.Keeps R) (h' : w.Keeps R') :
    w.Keeps fun s t => R s t ∧ R' s t := by
  cases w with
  | write f breaks own e => exact fun u hu => ⟨h u hu, h' u hu⟩
  | read f exempt breaks form finish frame => exact fun formed u hu => ⟨h formed u hu, h' formed u hu⟩
  | unknown port e => trivial

/-! ## What the standing tells of the view -/

theorem State.standing_head_eq (s : State) : s.standing.head = s.yarns.head := by
  rw [State.standing_head, State.yarns_head]

/-- Without a course past QUEUED there is no image (R87). -/
theorem State.image_cleared (hl : s.standing.locksOk) (hq : s.standing.head = none ∨ s.standing.head = some .queued) :
    s.image = .cleared := by
  have hu : s.standing.unlocked = true := by
    unfold Standing.locksOk at hl
    rcases hq with hq | hq <;> (rw [hq] at hl; exact hl.1)
  simp only [State.standing, State.unlocked, decide_eq_true_eq] at hu
  obtain ⟨-, -, himage⟩ := hu
  exact himage

theorem State.plan_nil (hl : s.standing.locksOk) (hq : s.standing.head = none ∨ s.standing.head = some .queued) :
    s.yarns.plan = [] := by
  change s.image.plan = []
  rw [State.image_cleared hl hq]
  rfl

/-! ## The rules of the commands -/

theorem YarnsHeld.ownSetCarrier (carrier : Byte) (position : BitVec 16) (ho : s.open) :
    YarnsHeld s (ownSetCarrier carrier position s).2 := by
  unfold Machine.ownSetCarrier
  split
  · exact .of_eq rfl
  · next k _ =>
    dsimp only
    split_ifs with hu hl ht
    case neg =>
      have hview := s.changeCarrier_yarns k fun _ => ⟨.parked (s.geo.record.clampPosition position.toInt), s.railOf k⟩
      refine ⟨?_, fun hs hlocks => ?_⟩ <;> rw [hview]
      · exact .of_same rfl rfl id (.inl rfl) id fun hr => Yarns.retainedOk_change hr _
      · refine .parkedAt (y := s.yarns) (State.open_live ho) (State.inUse_iff.1 (by simpa using hu)) (fun j hj hr hp => ht ?_)
          fun hplaced e he hr => hl (State.railLocked_iff.2 ⟨e.carrier, State.carrierLocked_iff.2 ⟨?_, ?_⟩, hr⟩)
        · exact State.positionTaken_iff.2 ⟨j, hj, hr, hp⟩
        · by_contra hq
          have hnil := State.plan_nil hlocks (State.head_of_not_pastQueued (Bool.eq_false_iff.2 hq))
          rw [hnil] at he
          cases he
        · exact State.mem_named.1 (hplaced.locked e he)
    all_goals exact .of_eq rfl

theorem YarnsHeld.ownSetGeometryField (field index : Byte) (value : BitVec 32) (s : State) :
    YarnsHeld s (ownSetGeometryField field index value s).2 := by
  unfold Machine.ownSetGeometryField
  split
  · exact .of_eq rfl
  · next hm =>
    split
    · next g _ =>
      have hview : ((s.withGeo { s.geo with record := g }).geometryChanged s.geo.record).yarns =
          s.yarns.refitted (fun k => g.carrierRail[k]) g.carriers := State.changeCarriers_yarns _ _
      refine ⟨?_, fun hs hl => ?_⟩ <;> rw [hview]
      · exact .refitted _ _ _
      · have hq : s.standing.head = none ∨ s.standing.head = some .queued := by
          refine State.head_of_not_pastQueued (Bool.eq_false_iff.2 fun hp => hm ?_)
          obtain ⟨-, -, hready, -⟩ := State.strokeOk_iff.2 hs
          exact (hready hp).1
        have hplan := State.plan_nil hl hq
        rw [State.standing_head_eq] at hq
        exact .refitted (by rcases hq with hq | hq <;> simp [hq]) (by rcases hq with hq | hq <;> simp [hq]) hplan _ _
    · exact .of_eq rfl

/-- What the review of GO_ONLINE makes of an entry (R6). -/
def CarrierEntry.reviewed (n : Nat) (e : CarrierEntry) : CarrierEntry :=
  match e.status with
  | .parked p => if p < -32 ∨ (n : Int) + 31 < p then e.lost else e
  | _ => e

namespace CarrierEntry
variable (n : Nat) (e : CarrierEntry)

/-- A review leaves an entry, or loses a PARKED one. -/
theorem reviewed_cases : e.reviewed n = e ∨ (∃ x, e.status = .parked x) ∧ e.reviewed n = e.lost := by
  unfold CarrierEntry.reviewed
  split
  · next p hp =>
    split
    · exact .inr ⟨⟨p, hp⟩, rfl⟩
    · exact .inl rfl
  · exact .inl rfl

theorem reviewed_isEngaged : (e.reviewed n).isEngaged = e.isEngaged := by
  rcases e.reviewed_cases n with h | ⟨⟨x, hx⟩, h⟩ <;> simp [*, isEngaged, lost]
theorem reviewed_isHeld : (e.reviewed n).isHeld = e.isHeld := by
  rcases e.reviewed_cases n with h | ⟨⟨x, hx⟩, h⟩ <;> simp [*, isHeld, lost]
theorem reviewed_unknown (hu : e.status = .unknown) : (e.reviewed n).status = .unknown := by
  rcases e.reviewed_cases n with h | ⟨-, h⟩ <;> simp [h, hu, lost]
theorem reviewed_parked {x : Int} (hp : (e.reviewed n).status = .parked x) : e.reviewed n = e := by
  rcases e.reviewed_cases n with h | ⟨-, h⟩
  · exact h
  · simp [h, lost] at hp

end CarrierEntry

theorem YarnsKept.reviewCarriers (s : State) : YarnsKept s s.reviewCarriers :=
  .of_yarns (y := s.yarns.change fun _ e => e.reviewed s.geo.record.bedNeedles) (State.changeCarriers_yarns _ _)
    (.adjusted (fun e => e.reviewed_isEngaged _) (fun e => e.reviewed_isHeld _) (fun e => e.reviewed_unknown _)
      fun e _ => e.reviewed_parked _)

end Sys2Proof.Machine
end

section
/-! O57, O58. The other commands, the stages of arming and the events, over the view. -/

namespace Sys2Proof.Machine

variable {s t u : State}

/-! ## The queue's ends and SOFT_RESET -/

theorem YarnsKept.ownCommitCourse (record : CourseFrame) (ho : s.open) : YarnsKept s (ownCommitCourse record s).2 := by
  unfold Machine.ownCommitCourse
  split
  · exact .of_eq rfl
  · next c _ =>
    split
    · exact .of_eq rfl
    · refine .of_yarns ?_ (.committed (y := s.yarns) (State.open_live ho) c.yarns)
      rw [State.withPatternReasons_yarns, State.withQueue_yarns, List.map_append]
      rfl

theorem YarnsHeld.ownDiscardHead (s : State) : YarnsHeld s (ownDiscardHead s).2 := by
  unfold Machine.ownDiscardHead
  split
  · exact .of_eq rfl
  · next h =>
    have hview : ((s.withQueue { s.queue with courses := s.queue.courses.tail }).clearHeadRefused).yarns =
        { s.yarns with courses := s.yarns.courses.tail } :=
      congrArg (fun l => { s.yarns with courses := l }) List.map_tail
    have hq : s.standing.head = some .queued := by rw [State.standing_head, h]
    refine ⟨?_, fun _ hl => ?_⟩ <;> rw [hview]
    · exact .tail _
    · exact .unqueued ((s.standing_head_eq).symm.trans hq) (State.plan_nil hl (.inr hq))
  · next h => exact (YarnsKept.trans (.discardFaulted (State.head_of_map h)) (.of_eq (State.clearHeadRefused_yarns _))).held
  · exact .of_eq rfl

theorem YarnsKept.ownSoftReset (s : State) : YarnsKept s (ownSoftReset s).2 := by
  unfold Machine.ownSoftReset
  split
  · exact .of_eq rfl
  · next h =>
    have hview : s.softReset.yarns = (s.yarns.change fun _ e => e.dropHeld).cleared := by
      simp only [State.softReset, State.withPatternPort_yarns, State.withDriveReasons_yarns, State.withPatternReasons_yarns,
        State.withStops_yarns, State.withSupply_yarns, State.withHeads_yarns, State.withArm_yarns, State.withQueue_yarns,
        State.withPtrs_yarns, State.withLoad_yarns, State.releaseCourse_yarns, State.withPos_yarns, State.withGeo_yarns,
        State.withCatchers_yarns, State.changeCarriers_yarns]
      rfl
    refine .of_yarns hview (.softReset fun hk => h ?_)
    rw [State.headIs_yarns.2 hk, Bool.or_true]

/-! ## The stroke -/

theorem State.enterArming_yarns (s : State) : s.enterArming.yarns = s.yarns.headTo .arming :=
  s.changeHead_yarns_to (f := fun c => { c with state := .arming, grant := none }) fun _ => rfl

theorem State.refuseArming_yarns (s : State) (tag : BitVec 16) (r : ArmingRefusal) (n : Nat) :
    (s.refuseArming tag r n).yarns = s.yarns.requeued := by
  have hsame := s.changeHead_yarns (f := fun c => { c with lastRefusal := some ⟨r, n⟩ }) fun _ => rfl
  rw [State.refuseArming, State.raiseOutcome_yarns, State.withArm_yarns, State.returnToQueued_yarns, hsame]

theorem YarnsKept.ownRequestStroke (s : State) : YarnsKept s (ownRequestStroke s).2 := by
  unfold Machine.ownRequestStroke
  split
  · exact .of_eq rfl
  · split
    · exact .of_eq rfl
    · next c hc =>
      split
      · exact .of_eq rfl
      · next hq =>
        have hqueued : s.yarns.head = some .queued := by
          rw [State.yarns_head, hc, Option.map_some, not_not.1 hq]
        have harm : YarnsKept s s.enterArming :=
          .of_yarns s.enterArming_yarns (.headTo (by simp [hqueued]) (by simp [hqueued]) .arming)
        split
        · refine harm.trans (.of_yarns (State.refuseArming_yarns _ _ _ _) (.requeued (.inl ?_)))
          rw [State.enterArming_yarns]
          exact Yarns.headTo_head hqueued
        · exact harm

theorem YarnsKept.ownBeginStroke (ho : s.open) : YarnsKept s (ownBeginStroke s).2 := by
  unfold Machine.ownBeginStroke
  split_ifs with ha hl hv hs
  case neg =>
    split
    · exact .of_eq rfl
    · split_ifs
      · have harmed : s.yarns.head = some .armed := State.headIs_yarns.1 (by simpa using ha)
        have hto := s.changeHead_yarns_to (f := fun c => { c with state := .knitting }) (st := .knitting) fun _ => rfl
        exact .trans (.of_yarns hto (.headTo (by simp [harmed]) (by simp [harmed]) .knitting))
          (.after (.examineCompletion (State.open_live ho)) rfl)
      · exact .of_eq rfl
  all_goals exact .of_eq rfl

theorem YarnsKept.reportBroken (s : State) (l : List Carrier) : YarnsKept s (s.reportBroken l) := by
  unfold State.reportBroken
  split
  · exact .of_eq rfl
  · exact .after (.strokeFault _ _ _ _) rfl

theorem YarnsKept.resume (hl : s.live = true) (hf : s.headIs .faulted = true) (r : StrokeRecord) :
    YarnsKept s (s.resume r) := by
  have hto := s.changeHead_yarns_to (f := fun c => { c with state := .knitting }) (st := .knitting) fun _ => rfl
  have hkept := Yarns.Kept.resumed (State.headIs_yarns.1 hf)
    (s.geo.record.clampPosition (catcherIndex s.geo.record r.direction s.pos.count))
  refine .trans (.of_yarns ?_ hkept) (.trans (.reportBroken _ _) (.examineCompletion ?_))
  · rw [State.withHeads_yarns, State.withPos_yarns, State.changeCarriers_yarns, hto]
    rfl
  · simpa [State.live] using hl

theorem YarnsKept.ownResumeStroke (ho : s.open) : YarnsKept s (ownResumeStroke s).2 := by
  unfold Machine.ownResumeStroke
  split
  · exact .of_eq rfl
  · next hf =>
    split
    · split_ifs
      case neg => exact .resume (State.open_live ho) (by simpa using hf) _
      all_goals exact .of_eq rfl
    · exact .of_eq rfl

theorem YarnsKept.ownAbandonStroke (s : State) : YarnsKept s (ownAbandonStroke s).2 := by
  unfold Machine.ownAbandonStroke
  split
  · exact .of_eq rfl
  · exact .of_eq rfl
  · exact .of_eq rfl
  · next h => exact .returnToQueued (.inl (State.head_of_map h))
  · next h => exact .returnToQueued (.inr (State.head_of_map h))
  · next h => exact .discardFaulted (State.head_of_map h)

/-- CLEAR_STOP clears the latch only with STOP_IN released (R161). -/
theorem YarnsKept.ownClearStop (ho : s.open) : YarnsKept s (ownClearStop s).2 := by
  unfold Machine.ownClearStop
  split
  · exact .of_eq rfl
  · next h =>
    obtain ⟨hstop, -⟩ : s.pins.stopIn = false ∧ s.heldYarnBroken = false := by simpa using h
    refine .of_yarns (y := { s.yarns with stopIn := s.pins.stopIn, latch := false }) rfl (.inputs ?_ ?_)
    · rw [hstop]; exact fun _ => nofun
    · exact fun hp => absurd (ho.1.symm.trans hp) (by decide)

theorem YarnsKept.ownGoOnline (s : State) : YarnsKept s (ownGoOnline s).2 := by
  unfold Machine.ownGoOnline
  split
  · exact .of_eq rfl
  · split
    · exact .after (.reviewCarriers _) rfl
    · exact .of_eq rfl

theorem YarnsKept.ownClearResumeRecord (s : State) : YarnsKept s (ownClearResumeRecord s).2 := by
  have hkept : s.yarns.Kept { s.yarns with writes := s.yarns.writes ++ [.clearResume] } := .queued fun _ => rfl
  unfold Machine.ownClearResumeRecord
  split
  · exact .of_eq rfl
  · dsimp only
    split <;> exact .of_yarns rfl hkept

/-! ## Rules that leave the view -/

theorem ownWriteRow_yarns (row start : BitVec 16) (data : List Byte) (s : State) :
    (ownWriteRow row start data s).2.yarns = s.yarns := by
  unfold ownWriteRow; split <;> [(split <;> rfl); rfl]

theorem ownRowContinue_yarns (data : List Byte) (s : State) : (ownRowContinue data s).2.yarns = s.yarns := by
  unfold ownRowContinue; split <;> rfl

theorem ownWriteTechnique_yarns (table colour front back parity : Byte) (s : State) :
    (ownWriteTechnique table colour front back parity s).2.yarns = s.yarns := by
  unfold ownWriteTechnique; split <;> [(split <;> rfl); rfl]

theorem ownSetPointer_yarns (pointer : Byte) (current low high : BitVec 16) (mode step : Byte) (s : State) :
    (ownSetPointer pointer current low high mode step s).2.yarns = s.yarns := by
  unfold ownSetPointer; split <;> rfl

theorem ownSetCarrierLimit_yarns (carrier speed : Byte) (s : State) :
    (ownSetCarrierLimit carrier speed s).2.yarns = s.yarns := by
  unfold ownSetCarrierLimit; split <;> [rfl; (split <;> rfl)]

theorem ownSetRacking_yarns (racking : Byte) (s : State) : (ownSetRacking racking s).2.yarns = s.yarns := by
  unfold ownSetRacking; split <;> [rfl; (split <;> rfl)]

theorem ownGoOffline_yarns (s : State) : (ownGoOffline s).2.yarns = s.yarns := by
  unfold ownGoOffline; split <;> rfl

theorem ownStoreSettings_yarns (s : State) : (ownStoreSettings s).2.yarns = s.yarns := by
  unfold ownStoreSettings; split <;> rfl

theorem ownHomeArm_yarns (s : State) : (ownHomeArm s).2.yarns = s.yarns := by
  unfold ownHomeArm; split <;> rfl

theorem ownActuatorsOn_yarns (s : State) : (ownActuatorsOn s).2.yarns = s.yarns := by
  unfold ownActuatorsOn; split <;> [rfl; (split <;> rfl)]

theorem ownActuatorsOff_yarns (s : State) : (ownActuatorsOff s).2.yarns = s.yarns := by
  unfold ownActuatorsOff; split <;> rfl

theorem clearShown_yarns (c : Carried) (s : State) : (clearShown c s).yarns = s.yarns := by
  unfold clearShown; split <;> rfl

theorem clearFault_yarns (p : Port) (c : Carried) (s : State) : (clearFault p c s).yarns = s.yarns := by
  unfold clearFault; split <;> [(split <;> rfl); rfl]

theorem clearOutcomeReason_yarns (c : Carried) (s : State) : (clearOutcomeReason c s).yarns = s.yarns := by
  unfold clearOutcomeReason; split <;> rfl

theorem finishFetch_yarns (formed : Formed) (s : State) : (finishFetch formed s).2.yarns = s.yarns := by
  unfold finishFetch; split <;> rfl

theorem YarnsHeld.frameFree : FrameFree fun s t => s.yarns = t.yarns where
  refl _ := rfl
  trans := Eq.trans
  port s p x := (s.withPort_yarns p x).symm
  breakLoad s b := (s.breakLoad_yarns b).symm
  pending _ _ := rfl

/-- A rule that leaves the view. -/
theorem FrameForm.Keeps.held {w : FrameForm} (h : w.Keeps fun s t => s.yarns = t.yarns) : w.Keeps YarnsHeld := by
  cases w with
  | write f breaks own e => exact fun u hu => .of_eq (h u hu).symm
  | read f exempt breaks form finish frame => exact fun formed u hu => .of_eq (h formed u hu).symm
  | unknown port e => trivial

theorem YarnsHeld.frameForm {c : Instr} {w : FrameForm} (h : frameForm c = some w) : w.Keeps YarnsHeld := by
  cases c with
  | readStatus port frame => cases h; exact fun _ u _ => .of_eq (clearShown_yarns _ u)
  | readFault port frame => cases h; exact fun _ u _ => .of_eq (clearFault_yarns _ _ u)
  | readGrant frame => cases h; exact fun _ u _ => .of_eq (clearOutcomeReason_yarns _ u)
  | fetchCompletion frame => cases h; exact fun formed u _ => .of_eq (finishFetch_yarns formed u)
  | exchangeCell frame row cell colour => cases h; exact fun _ _ _ => .of_eq rfl
  | conditionalExchangeCell frame row cell expected new => cases h; exact fun _ _ _ => .of_eq rfl
  | softReset port e => cases h; exact fun u _ => (YarnsKept.ownSoftReset u).held
  | writeRow e row start data => cases h; exact fun u _ => .of_eq (ownWriteRow_yarns row start data u)
  | rowContinue e data => cases h; exact fun u _ => .of_eq (ownRowContinue_yarns data u)
  | setPointer e p current low high mode step =>
    cases h; exact fun u _ => .of_eq (ownSetPointer_yarns p current low high mode step u)
  | setGeometryField e field index value => cases h; exact fun u _ => .ownSetGeometryField field index value u
  | setCarrierLimit e carrier speed => cases h; exact fun u _ => .of_eq (ownSetCarrierLimit_yarns carrier speed u)
  | setRacking e racking => cases h; exact fun u _ => .of_eq (ownSetRacking_yarns racking u)
  | setSpeedCap e speed => cases h; exact fun _ _ => .of_eq rfl
  | writeTechnique e table colour front back parity =>
    cases h; exact fun u _ => .of_eq (ownWriteTechnique_yarns table colour front back parity u)
  | commitCourse e record => cases h; exact fun u hu => (YarnsKept.ownCommitCourse record hu).held
  | discardHead e => cases h; exact fun u _ => .ownDiscardHead u
  | setZone e left right => cases h; exact fun _ _ => .of_eq rfl
  | setWantLevel e level => cases h; exact fun _ _ => .of_eq rfl
  | setCarrier e carrier position => cases h; exact fun u hu => .ownSetCarrier carrier position hu
  | clearResumeRecord e => cases h; exact fun u _ => (YarnsKept.ownClearResumeRecord u).held
  | goOnline e => cases h; exact fun u _ => (YarnsKept.ownGoOnline u).held
  | goOffline e => cases h; exact fun u _ => .of_eq (ownGoOffline_yarns u)
  | storeSettings e => cases h; exact fun u _ => .of_eq (ownStoreSettings_yarns u)
  | homeArm e => cases h; exact fun u _ => .of_eq (ownHomeArm_yarns u)
  | actuatorsOn e => cases h; exact fun u _ => .of_eq (ownActuatorsOn_yarns u)
  | actuatorsOff e => cases h; exact fun u _ => .of_eq (ownActuatorsOff_yarns u)
  | requestStroke e => cases h; exact fun u _ => (YarnsKept.ownRequestStroke u).held
  | beginStroke e => cases h; exact fun u hu => (YarnsKept.ownBeginStroke hu).held
  | abandonStroke e => cases h; exact fun u _ => (YarnsKept.ownAbandonStroke u).held
  | resumeStroke e => cases h; exact fun u hu => (YarnsKept.ownResumeStroke hu).held
  | clearStop e => cases h; exact fun u hu => (YarnsKept.ownClearStop hu).held
  | unknownCommand port e code => cases h; trivial
  | _ => cases h <;> exact FrameForm.Keeps.held (FrameForm.look_keeps YarnsHeld.frameFree _ _ _ _ _)

/-! ## The stages of arming -/

theorem YarnsKept.refuseArming (ha : s.headIs .arming = true) (tag : BitVec 16) (r : ArmingRefusal) (n : Nat) :
    YarnsKept s (s.refuseArming tag r n) :=
  .of_yarns (s.refuseArming_yarns tag r n) (.requeued (.inl (State.headIs_yarns.1 ha)))

theorem YarnsKept.atStage {stage : ArmingStage} {act : Course → State}
    (h : ∀ c, s.head? = some c → s.headIs .arming = true → YarnsKept s (act c)) : YarnsKept s (s.atStage stage act) := by
  rcases s.atStage_cases stage act with he | ⟨c, hc, ha, -, he⟩
  · exact .of_eq (by rw [he])
  · rw [he]
    exact h c hc (State.head_of_map (by rw [hc, Option.map_some, ha]))

section Stages
variable (c : Course) (ha : s.headIs .arming = true)

theorem State.lockAndResolve_yarns : (s.lockAndResolve c).yarns = s.yarns := by
  have hsame (u : State) := u.changeHead_yarns
    (f := fun c' => { c' with resolved := (resolveEntries c.resolved c.listed s.ptrs).2 }) fun _ => rfl
  simp [State.lockAndResolve, hsame]

include ha

theorem YarnsKept.clampZone : YarnsKept s (s.clampZone c) := by
  unfold State.clampZone
  dsimp only
  split
  · exact .refuseArming ha _ _ _
  · exact .of_eq rfl

omit ha in
theorem YarnsKept.buildImage : YarnsKept s (s.buildImage c) := by
  refine .of_yarns (y := { s.yarns with extents := (s.buildImage c).yarns.extents }) rfl (.imaged fun sys l r hlr => ?_)
  change (s.buildImage c).image.extents[sys] = some (l, r) at hlr
  rw [State.buildImage_extent] at hlr
  refine (systemExtent_bounds (fun i hi => ?_) hlr).1
  rw [State.buildImage_list]
  exact ImageInputs.read_headList_of_le _ _ _ _ hi

theorem YarnsKept.checkPairs : YarnsKept s (s.checkPairs c) := by
  unfold State.checkPairs
  split
  · exact .refuseArming ha _ _ _
  · exact .of_eq rfl

theorem YarnsKept.findTurningPoints : YarnsKept s (s.findTurningPoints c) := by
  unfold State.findTurningPoints
  dsimp only
  split
  · exact .refuseArming ha _ _ _
  · split
    · exact .refuseArming ha _ _ _
    · exact .of_eq rfl

theorem YarnsKept.completeArming : YarnsKept s (s.completeArming c) := by
  unfold State.completeArming
  split
  · exact .refuseArming ha _ _ _
  · split
    · exact .refuseArming ha _ _ _
    · have harming : s.yarns.head = some .arming := State.headIs_yarns.1 ha
      have hto := s.changeHead_yarns_to (f := fun c' => { c' with
        state := .armed, lastRefusal := none,
        grant := some ⟨(s.grantRecord c).left, (s.grantRecord c).right, (s.grantRecord c).speed⟩ }) (st := .armed)
        fun _ => rfl
      exact .of_yarns hto (.headTo (by simp [harming]) (by simp [harming]) .armed)

end Stages

/-! ## The carrier plan (R115 to R119) -/

/-- What holds of the plan at first, and of each plan with one more entry that passes, holds of the plan made. -/
theorem State.planEntries_induct {P : List PlanEntry → Prop} {d : Direction} {es : List SystemEntry}
    (hstep : ∀ plan, ∀ e ∈ es, ∀ (k : Carrier) (l r : Nat) (entry : PlanEntry), e.carrier = some k →
      s.image.extents[e.system] = some (l, r) → s.planCarrier d plan e.system k l r = .inr entry →
      P plan → P (plan ++ [entry])) {plan plan' : List PlanEntry} {idle idle' : Bool} (hp : P plan)
    (h : s.planEntries d es plan idle = .inr (plan', idle')) : P plan' := by
  induction es generalizing plan idle with
  | nil =>
    cases h
    exact hp
  | cons e es ih =>
    have ih' {plan : List PlanEntry} {idle : Bool} := @ih (fun plan f hf => hstep plan f (by simp [hf])) plan idle
    unfold State.planEntries at h
    split at h
    · exact ih' hp h
    · next k hk =>
      split at h
      · exact ih' hp h
      · next l r hlr =>
        split at h
        · cases h
        · next entry hentry => exact ih' (hstep plan e (by simp) k l r entry hk hlr hentry hp) h

theorem Course.mem_of_mem_listed {c : Course} {e : SystemEntry} (h : e ∈ c.listed) : e ∈ c.entries := by
  obtain ⟨sys, -, hfind⟩ := List.mem_filterMap.1 h
  exact List.mem_of_find?_eq_some hfind

/-- The plan made fits the view: its entries passed the checks of R116. -/
theorem State.planEntries_fits {c : Course} (hc : s.head? = some c) {plan : List PlanEntry} {idle : Bool}
    (h : s.planEntries c.direction c.listed [] false = .inr (plan, idle)) : s.yarns.PlanFits plan := by
  refine State.planEntries_induct (P := s.yarns.PlanFits) ?_ ⟨by simp, by simp, by simp⟩ h
  rintro plan e he k l r entry hk - hpass ⟨hawait, hone, hnamed⟩
  obtain ⟨-, hconflict, -, -, rfl⟩ := State.planCarrier_eq_inr.1 hpass
  refine ⟨fun f hf => ?_, ?_, fun f hf => ?_⟩
  · rcases List.mem_append.1 hf with hf | hf
    · exact hawait f hf
    · rw [List.mem_singleton.1 hf]
  · rw [List.map_append, List.map_singleton, List.nodup_append]
    refine ⟨hone, by simp, fun a hmem b hb => ?_⟩
    obtain ⟨f, hf, rfl⟩ := List.mem_map.1 hmem
    rw [List.mem_singleton.1 hb]
    exact State.conflictRefusal_eq_none.1 hconflict f hf
  · rcases List.mem_append.1 hf with hf | hf
    · exact hnamed f hf
    · rw [List.mem_singleton.1 hf]
      exact State.mem_named.2 ⟨c, hc, List.mem_filterMap.2 ⟨e, Course.mem_of_mem_listed he, hk⟩⟩

/-- A carrier that passes R117 and R118 has its release point free on its rail. -/
theorem State.planCarrier_free (hd : s.yarns.detached) (hs : s.yarns.Spaced) {d : Direction} {plan : List PlanEntry}
    {sys : System} {k : Carrier} {l r : Nat} (hlr : l ≤ r) {entry : PlanEntry}
    (h : s.planCarrier d plan sys k l r = .inr entry) (j : Carrier) (hj : j ≠ k) (hrail : s.yarns.rails j = s.yarns.rails k) :
    (s.yarns.table j).status ≠ .parked entry.release := by
  obtain ⟨hknown, -, hside, hblocked, rfl⟩ := State.planCarrier_eq_inr.1 h
  have hk : ∃ p, (s.yarns.table k).status = .parked p := by
    have hknown : (s.yarns.table k).status ≠ .unknown := State.known_of_unknownRefusal hknown
    have hnot := hd k
    rcases hst : (s.yarns.table k).status with p | p | p | _
    · exact ⟨p, rfl⟩
    · simp [Yarns.attached, CarrierEntry.isEngaged, hst] at hnot
    · simp [Yarns.attached, CarrierEntry.isHeld, hst] at hnot
    · exact absurd hst hknown
  obtain ⟨p, hp⟩ := hk
  have hpos : s.carriers[k].position.getD 0 = p := by
    rw [CarrierEntry.position, show s.carriers[k].status = .parked p from hp]
    rfl
  rw [hpos] at hside hblocked
  intro hparked
  have hclear := State.blockedRefusal_eq_none.1 hblocked j (releasePoint d s.geo.record.parkGap l r)
  refine hclear ⟨hj, hrail, hparked, ?_⟩
  obtain ⟨hl2r, hr2l⟩ := sideRefusal_eq_none.1 hside
  have hne : p ≠ releasePoint d s.geo.record.parkGap l r := fun he => hs.apart j k _ hj hrail hparked (he ▸ hp)
  cases d with
  | l2r =>
    have hpl := hl2r rfl
    refine Bool.and_eq_true_iff.2 ⟨decide_eq_true ?_, decide_eq_true le_rfl⟩
    simp only [releasePoint] at hne ⊢
    omega
  | r2l =>
    have hrp := hr2l rfl
    refine Bool.and_eq_true_iff.2 ⟨decide_eq_true le_rfl, decide_eq_true ?_⟩
    simp only [releasePoint] at hne ⊢
    omega

theorem YarnsKept.planCarriers {c : Course} (hc : s.head? = some c) (ha : s.headIs .arming = true) :
    YarnsKept s (s.planCarriers c) := by
  unfold State.planCarriers
  split
  · exact .refuseArming ha _ _ _
  · next plan idle hplan =>
    have harming : s.yarns.head = some .arming := State.headIs_yarns.1 ha
    refine .of_yarns (y := s.yarns.withPlan plan) rfl (.planned harming (State.planEntries_fits hc hplan) fun hp hs => ?_)
    have hd := hp.detached (by simp [harming]) (by simp [harming])
    refine State.planEntries_induct (P := s.yarns.planFree) ?_ (by simp [Yarns.planFree]) hplan
    intro plan e _ k l r entry _ hlr hpass hfree f hf
    rcases List.mem_append.1 hf with hf | hf
    · exact hfree f hf
    · rw [List.mem_singleton.1 hf]
      have hcarrier : entry.carrier = k := by
        obtain ⟨-, -, -, -, rfl⟩ := State.planCarrier_eq_inr.1 hpass
        rfl
      rw [hcarrier]
      exact State.planCarrier_free hd hs (hs.ordered e.system l r hlr) hpass

end Sys2Proof.Machine
end

section
/-! O57, O58. The events, and what they settle. -/

namespace Sys2Proof.Machine

variable {s t u : State}

/-! ## Position and stop unit -/

theorem YarnsKept.losePosition (s : State) : YarnsKept s s.losePosition := by
  unfold State.losePosition
  dsimp only
  split
  · exact .of_eq rfl
  · next h =>
    have hq : YarnsKept (s.withPos { s.pos with valid := false }) (s.withPos { s.pos with valid := false }).returnToQueued :=
      .returnToQueued (.inr (State.head_of_map h))
    exact .after (.trans hq (.of_eq (State.raiseGrantWithdrawn_yarns _))) rfl
  · exact .after (.strokeFault _ _ _ _) rfl
  · exact .of_eq rfl

theorem YarnsKept.takeCount (hl : s.live = true) (d : Int) : YarnsKept s (s.takeCount d) := by
  unfold State.takeCount
  dsimp only
  split
  · exact .losePosition s
  · exact .after (.countChanged (by exact hl) _) rfl

theorem YarnsKept.encoderTransition (a b : Bool) (h : exec (.encoderTransition a b) s = .next t) : YarnsKept s t := by
  cases h
  dsimp only
  split_ifs with hl
  · exact .of_eq rfl
  · exact .of_eq rfl
  · exact .after (.losePosition _) rfl
  · exact .after (.takeCount (by exact eq_true_of_ne_false hl) _) rfl

theorem YarnsKept.indexPulse (h : exec .indexPulse s = .next t) : YarnsKept s t := by
  cases h
  split_ifs with hl
  · exact .of_eq rfl
  · exact .after (.countChanged (by exact eq_true_of_ne_false hl) _) rfl
  · exact .losePosition s
  · exact .of_eq rfl

theorem YarnsKept.setLatch (hp : s.phase ≠ .held) : YarnsKept s s.setLatch := .of_yarns s.setLatch_yarns (.latched fun _ => hp)

theorem YarnsKept.takeStopIn (hp : s.phase ≠ .held) : YarnsKept s s.takeStopIn :=
  .trans (.setLatch hp) (.strokeFault _ _ _ _)

/-- The latch is set once STOP_IN has been taken (R160). -/
theorem State.takeStopIn_latch (s : State) : s.takeStopIn.stops.latch = true := by
  have hstd : s.takeStopIn.standing =
      if s.setLatch.headIs .knitting then s.setLatch.standing.faulted else s.setLatch.standing :=
    s.setLatch.strokeFault_standing _ _ _
  rw [State.setLatch_standing] at hstd
  have hlatch := congrArg Standing.latch hstd
  split at hlatch <;> exact hlatch

theorem YarnsKept.warnCourse (s : State) : YarnsKept s s.warnCourse := by
  unfold State.warnCourse
  split
  · exact .of_eq rfl
  · exact .of_eq rfl
  · next h => exact .returnToQueued (.inl (State.head_of_map h))
  · next h => exact .returnToQueued (.inr (State.head_of_map h))
  · exact .strokeFault _ _ _ _
  · exact .of_eq rfl

theorem YarnsKept.takePfw (hp : s.phase ≠ .held) : YarnsKept s s.takePfw := by
  have hlatched : YarnsKept s s.warnCourse.setLatch :=
    .trans (.warnCourse s) (.setLatch (by rw [State.warnCourse_phase]; exact hp))
  have hqueued (r : ResumeRecord) : s.warnCourse.setLatch.yarns.Kept
      { s.warnCourse.setLatch.yarns with writes := s.warnCourse.setLatch.yarns.writes ++ [.resume r] } := .queued fun _ => rfl
  exact .trans hlatched (.of_yarns rfl (hqueued _))

theorem YarnsKept.stopInAssertion (h : exec .stopInAssertion s = .next t) : YarnsKept s t := by
  cases h
  dsimp only
  split
  · exact .of_eq rfl
  · split
    · next hp =>
      have hset : YarnsKept s (s.withPins { s.pins with stopIn := true }).setLatch :=
        .of_yarns (y := { s.yarns with stopIn := true, latch := true }) (State.setLatch_yarns _)
          (.inputs (fun _ _ => rfl) fun _ => rfl)
      exact .trans hset (.strokeFault _ _ _ _)
    · exact .of_yarns (y := { s.yarns with stopIn := true, latch := true }) rfl (.inputs (fun _ _ => rfl) fun _ => rfl)
    · next hp =>
      exact .of_yarns (y := { s.yarns with stopIn := true, latch := s.stops.latch }) rfl
        (.inputs (fun h => absurd (hp.symm.trans h) (by decide)) fun h => absurd (hp.symm.trans h) (by decide))
    · next hp =>
      exact .of_yarns (y := { s.yarns with stopIn := true, latch := s.stops.latch }) rfl
        (.inputs (fun h => absurd (hp.symm.trans h) (by decide)) fun h => absurd (hp.symm.trans h) (by decide))

theorem YarnsKept.stopInRelease (h : exec .stopInRelease s = .next t) : YarnsKept s t := by
  have hsame (hp : s.phase ≠ .held) : s.yarns.Kept { s.yarns with stopIn := false, latch := s.stops.latch } :=
    .inputs (fun _ => nofun) fun h => absurd h hp
  cases h
  dsimp only
  split
  · exact .of_yarns (y := { s.yarns with stopIn := false, latch := false }) rfl (.inputs (fun _ => nofun) fun _ => rfl)
  all_goals next hp => exact .of_yarns rfl (hsame (by rw [hp]; decide))

/-! ## Power, RESET and start-up -/

@[simp] theorem State.clearVolatile_yarns (s : State) (latch : Bool) :
    (s.clearVolatile latch).yarns = { s.yarns.cleared with latch := latch } := by
  simp only [State.clearVolatile, State.withDriveReasons_yarns, State.withPatternReasons_yarns, State.withDrivePort_yarns,
    State.withPatternPort_yarns, State.withStops_yarns, State.withSupply_yarns, State.withCatchers_yarns,
    State.withHeads_yarns, State.withImage_yarns, State.withArm_yarns, State.withQueue_yarns, State.withPtrs_yarns,
    State.withTech_yarns, State.withLoad_yarns, State.withMem_yarns, State.withPos_yarns, State.withGeo_yarns]
  rfl

/-- RESET asserted on a live part (R180). -/
theorem YarnsKept.holdReset (s : State) : YarnsKept s s.holdReset :=
  .of_yarns (y := { s.yarns.cleared with latch := s.pins.stopIn, phase := .held })
    (by rw [State.holdReset, State.withPhase_yarns, State.clearVolatile_yarns])
    (.down rfl rfl (fun _ => rfl) Yarns.initial_linesOk id id)

/-- At the start-up retained memory takes every waiting write (R107, R108; log 15). -/
theorem State.beginStartUp_stored (s : State) : s.beginStartUp.retained.carriers = s.retained.flush.carriers := by
  simp [State.beginStartUp, State.recoverRetained, State.loadSettings]

/-- An entry is lost in the recovery, or it is the retained one, PARKED on its carrier's rail (R108). -/
theorem State.beginStartUp_entry (s : State) (k : Carrier) : s.beginStartUp.carriers[k].status = .unknown ∨
    s.beginStartUp.carriers[k] = s.beginStartUp.retained.carriers[k] ∧ k.val < s.beginStartUp.geo.record.carriers ∧
    s.beginStartUp.carriers[k].rail = s.beginStartUp.geo.record.carrierRail[k] ∧
    ∃ x, s.beginStartUp.carriers[k].status = .parked x := by
  obtain ⟨-, -, -, hcarriers, -⟩ := s.beginStartUp_startsUp
  rw [hcarriers k, s.beginStartUp_stored]
  split
  · next h =>
    obtain ⟨-, -, hused, hparked, hrail⟩ := h
    obtain ⟨x, hx⟩ := Option.isSome_iff_exists.1 hparked
    exact .inr ⟨rfl, hused, hrail, x, (CarrierEntry.parkedAt_eq_some _).1 hx⟩
  · exact .inl rfl

theorem YarnsKept.beginStartUp (s : State) : YarnsKept s s.beginStartUp := by
  have hstored : s.beginStartUp.yarns.stored = s.yarns.contents s.yarns.writes.length := by
    rw [Yarns.contents, List.take_length]
    refine funext fun k => ?_
    change s.beginStartUp.retained.carriers[k] = _
    rw [s.beginStartUp_stored]
    exact RetainedMemory.foldl_apply_carriers s.retained.writes s.retained k
  exact Yarns.Kept.startedUp rfl rfl Yarns.initial_linesOk Yarns.catchersRaised_get rfl rfl hstored rfl rfl
    s.beginStartUp_entry

theorem YarnsKept.powerLoss (h : exec .powerLoss s = .next t) : YarnsKept s t := by
  have hoff : YarnsKept s ((((s.clearVolatile false).withRetained s.retained.powerLost).withCarriers
      s.retained.powerLost.carriers).withPhase .off) :=
    .of_yarns (y := { s.yarns.cleared with latch := false, table := s.yarns.stored, writes := [], phase := .off })
      (by rw [State.withPhase_yarns, State.withCarriers_yarns, State.withRetained_yarns, State.clearVolatile_yarns]; rfl)
      (.down rfl rfl nofun Yarns.initial_linesOk (fun _ => rfl) fun ha n => by
        rw [Yarns.contents, List.take_nil]
        exact ha 0)
  cases h
  split
  · exact .of_eq rfl
  all_goals exact hoff

theorem YarnsKept.resumeRecordWriteComplete (h : exec .resumeRecordWriteComplete s = .next t) : YarnsKept s t := by
  cases h
  split
  · next r rest hw =>
    have hdone : s.yarns.Kept (s.yarns.written [.resume r] rest) := .written hw
    dsimp only
    split <;> exact .of_yarns rfl hdone
  · exact .of_eq rfl

theorem YarnsKept.retainedWriteComplete (h : exec .retainedWriteComplete s = .next t) : YarnsKept s t := by
  cases h
  split
  · next c rest hw =>
    split
    · exact .of_eq rfl
    · refine .of_yarns (y := s.yarns.written [c] rest) ?_ (.written hw)
      have hstored : (fun k => (s.retained.complete c rest).carriers[k]) = c.into s.yarns.stored :=
        funext fun k => RetainedMemory.apply_carriers s.retained c k
      rw [State.withRetained_yarns, hstored]
      rfl
  · exact .of_eq rfl

/-- At the end of start-up the recovered contents are written (R180). -/
theorem YarnsHeld.flushed (hp : s.phase = .startUp) :
    s.yarns.CarriersKept ((s.withRetained s.retained.flush).withPhase .running).yarns ∧
    (s.yarns.linesOk → ((s.withRetained s.retained.flush).withPhase .running).yarns.linesOk) ∧
    (s.yarns.retainedOk → ((s.withRetained s.retained.flush).withPhase .running).yarns.retainedOk) := by
  have hstored : (fun k => s.retained.flush.carriers[k]) = s.yarns.writes.foldl RetainedChange.into s.yarns.stored :=
    funext fun k => RetainedMemory.foldl_apply_carriers s.retained.writes s.retained k
  have hview : ((s.withRetained s.retained.flush).withPhase .running).yarns =
      { s.yarns.written s.yarns.writes [] with phase := .running } := by
    rw [State.withPhase_yarns, State.withRetained_yarns, hstored]
    rfl
  have hdone : s.yarns.Kept (s.yarns.written s.yarns.writes []) := .written (List.append_nil _).symm
  rw [hview]
  refine ⟨hdone.carriers.trans (.of_same ?_ rfl rfl rfl rfl rfl rfl rfl rfl id id), hdone.outputs.lines, hdone.outputs.retained⟩
  have hlive : (s.yarns.written s.yarns.writes []).live = true := by
    change (decide (s.phase = .startUp) || decide (s.phase = .running)) = true
    rw [hp]
    rfl
  rw [hlive]
  rfl

/-- What a part that begins to run takes in at once: an asserted PFW, then an asserted STOP_IN (R180). -/
theorem YarnsKept.takeInputs (hp : s.phase = .running) :
    let t := if s.pins.pfw then s.takePfw else s
    let u := if t.pins.stopIn then t.takeStopIn else t
    YarnsKept s u ∧ u.phase = .running ∧ (u.pins.stopIn = true → u.stops.latch = true) := by
  intro t u
  have ht : YarnsKept s t ∧ t.phase = .running := by
    by_cases hw : s.pins.pfw = true
    · rw [show t = s.takePfw from if_pos hw]
      exact ⟨.takePfw (by rw [hp]; decide), s.takePfw_phase.trans hp⟩
    · rw [show t = s from if_neg hw]
      exact ⟨.of_eq rfl, hp⟩
  obtain ⟨hst, htp⟩ := ht
  by_cases hs : t.pins.stopIn = true
  · rw [show u = t.takeStopIn from if_pos hs]
    exact ⟨hst.trans (.takeStopIn (by rw [htp]; decide)), by simp [State.takeStopIn, htp], fun _ => t.takeStopIn_latch⟩
  · rw [show u = t from if_neg hs]
    exact ⟨hst, htp, fun h => absurd h hs⟩

/-- The end of start-up; the latch of an asserted STOP_IN is set with it (R159, R180). -/
theorem YarnsHeld.startUpEnd (h : exec .startUpEnd s = .next t) : YarnsHeld s t := by
  cases h
  split
  · next hp =>
    obtain ⟨hcarriers, hlines, hretained⟩ := YarnsHeld.flushed hp
    obtain ⟨hkept, hrunning, hlatch⟩ := YarnsKept.takeInputs (s := (s.withRetained s.retained.flush).withPhase .running) rfl
    refine ⟨⟨fun _ => ⟨fun hl => ?_, fun _ => hlatch, fun hh => ?_⟩, hkept.outputs.lines ∘ hlines,
      hkept.outputs.retained ∘ hretained⟩, fun _ _ => hcarriers.trans hkept.carriers⟩
    · rw [State.yarns_live] at hl
      simp only [State.live, hrunning] at hl
      cases hl
    · exact absurd (hrunning.symm.trans hh) (by decide)
  all_goals exact .of_eq rfl

/-! ## Every event -/

theorem YarnsHeld.event {c : Instr} (hc : Machine.frameForm c = none) (h : exec c s = .next t) : YarnsHeld s t := by
  cases c with
  | storeWriteComplete => cases h; exact .of_eq (by split <;> rfl)
  | wakeComplete => cases h; exact .of_eq (by split <;> rfl)
  | locksAndResolution =>
    cases h
    exact YarnsKept.held (.atStage fun c _ _ => .of_eq (State.lockAndResolve_yarns c))
  | zoneStage => cases h; exact YarnsKept.held (.atStage fun c _ ha => .clampZone c ha)
  | imageStage => cases h; exact YarnsKept.held (.atStage fun c _ _ => .buildImage c)
  | transferPairing => cases h; exact YarnsKept.held (.atStage fun c _ ha => .checkPairs c ha)
  | carrierPlan => cases h; exact YarnsKept.held (.atStage fun _ hc ha => .planCarriers hc ha)
  | extentAndTurningPoints => cases h; exact YarnsKept.held (.atStage fun c _ ha => .findTurningPoints c ha)
  | speedClass => cases h; exact YarnsKept.held (.atStage (act := s.findSpeed) fun _ _ _ => .of_eq rfl)
  | completionAndGrant => cases h; exact YarnsKept.held (.atStage fun c _ ha => .completeArming c ha)
  | encoderTransition a b => exact YarnsKept.held (.encoderTransition a b h)
  | pulseEnd hd =>
    cases h
    split
    · refine YarnsKept.held (.of_yarns (State.withHeads_yarns _ _) (.lined fun hok g => ?_))
      simp only [Fin.getElem_fin, Vector.getElem_set]
      split
      · rfl
      · exact hok g
    · exact .of_eq rfl
  | indexPulse => exact YarnsKept.held (.indexPulse h)
  | stopInAssertion => exact YarnsKept.held (.stopInAssertion h)
  | stopInRelease => exact YarnsKept.held (.stopInRelease h)
  | yarnSensorBreak k =>
    cases h
    dsimp only
    split
    · exact .of_eq rfl
    · split
      · exact YarnsKept.held (.after (.strokeFault _ _ _ _) rfl)
      · exact .of_eq rfl
  | yarnSensorBreakEnd k => cases h; exact .of_eq rfl
  | pfwAssertion =>
    cases h
    dsimp only
    split
    · exact .of_eq rfl
    · split
      · next hp =>
        refine YarnsKept.held (.after (.takePfw ?_) rfl)
        rw [State.withPins_phase, hp]
        decide
      all_goals exact .of_eq rfl
  | pfwRelease => cases h; exact .of_eq rfl
  | resumeRecordWriteComplete => exact YarnsKept.held (.resumeRecordWriteComplete h)
  | retainedWriteComplete => exact YarnsKept.held (.retainedWriteComplete h)
  | powerOn =>
    cases h
    split <;> [split; exact .of_eq rfl; exact .of_eq rfl; exact .of_eq rfl]
    · exact YarnsKept.held (.holdReset s)
    · exact YarnsKept.held (.beginStartUp s)
  | powerLoss => exact YarnsKept.held (.powerLoss h)
  | resetAssertion =>
    cases h
    dsimp only
    split
    · exact .of_eq rfl
    · exact .of_eq rfl
    all_goals exact YarnsKept.held (.after (.holdReset _) rfl)
  | resetRelease =>
    cases h
    dsimp only
    split
    · exact YarnsKept.held (.after (.beginStartUp _) rfl)
    all_goals exact .of_eq rfl
  | startUpEnd => exact .startUpEnd h
  | backupSupplyFailure => cases h; exact .of_eq rfl
  | _ => cases hc

/-! ## The invariants of O57 and O58 -/

theorem step_kept (h : step s = .next t) : StepKept s t :=
  step_keeps StepKept.frameFree
    (fun _ _ hw => (ConditionsKept.frameForm hw).and (YarnsHeld.frameForm hw))
    (fun _ _ _ hc he => ⟨ConditionsKept.event hc he, YarnsHeld.event hc he⟩) h

/-- Settles O58: the view's outputs are kept by every command's rule and every event. -/
theorem stepsKeepOutputs : Obligations.StepsKeepOutputs := by
  intro s t h
  obtain ⟨-, ⟨hlatch, hlines, hretained⟩, -⟩ := step_kept h
  rw [State.latchOk_iff, State.latchOk_iff, State.linesOk_iff, State.linesOk_iff, State.retainedOk_iff, State.retainedOk_iff]
  exact ⟨hlatch, hlines, hretained⟩

/-- Settles O57: with the conditions of the stroke and the locks kept, every command's rule and every event keeps what the
view says of carriers, catchers and plan. -/
theorem stepsKeepCarriers : Obligations.StepsKeepCarriers := by
  intro s t h
  obtain ⟨-, -, hcarriers⟩ := step_kept h
  obtain ⟨hstroke, hlocks⟩ := stepsKeepStrokeConditions s t h
  rw [State.carriersOk_iff, State.carriersOk_iff, State.parkedOk_iff, State.parkedOk_iff]
  refine ⟨fun ⟨hs, hl, hp⟩ => ⟨hstroke hs, hlocks hs hl, ?_⟩, fun ⟨hs, hl, hp⟩ => ⟨hstroke hs, hlocks hs hl, ?_⟩⟩
  · exact (hcarriers (State.strokeOk_iff.1 hs) ((State.locksOk_iff hs).1 hl)).placed hp
  · exact (hcarriers (State.strokeOk_iff.1 hs) ((State.locksOk_iff hs).1 hl)).parked hp

end Sys2Proof.Machine
end

section
/-! O27. CLEAR_RESUME_RECORD and the two write events of retained memory (R107, R170, R171). -/

namespace Sys2Proof.Machine

variable {s : State}

theorem exec_clearResumeRecord (h : s.open) {r : ResultCode} {t : State}
    (ho : ownClearResumeRecord s.loadBroken = (r, t)) : exec (.clearResumeRecord .fits) s =
      .next (t.withPatternPort ⟨r, none, [t.patternPort.lastResult.code]⟩) :=
  congrArg _ (takeWrite_pattern (breaks := true) h rfl ho)

theorem ownClearResumeRecord_absent (h : s.stops.resume = none) : ownClearResumeRecord s = (.ok, s) := by
  simp only [ownClearResumeRecord, h]

/-- A record that is still being written stays until that write is complete (R170; log 17). -/
theorem ownClearResumeRecord_present {r : ResumeRecord} (h : s.stops.resume = some r) : ownClearResumeRecord s =
    (.ok, ((s.withRetained { s.retained with writes := s.retained.writes ++ [.clearResume] }).withPatternReasons
      { s.patternReasons with resumeValid := false }).withStops { s.stops with
        resume := if s.retained.writes.any RetainedChange.isResume then some r else none }) := by
  have hwriting : s.retained.writingResume = s.retained.writes.any RetainedChange.isResume := rfl
  simp only [ownClearResumeRecord, h, hwriting]
  split
  · rw [← h]; rfl
  · rfl

/-! ## The write events -/

/-- The write event of a front change that writes a resume record (R170; log 17). -/
theorem exec_resumeRecordWriteComplete {r : ResumeRecord} {rest : List RetainedChange}
    (h : s.retained.writes = .resume r :: rest) : exec .resumeRecordWriteComplete s =
      .next ((s.withRetained { s.retained with resume := some r, writes := rest }).withStops { s.stops with
        resume := if rest.any RetainedChange.isResume = false ∧ .clearResume ∈ rest then none else s.stops.resume }) := by
  change execResumeRecordWriteComplete s = _
  have hwriting : (s.retained.complete (.resume r) rest).writingResume = rest.any RetainedChange.isResume := rfl
  simp only [execResumeRecordWriteComplete, h, State.withRetained_retained, hwriting]
  split <;> rfl

/-- Without the write of a resume record in front there is no such event (log 6). -/
theorem exec_resumeRecordWriteComplete_other (h : ∀ r rest, s.retained.writes ≠ .resume r :: rest) :
    exec .resumeRecordWriteComplete s = .next s := by
  change execResumeRecordWriteComplete s = _
  unfold execResumeRecordWriteComplete
  split
  · next r rest hw => exact absurd hw (h r rest)
  · rfl

/-- The write event of any other front change (R107). -/
theorem exec_retainedWriteComplete {c : RetainedChange} {rest : List RetainedChange} (h : s.retained.writes = c :: rest) :
    exec .retainedWriteComplete s =
      .next (if c.isResume then s else s.withRetained { s.retained.apply c with writes := rest }) := by
  change execRetainedWriteComplete s = _
  simp only [execRetainedWriteComplete, h]
  rfl

theorem exec_retainedWriteComplete_none (h : s.retained.writes = []) : exec .retainedWriteComplete s = .next s := by
  change execRetainedWriteComplete s = _
  simp only [execRetainedWriteComplete, h]

/-- Settles O27, from the command's own rule and the front change of each kind. -/
theorem retainedWrites : Obligations.RetainedWrites := by
  have hother {s : State} {c : RetainedChange} {rest : List RetainedChange} (h : s.retained.writes = c :: rest)
      (hc : c.isResume = false) : exec .resumeRecordWriteComplete s = .next s :=
    exec_resumeRecordWriteComplete_other fun r rest' hw => by
      obtain ⟨rfl, -⟩ := List.cons.inj (h.symm.trans hw)
      cases hc
  refine ⟨fun s h => ⟨fun hr => ?_, fun r hr => ?_⟩, fun s r rest h => ⟨exec_retainedWriteComplete h,
    exec_resumeRecordWriteComplete h⟩, fun s rest => ⟨fun k e h => ⟨hother h rfl, exec_retainedWriteComplete h⟩,
    fun h => ⟨hother h rfl, exec_retainedWriteComplete h⟩, fun cs r h => ⟨hother h rfl, exec_retainedWriteComplete h⟩⟩,
    fun s h => ⟨exec_resumeRecordWriteComplete_other fun r rest hw => ?_, exec_retainedWriteComplete_none h⟩⟩
  · exact exec_clearResumeRecord h (ownClearResumeRecord_absent (s := s.loadBroken) hr)
  · exact exec_clearResumeRecord h (ownClearResumeRecord_present (s := s.loadBroken) hr)
  · rw [h] at hw
    cases hw

end Sys2Proof.Machine
end

section
/-! O49. STOP_IN and CLEAR_STOP, and the yarn sensors (R122, R134, R159 to R162, R180). -/

namespace Sys2Proof.Machine

variable {s : State} {k : Carrier}

/-! ## STOP_IN -/

/-- The state with STOP_IN asserted. -/
def State.stopAsserted (s : State) : State := s.withPins { s.pins with stopIn := true }

/-- What the latch set under STOP_IN does to a head course that is not ARMING (R159). -/
theorem State.setLatch_eq (h : s.headIs .arming = false) : s.setLatch = s.withStops { s.stops with latch := true } := by
  simp only [State.setLatch, h, Bool.false_eq_true, if_false]

/-- An ARMING course notes the stop (R134). -/
theorem State.setLatch_arming (h : s.headIs .arming = true) : s.setLatch =
    (s.withStops { s.stops with latch := true }).withArm { s.arm with stopSeen := true } := by
  simp only [State.setLatch, h, if_true]

theorem State.headIs_unique {st st' : CourseState} (h : s.headIs st = true) (hne : st' ≠ st) : s.headIs st' = false := by
  rw [State.headIs, decide_eq_true_eq] at h
  rw [State.headIs, h, decide_eq_false_iff_not]
  exact fun he => hne (Option.some.inj he).symm

theorem exec_stopInAssertion_running (hp : s.phase = .running) (hs : s.pins.stopIn = false) :
    exec .stopInAssertion s = .next s.stopAsserted.takeStopIn := by
  change execStopInAssertion s = _
  simp only [execStopInAssertion, hs, hp, Bool.false_eq_true, if_false]
  rfl

theorem exec_stopInAssertion_held (hp : s.phase = .held) (hs : s.pins.stopIn = false) :
    exec .stopInAssertion s = .next (s.stopAsserted.withStops { s.stops with latch := true }) := by
  change execStopInAssertion s = _
  simp only [execStopInAssertion, hs, hp, Bool.false_eq_true, if_false]
  rfl

theorem exec_stopInAssertion_quiet (hp : s.phase = .startUp ∨ s.phase = .off) (hs : s.pins.stopIn = false) :
    exec .stopInAssertion s = .next s.stopAsserted := by
  change execStopInAssertion s = _
  rcases hp with hp | hp <;> simp only [execStopInAssertion, hs, hp, Bool.false_eq_true, if_false] <;> rfl

/-- An assertion of an input that is asserted already is no event (log 6). -/
theorem exec_stopInAssertion_again (hs : s.pins.stopIn = true) : exec .stopInAssertion s = .next s := by
  change execStopInAssertion s = _
  simp only [execStopInAssertion, hs, if_true]

theorem exec_stopInRelease_held (hp : s.phase = .held) : exec .stopInRelease s =
    .next ((s.withPins { s.pins with stopIn := false }).withStops { s.stops with latch := false }) := by
  change execStopInRelease s = _
  simp only [execStopInRelease, hp]
  rfl

theorem exec_stopInRelease (hp : s.phase ≠ .held) :
    exec .stopInRelease s = .next (s.withPins { s.pins with stopIn := false }) := by
  change execStopInRelease s = _
  unfold execStopInRelease
  dsimp only
  split
  · next h => exact absurd h hp
  all_goals rfl

/-! ## CLEAR_STOP -/

theorem State.heldYarnBroken_iff : s.heldYarnBroken = true ↔
    ∃ k : Carrier, s.carriers[k].isHeld = true ∧ s.pins.yarn[k] = true := by
  simp [State.heldYarnBroken, mem_allCarriers]

theorem exec_clearStop (h : s.open) {r : ResultCode} {t : State} (ho : ownClearStop s = (r, t)) :
    exec (.clearStop .fits) s = .next (t.withDrivePort ⟨r, none, [t.drivePort.lastResult.code]⟩) :=
  congrArg _ (takeWrite_drive h rfl ho)

theorem ownClearStop_clears (hs : s.pins.stopIn = false) (hy : s.heldYarnBroken = false) :
    ownClearStop s = (.ok, s.withStops { s.stops with latch := false }) := by
  simp only [ownClearStop, hs, hy, Bool.or_false, Bool.false_eq_true, if_false]

theorem ownClearStop_refuses (h : s.pins.stopIn = true ∨ s.heldYarnBroken = true) : ownClearStop s = (.stopped, s) :=
  if_pos (Bool.or_eq_true_iff.2 h)

/-! ## The yarn sensors -/

theorem Pins.setYarn_get (p : Pins) (b : Bool) (j : Carrier) :
    (p.yarn.set k.val b)[j] = if j = k then b else p.yarn[j] := by
  simp only [Fin.getElem_fin, Vector.getElem_set, Fin.ext_iff, eq_comm (a := j.val)]

/-- A sensor that reports a break already leaves its input as it is (log 6). -/
theorem State.withYarn_self (h : s.pins.yarn[k] = true) :
    s.withPins { s.pins with yarn := s.pins.yarn.set k.val true } = s := by
  have hsame : s.pins.yarn.set k.val true = s.pins.yarn := by
    refine Vector.ext fun i hi => ?_
    rw [Vector.getElem_set]
    split
    · next hk => subst hk; exact h.symm
    · rfl
  rw [hsame]
  rfl

theorem exec_yarnSensorBreak (s : State) (k : Carrier) : exec (.yarnSensorBreak k) s = .next (
    if s.pins.yarn[k] = false ∧ s.carriers[k].isEngaged = true
    then (s.withPins { s.pins with yarn := s.pins.yarn.set k.val true }).strokeFault .yarnBreak (some k) none
    else s.withPins { s.pins with yarn := s.pins.yarn.set k.val true }) := by
  change execYarnSensorBreak k s = _
  unfold execYarnSensorBreak
  dsimp only
  by_cases hb : s.pins.yarn[k] = true
  · rw [if_pos hb, if_neg (by simp [hb]), State.withYarn_self hb]
  · rw [if_neg hb]
    by_cases he : s.carriers[k].isEngaged = true
    · rw [if_pos he, if_pos ⟨by simpa using hb, he⟩]
    · rw [if_neg he, if_neg fun h => he h.2]

/-- Settles O49, input by input. -/
theorem stopLatchAndYarn : Obligations.StopLatchAndYarn := by
  refine ⟨fun s => ⟨fun hp hs => ?_, exec_stopInAssertion_held, exec_stopInAssertion_quiet, exec_stopInAssertion_again,
    exec_stopInRelease, exec_stopInRelease_held, fun h hs hy => ?_, fun h hs => ?_⟩, fun s k => ⟨?_, ?_⟩⟩
  · rw [exec_stopInAssertion_running hp hs, State.takeStopIn]
    refine ⟨fun ha hk => ?_, fun ha => ?_, fun hk => ?_⟩
    · rw [State.setLatch_eq (s := s.stopAsserted) ha]
      exact congrArg _ (State.strokeFault_idle (by exact hk) _ _ _)
    · rw [State.setLatch_arming (s := s.stopAsserted) ha]
      exact congrArg _ (State.strokeFault_idle (by exact State.headIs_unique (s := s) ha (by decide)) _ _ _)
    · rw [State.setLatch_eq (s := s.stopAsserted) (State.headIs_unique (s := s) hk (by decide))]
      rfl
  · refine exec_clearStop h (ownClearStop_clears hs (Bool.eq_false_iff.2 fun hb => ?_))
    obtain ⟨k, hheld, hbroken⟩ := State.heldYarnBroken_iff.1 hb
    simp [hy k hheld] at hbroken
  · exact exec_clearStop h (ownClearStop_refuses (hs.imp_right State.heldYarnBroken_iff.2))
  · exact ⟨_, s.pins.setYarn_get true, exec_yarnSensorBreak s k⟩
  · exact ⟨_, s.pins.setYarn_get false, rfl⟩

end Sys2Proof.Machine
end

section
/-! O43. A count with nothing due, and a count back beyond the backlash (R106, R150, R154, R155, R162, R164). -/

namespace Sys2Proof.Machine

variable {s : State} {c : Course} {r : StrokeRecord} {a b : Bool} {p : Nat}

/-- P has gone back beyond the backlash from the furthest position, short of the end point (R154). -/
def StrokeRecord.beyond (r : StrokeRecord) (backlash : Nat) (p : Nat) : Prop :=
  match r.direction with
  | .l2r => (p : Int) < r.finish ∧ (p : Int) < r.furthest - backlash
  | .r2l => r.finish < (p : Int) ∧ r.furthest + backlash < p

/-- With heads and catchers quiet only the backlash and the end point can be due. -/
theorem State.counted_dueWork_quiet (hheads : ∀ h : Head, s.headQuiet r p h) (hquiet : ∀ e ∈ s.image.plan, s.entryQuiet r p e) :
    (s.counted r a b p).dueWork { r with furthest := r.reach p } s.pos.count =
      (if ({ r with furthest := r.reach p } : StrokeRecord).reversed s.geo.record.backlash p then [.reversal] else []) ++
      (if ({ r with furthest := r.reach p } : StrokeRecord).atEnd p then [.complete] else []) := by
  have hentries : (s.image.plan.any fun e =>
      catchDue r.direction (catcherIndex s.geo.record r.direction s.pos.count) (catcherIndex s.geo.record r.direction p)
          (s.counted r a b p) e ||
        releaseDue (catcherIndex s.geo.record r.direction s.pos.count) (catcherIndex s.geo.record r.direction p)
          (s.counted r a b p) e) = false :=
    List.any_eq_false.2 fun e he => by simp [(hquiet e he).not_due (s.counted r a b p)]
  rw [State.counted_dueWork hheads, hentries]
  rfl

/-- F stays while P goes back (R154). -/
theorem StrokeRecord.beyond.reach {backlash : Nat} (h : r.beyond backlash p) : { r with furthest := r.reach p } = r := by
  have hreach : r.reach p = r.furthest := by
    unfold StrokeRecord.beyond at h
    unfold StrokeRecord.reach
    cases hd : r.direction <;> simp only [hd] at h ⊢ <;> omega
  rw [hreach]

/-- Beyond the backlash and short of the end point, a reversal is due and no completion (R154, R155). -/
theorem StrokeRecord.beyond.due {backlash : Nat} (h : r.beyond backlash p) :
    r.reversed backlash p = true ∧ r.atEnd p = false := by
  unfold StrokeRecord.beyond at h
  unfold StrokeRecord.reversed StrokeRecord.atEnd
  cases hd : r.direction <;> simp only [hd] at h ⊢ <;>
    simp only [decide_eq_true_eq, decide_eq_false_iff_not] <;> omega

/-- A count with nothing due leaves the state the stroke's work would start from. -/
theorem exec_count_quiet (h : s.knits c r) (hd : c.direction = r.direction) (hc : s.countsTo a b p)
    (hheads : ∀ h : Head, s.headQuiet r p h) (hquiet : ∀ e ∈ s.image.plan, s.entryQuiet r p e)
    (hwithin : r.within s.geo.record.backlash p) : exec (.encoderTransition a b) s = .next (s.counted r a b p) := by
  obtain ⟨hreversed, hend⟩ := hwithin.not_due
  have hdue := State.counted_dueWork_quiet (a := a) (b := b) hheads hquiet
  rw [hreversed, hend] at hdue
  rw [exec_encoderTransition_counts hc, State.countChanged_knits h hd hc]
  simp only [hdue]
  rfl

/-- A count back beyond the backlash faults the stroke (R154). -/
theorem exec_count_reversal (h : s.knits c r) (hd : c.direction = r.direction) (hc : s.countsTo a b p)
    (hheads : ∀ h : Head, s.headQuiet r p h) (hquiet : ∀ e ∈ s.image.plan, s.entryQuiet r p e)
    (hbeyond : r.beyond s.geo.record.backlash p) : exec (.encoderTransition a b) s =
      .next (((s.counted r a b p).withFreeIndex (s.freeIndex + 1)).strokeFault .reversal none none) := by
  obtain ⟨hreversed, hend⟩ := hbeyond.due
  have hdue := State.counted_dueWork_quiet (a := a) (b := b) hheads hquiet
  rw [hbeyond.reach, hreversed, hend] at hdue
  have hfault : (s.counted r a b p).faulting { r with furthest := r.reach p } s.pos.count .reversal = true := rfl
  rw [exec_count_single h hd hc (by rw [hbeyond.reach]; exact hdue), if_pos hfault]
  exact congrArg _ (if_pos h.counted_headIs)

/-- Settles O43, from what is due at a quiet count and at one that goes back too far. -/
theorem quietCountAndReversal : Obligations.QuietCountAndReversal := by
  refine ⟨fun s c r a b p hkn hd hc hheads hquiet hwithin => ?_, fun s c r a b p hkn hd hc hheads hquiet hback => ?_⟩
  · exact ⟨_, exec_count_quiet hkn hd hc hheads hquiet hwithin, rfl, State.counted_carriers, State.counted_sameBut⟩
  · have hbeyond : r.beyond s.geo.record.backlash p := hback
    have ⟨hhead, hk, _⟩ := hkn
    obtain ⟨cs, hcs⟩ : ∃ cs, s.queue.courses = c :: cs := List.head?_eq_some_iff.1 hhead
    obtain ⟨hheadsAfter, -, hqueue, hstops, -⟩ := State.strokeFault_effect (c := c) (cs := cs)
      (s := (s.counted r a b p).withFreeIndex (s.freeIndex + 1))
      (by rw [State.withFreeIndex_queue, State.counted_queue, hcs]) hk .reversal none none
    have hstroke : (s.counted r a b p).heads.stroke = some r := congrArg some hbeyond.reach
    refine ⟨_, _, exec_count_reversal hkn hd hc hheads hquiet hbeyond, ?_, ?_, by rw [hstops], rfl, rfl, ?_, ?_, ?_⟩
    · simp [State.headIs, State.head?, hqueue]
    · rw [hstops]
    · simp [State.faultRecordNow]
    · simp [State.faultRecordNow, hstroke]
    · rw [hheadsAfter]
      exact hstroke

end Sys2Proof.Machine
end

section
/-! O50. RESUME_STROKE: the checks of R166 in order, and the event of an accepted one (R122, R123, R155, R166, R167). -/

namespace Sys2Proof.Machine

variable {s : State} {c : Course} {cs : List Course} {f : FaultRecord} {r : StrokeRecord} {g : GrantRecord}

theorem exec_resumeStroke (h : s.open) {x : ResultCode} {t : State} (ho : ownResumeStroke s = (x, t)) :
    exec (.resumeStroke .fits) s = .next (t.withDrivePort ⟨x, none, [t.drivePort.lastResult.code]⟩) :=
  congrArg _ (takeWrite_drive h rfl ho)

/-! ## The checks -/

theorem FaultReason.resumable_iff (x : FaultReason) : x.resumable = true ↔ x = .stopRequest ∨ x = .yarnBreak := by
  cases x <;> decide

theorem GrantRecord.between_iff (g : GrantRecord) (p : Int) :
    g.between p = true ↔ min g.start g.finish ≤ p ∧ p ≤ max g.start g.finish := by
  rw [GrantRecord.between, Bool.and_eq_true, decide_eq_true_eq, decide_eq_true_eq]

theorem Direction.behind_iff (d : Direction) (x y : Int) :
    d.behind x y = true ↔ match d with | .l2r => x < y | .r2l => y < x := by
  cases d <;> exact decide_eq_true_iff

/-- An entry's window still to come is ahead of the catcher (R166, check 7). -/
theorem PlanEntry.owed_behind (e : PlanEntry) (d : Direction) (x : Int) :
    (match e.owed d with | some v => d.behind x v | none => true) = true ↔
      (e.progress = .awaitingCatch → d.behind x (e.pickup - d.sign) = true) ∧
      (e.progress = .carrying → d.behind x e.release = true) := by
  unfold PlanEntry.owed
  cases e.progress <;> simp

/-- Every head and every catcher still owing an event stands behind its next window (R166, check 7). -/
theorem State.allBehind_iff : s.allBehind r = true ↔
    (∀ h : Head, r.direction.behind (headIndex s.geo.record h r.direction s.pos.count) r.next[h] = true) ∧
    ∀ e ∈ s.image.plan,
      (e.progress = .awaitingCatch →
        r.direction.behind (catcherIndex s.geo.record r.direction s.pos.count) (e.pickup - r.direction.sign) = true) ∧
      (e.progress = .carrying →
        r.direction.behind (catcherIndex s.geo.record r.direction s.pos.count) e.release = true) := by
  have hheads : ∀ h : Head, h ∈ allHeads := by decide
  rw [State.allBehind, Bool.and_eq_true, List.all_eq_true, List.all_eq_true]
  refine and_congr ⟨fun h hd => h hd (hheads hd), fun h hd _ => h hd⟩ (forall₂_congr fun e _ => ?_)
  exact PlanEntry.owed_behind e r.direction _

/-- RESUME_STROKE is decided by its checks in their order (R166). -/
theorem ownResumeStroke_eq (h : s.queue.courses = c :: cs) (hc : c.state = .faulted) (hf : s.stops.faultRecord = some f)
    (hr : s.heads.stroke = some r) (hg : s.arm.outcome = some (.grant g)) : ownResumeStroke s =
      if f.reason.resumable = false then (.notNow, s)
      else if s.stops.latch then (.stopped, s)
      else if s.pos.valid = false then (.notHomed, s)
      else if s.supply ≠ .on then (.notNow, s)
      else if s.pos.racking ≠ c.racking then (.notNow, s)
      else if g.between s.pos.count = false then (.wrongSide, s)
      else if s.allBehind r = false then (.wrongSide, s)
      else (.ok, s.resume r) := by
  have hfaulted : s.headIs .faulted = true := by rw [State.headIs_cons h, hc]; rfl
  have hgrant : s.arm.grant = some g := by rw [ArmingEngine.grant, hg]
  simp only [ownResumeStroke, hfaulted, hf, hr, hgrant, State.head?_cons h, Bool.true_eq_false, if_false]

/-! ## The event of an accepted resume -/

/-- The part right after an accepted RESUME_STROKE, before the sensors and the end point are looked at (R167, R123). -/
def State.resumed (s : State) (r : StrokeRecord) : State :=
  (((s.changeHead fun c => { c with state := .knitting }).changeCarriers fun _ e =>
      e.engageHeld (s.geo.record.clampPosition (catcherIndex s.geo.record r.direction s.pos.count))).withPos
    { s.pos with homing := false }).withHeads { s.heads with stroke := some { r with furthest := s.pos.count } }

/-- The HELD carriers, lowest number first. -/
def State.heldCarriers (s : State) : List Carrier := allCarriers.filter fun k => s.carriers[k].isHeld

theorem State.mem_heldCarriers {k : Carrier} : k ∈ s.heldCarriers ↔ s.carriers[k].isHeld = true := by
  rw [State.heldCarriers, List.mem_filter, and_iff_right (mem_allCarriers k)]

theorem State.resume_eq : s.resume r = ((s.resumed r).reportBroken s.heldCarriers).examineCompletion := by
  simp only [State.resume, State.resumed, State.changeCarriers_pos, State.changeHead_pos, State.withPos_heads,
    State.changeCarriers_heads, State.changeHead_heads]
  rfl

theorem State.resumed_queue (h : s.queue.courses = c :: cs) :
    (s.resumed r).queue = { s.queue with courses := { c with state := .knitting } :: cs } := by
  rw [State.resumed, State.withHeads_queue, State.withPos_queue, State.changeCarriers_queue, State.changeHead_courses h]

theorem State.resumed_carriers (k : Carrier) : (s.resumed r).carriers[k] =
    s.carriers[k].engageHeld (s.geo.record.clampPosition (catcherIndex s.geo.record r.direction s.pos.count)) := by
  rw [State.resumed, State.withHeads_carriers, State.withPos_carriers, State.changeCarriers_get, State.changeHead_carriers]

theorem State.resumed_sameBut : (s.resumed r).sameBut s [.queue, .pos, .heads, .carriers, .retained] := by
  intro b hb
  cases b <;> simp_all [Block.same, State.resumed]

theorem State.resumed_knits (h : s.queue.courses = c :: cs) : (s.resumed r).headIs .knitting = true := by
  rw [State.headIs_cons (by rw [State.resumed_queue h])]
  rfl

/-! ## Broken yarns, and the end point -/

theorem firstByRank_eq_none {rank : Nat → Nat} {l : List Carrier} : firstByRank rank l = none ↔ l = [] := by
  cases l with
  | nil => simp [firstByRank]
  | cons k ks =>
    simp only [firstByRank, reduceCtorEq, iff_false]
    split
    · simp
    · split <;> simp

theorem mem_of_firstByRank {rank : Nat → Nat} {l : List Carrier} {k : Carrier} (h : firstByRank rank l = some k) : k ∈ l := by
  induction l with
  | nil => cases h
  | cons j js ih =>
    unfold firstByRank at h
    split at h
    · cases h
      exact List.mem_cons_self
    · next i hi =>
      split at h
      · cases h
        exact List.mem_cons_self
      · exact List.mem_cons_of_mem _ (ih (hi.trans h))

/-- Without a broken yarn no carrier is reported (R122). -/
theorem State.reportBroken_none {l : List Carrier} (h : ∀ k ∈ l, s.pins.yarn[k] = false) : s.reportBroken l = s := by
  have hnil : l.filter (fun k => s.pins.yarn[k]) = [] := List.filter_eq_nil_iff.2 fun k hk => by simpa using h k hk
  rw [State.reportBroken, hnil]
  rfl

/-- With broken yarns one of their carriers is reported; which is free (R122, R167; log 12). -/
theorem State.reportBroken_some {l : List Carrier} (h : ∃ k ∈ l, s.pins.yarn[k] = true) :
    ∃ k ∈ l, s.pins.yarn[k] = true ∧
      s.reportBroken l = (s.withFreeIndex (s.freeIndex + 1)).strokeFault .yarnBreak (some k) none := by
  have hne : l.filter (fun k => s.pins.yarn[k]) ≠ [] := by
    obtain ⟨k, hk, hy⟩ := h
    exact List.ne_nil_of_mem (List.mem_filter.2 ⟨hk, hy⟩)
  obtain ⟨k, hk⟩ : ∃ k, firstByRank (Config.rank s.freeIndex) (l.filter fun k => s.pins.yarn[k]) = some k :=
    Option.ne_none_iff_exists'.1 fun hn => hne (firstByRank_eq_none.1 hn)
  obtain ⟨hmem, hy⟩ := List.mem_filter.1 (mem_of_firstByRank hk)
  exact ⟨k, hmem, hy, by rw [State.reportBroken, hk]⟩

/-- No course completes that is not KNITTING (R155). -/
theorem State.examineCompletion_idle (h : s.headIs .knitting = false) : s.examineCompletion = s := by
  unfold State.examineCompletion
  split
  · rw [h, Bool.false_and]; rfl
  · rfl

theorem StrokeRecord.atEnd_iff_or (r : StrokeRecord) (p : Int) :
    r.atEnd p = true ↔ (r.direction = .l2r ∧ r.finish ≤ p) ∨ (r.direction = .r2l ∧ p ≤ r.finish) := by
  rw [StrokeRecord.atEnd_iff]
  cases r.direction <;> simp

/-- With every yarn whole the stroke goes on, or is complete at the end point (R155, R167). -/
theorem State.resume_whole (h : s.queue.courses = c :: cs) (hy : ∀ k : Carrier, s.carriers[k].isHeld = true →
    s.pins.yarn[k] = false) : s.resume r =
      if (r.direction = .l2r ∧ r.finish ≤ s.pos.count) ∨ (r.direction = .r2l ∧ s.pos.count ≤ r.finish)
      then (s.resumed r).completeStroke else s.resumed r := by
  have hwhole : (s.resumed r).reportBroken s.heldCarriers = s.resumed r :=
    State.reportBroken_none fun k hk => (hy k (State.mem_heldCarriers.1 hk) :)
  have hstroke : (s.resumed r).heads.stroke = some { r with furthest := s.pos.count } := rfl
  have hend := StrokeRecord.atEnd_iff_or { r with furthest := (s.pos.count : Int) } s.pos.count
  rw [State.resume_eq, hwhole]
  simp only [State.examineCompletion, hstroke, State.resumed_knits h, Bool.true_and,
    show (s.resumed r).pos.count = s.pos.count from rfl, hend]

/-- A carrier with a broken yarn faults the stroke again, and nothing completes (R122, R167). -/
theorem State.resume_broken (h : s.queue.courses = c :: cs) (hy : ∃ k : Carrier, s.carriers[k].isHeld = true ∧
    s.pins.yarn[k] = true) : ∃ k : Carrier, s.carriers[k].isHeld = true ∧ s.pins.yarn[k] = true ∧
      s.resume r = ((s.resumed r).withFreeIndex (s.freeIndex + 1)).strokeFault .yarnBreak (some k) none := by
  obtain ⟨k₀, hheld, hbroken⟩ := hy
  have hpins : (s.resumed r).pins = s.pins := State.resumed_sameBut .pins (by decide)
  have hfree : (s.resumed r).freeIndex = s.freeIndex := State.resumed_sameBut .freeIndex (by decide)
  obtain ⟨k, hk, hyk, hreport⟩ := State.reportBroken_some (s := s.resumed r)
    ⟨k₀, State.mem_heldCarriers.2 hheld, by rw [hpins]; exact hbroken⟩
  rw [hpins] at hyk
  rw [hfree] at hreport
  refine ⟨k, State.mem_heldCarriers.1 hk, hyk, ?_⟩
  rw [State.resume_eq, hreport, State.examineCompletion_idle]
  obtain ⟨-, -, hqueue, -⟩ := State.strokeFault_effect (c := { c with state := .knitting }) (cs := cs)
    (s := (s.resumed r).withFreeIndex (s.freeIndex + 1)) (by rw [State.withFreeIndex_queue, State.resumed_queue h]) rfl
    .yarnBreak (some k) none
  rw [State.headIs_cons (by rw [hqueue])]
  rfl

/-- Settles O50, from the checks in order and the state right after the resume. -/
theorem resumeStroke : Obligations.ResumeStroke := by
  refine ⟨fun s ho hnot => exec_resumeStroke ho (if_pos hnot), ?_⟩
  intro s c cs f r g ho h hc hf hr hg behind index clear answer
  have hown := ownResumeStroke_eq h hc hf hr hg
  have hanswer {x : ResultCode} (hx : ownResumeStroke s = (x, s)) : answer x := exec_resumeStroke ho hx
  have hclear : s.allBehind r = true ↔ clear := by
    rw [State.allBehind_iff]
    simp only [Direction.behind_iff]
    rfl
  refine ⟨fun hs hy => hanswer ?_, fun hres => ?_⟩
  · rw [hown, if_pos (Bool.eq_false_iff.2 fun h => by rcases (FaultReason.resumable_iff _).1 h with h | h <;> contradiction)]
  rw [if_neg (by rw [(FaultReason.resumable_iff _).2 hres]; decide)] at hown
  refine ⟨fun hl => hanswer ?_, fun hl hv => hanswer ?_, fun hl hv hn => hanswer ?_, fun hl hv hs hq => ⟨fun hn => hanswer ?_,
    fun hlo hhi hcl => ?_⟩⟩
  · rw [hown, if_pos hl]
  · rw [hown, if_neg (by simp [hl]), if_pos hv]
  · rw [hown, if_neg (by simp [hl]), if_neg (by simp [hv])]
    by_cases hs : s.supply ≠ .on
    · rw [if_pos hs]
    · rw [if_neg hs, if_pos (hn.resolve_left hs)]
  · rw [hown, if_neg (by simp [hl]), if_neg (by simp [hv]), if_neg (not_not.2 hs), if_neg (not_not.2 hq)]
    by_cases hb : g.between s.pos.count = false
    · rw [if_pos hb]
    · rw [if_neg hb, if_pos]
      obtain ⟨hlo, hhi⟩ := (GrantRecord.between_iff g _).1 (eq_true_of_ne_false hb)
      refine Bool.eq_false_iff.2 fun hall => ?_
      rcases hn with hn | hn | hn
      · exact absurd hlo (not_le.2 hn)
      · exact absurd hhi (not_le.2 hn)
      · exact hn (hclear.1 hall)
  · rw [if_neg (by simp [hl]), if_neg (by simp [hv]), if_neg (not_not.2 hs), if_neg (not_not.2 hq),
      if_neg (by rw [(GrantRecord.between_iff g _).2 ⟨hlo, hhi⟩]; decide), if_neg (by rw [hclear.2 hcl]; decide)] at hown
    have hrun := exec_resumeStroke ho hown
    refine ⟨s.resumed r, State.resumed_queue h, rfl, rfl, fun k => ?_, State.resumed_sameBut, fun hy => ?_, fun hy => ?_⟩
    · rw [State.resumed_carriers]
      unfold CarrierEntry.engageHeld
      cases s.carriers[k].status <;> rfl
    · rw [State.resume_whole h hy] at hrun
      rw [hrun]
      congr 3
      split <;> simp [State.resumed]
    · obtain ⟨k, hheld, hbroken, hresume⟩ := State.resume_broken (r := r) h hy
      refine ⟨k, hheld, hbroken, ?_⟩
      rw [hrun, hresume]
      congr 3
      simp [State.resumed]

end Sys2Proof.Machine
end

section
/-! SUPPORT. A read frame in two steps, the forming of its reply and its end, against the whole frame (R173, R174, R176). -/

namespace Sys2Proof.Machine

variable {s : State}

/-! ## The form of a read command -/

/-- A command with a reply has the form of one. -/
theorem frameForm_of_read {c : Instr} {frame : ReadFrame} (h : c.frame = some (.inr frame)) :
    ∃ f exempt breaks form finish, frameForm c = some (.read f exempt breaks form finish frame) := by
  cases c <;> cases h <;> exact ⟨_, _, _, _, _, rfl⟩

/-- With its frame run another way a read command keeps its form (R176). -/
theorem frameForm_reframe {c : Instr} {f : FrameShape} {exempt breaks : Bool} {form : State → Formed}
    {finish : Formed → State → ResultCode × State} {frame : ReadFrame}
    (h : frameForm c = some (.read f exempt breaks form finish frame)) (r : ReadFrame) :
    frameForm (c.reframe r) = some (.read f exempt breaks form finish r) := by
  cases c <;> cases h <;> rfl

theorem reframe_self {c : Instr} {frame : ReadFrame} (h : c.frame = some (.inr frame)) : c.reframe frame = c := by
  cases c <;> cases h <;> rfl

/-! ## The ports do not bear on how a read command ends -/

/-- What a rule does at the end of a read frame neither looks at the ports nor changes them. -/
def PortBlind (finish : Formed → State → ResultCode × State) : Prop :=
  ∀ (formed : Formed) (s : State) (p : Port) (x : PortState),
    finish formed (s.withPort p x) = ((finish formed s).1, (finish formed s).2.withPort p x)

theorem State.withPort_port (s : State) (p : Port) (x : PortState) : (s.withPort p x).port p = x := by cases p <;> rfl

theorem State.withPort_self (s : State) (p : Port) : s.withPort p (s.port p) = s := by cases p <;> rfl

theorem State.withPort_withPort (s : State) (p : Port) (x y : PortState) :
    (s.withPort p x).withPort p y = s.withPort p y := by cases p <;> rfl

theorem PortBlind.port {finish : Formed → State → ResultCode × State} (h : PortBlind finish) (formed : Formed)
    (s : State) (p : Port) : (finish formed s).2.port p = s.port p := by
  have hself := h formed s p (s.port p)
  rw [State.withPort_self] at hself
  exact (congrArg (fun x => x.2.port p) hself).trans (State.withPort_port _ _ _)

/-- A command that only reads is port-blind where its reply and its effect are. -/
theorem PortBlind.finishRead {form : State → Formed} {effect : Carried → State → State}
    (hform : ∀ s p x, form (State.withPort s p x) = form s)
    (heffect : ∀ c s p x, effect c (State.withPort s p x) = (effect c s).withPort p x) :
    PortBlind (finishRead form effect) := fun formed s p x => by
  rw [Machine.finishRead, hform, heffect]
  rfl

theorem noEffect_withPort (c : Carried) (s : State) (p : Port) (x : PortState) :
    noEffect c (s.withPort p x) = (noEffect c s).withPort p x := rfl

theorem clearShown_withPort (c : Carried) (s : State) (p : Port) (x : PortState) :
    clearShown c (s.withPort p x) = (clearShown c s).withPort p x := by cases c <;> cases p <;> rfl

theorem clearFault_withPort (port : Port) (c : Carried) (s : State) (p : Port) (x : PortState) :
    clearFault port c (s.withPort p x) = (clearFault port c s).withPort p x := by
  cases c <;> cases port <;> cases p <;> rfl

theorem clearOutcomeReason_withPort (c : Carried) (s : State) (p : Port) (x : PortState) :
    clearOutcomeReason c (s.withPort p x) = (clearOutcomeReason c s).withPort p x := by cases c <;> cases p <;> rfl

theorem PortBlind.finishFetch : PortBlind finishFetch := fun formed s p x => by
  unfold Machine.finishFetch
  cases formed.carried <;> cases p <;> rfl

/-- The end of every read command is port-blind. -/
theorem frameForm_portBlind {c : Instr} {f : FrameShape} {exempt breaks : Bool} {form : State → Formed}
    {finish : Formed → State → ResultCode × State} {frame : ReadFrame}
    (h : frameForm c = some (.read f exempt breaks form finish frame)) : PortBlind finish := by
  cases c with
  | readStatus port frame =>
    cases h
    exact .finishRead (fun s p x => by cases port <;> cases p <;> rfl) clearShown_withPort
  | readFault port frame => cases h; exact .finishRead (fun s p x => by cases p <;> rfl) (clearFault_withPort port)
  | readGrant frame => cases h; exact .finishRead (fun s p x => by cases p <;> rfl) clearOutcomeReason_withPort
  | fetchCompletion frame => cases h; exact .finishFetch
  | exchangeCell frame row cell colour => cases h; exact fun formed s p x => by cases p <;> rfl
  | conditionalExchangeCell frame row cell expected new => cases h; exact fun formed s p x => by cases p <;> rfl
  | readGeometryField | readRow | testCell | scanRow | readTechnique | readPointer | readHeadCourse | readCarrier
  | readResumeRecord | readPosition =>
    cases h
    exact .finishRead (fun s p x => by cases p <;> rfl) noEffect_withPort
  | _ => cases h

/-! ## A read frame in two steps (R176) -/

theorem State.breakLoad_port (s : State) (b : Bool) (p : Port) : (s.breakLoad b).port p = s.port p := by
  cases p <;> simp [State.port]

theorem State.breakLoad_withPort (s : State) (b : Bool) (p : Port) (x : PortState) :
    (s.withPort p x).breakLoad b = (s.breakLoad b).withPort p x := by cases b <;> cases p <;> rfl

theorem State.busy_withPort (s : State) (exempt : Bool) (p : Port) (x : PortState) :
    (s.withPort p x).busy exempt = s.busy exempt := by simp [State.busy]

/-- Of a port the end of its frame looks at the last result alone (R174). -/
theorem State.closeFrame_withPort {p : Port} {x : PortState} (h : x.lastResult = (s.port p).lastResult) (r : ResultCode)
    (l : List Byte) : (s.withPort p x).closeFrame p r l = s.closeFrame p r l := by
  rw [State.closeFrame, State.withPort_port, State.withPort_withPort, h]
  rfl

theorem State.closeFrame_out (s : State) (p : Port) (r : ResultCode) (l : List Byte) :
    ((s.closeFrame p r l).port p).out = (s.port p).lastResult.code :: l := by
  rw [State.closeFrame, State.withPort_port]

/-- A read frame is in progress with its reply formed (R176). -/
def State.openFrame (s : State) (f : FrameShape) (formed : Formed) : State :=
  s.withPort f.port { s.port f.port with frame := some ⟨f.code, formed⟩ }

theorem State.openFrame_port (s : State) (f : FrameShape) (formed : Formed) :
    (s.openFrame f formed).port f.port = { s.port f.port with frame := some ⟨f.code, formed⟩ } := State.withPort_port _ _ _

theorem State.openFrame_live (s : State) (f : FrameShape) (formed : Formed) : (s.openFrame f formed).live = s.live := by
  simp [State.openFrame, State.live]

section Read
variable {f : FrameShape} {exempt breaks : Bool} {form : State → Formed} {finish : Formed → State → ResultCode × State}

/-- That a frame is open makes no difference to what its end does. -/
theorem endRead_withPort (hblind : PortBlind finish) {e : FrameEnd} (he : ∀ n, e ≠ .tooSoon n) (formed : Formed)
    {x : PortState} (hx : x.lastResult = (s.port f.port).lastResult) :
    endRead f exempt breaks finish formed e (s.withPort f.port x) = endRead f exempt breaks finish formed e s := by
  cases e with
  | tooSoon n => exact absurd rfl (he n)
  | misfit bytes bits => simp only [endRead, State.busy_withPort, State.closeFrame_withPort hx]
  | fits =>
    have hport (b : Bool) : x.lastResult = (((finish formed s).2.breakLoad b).port f.port).lastResult := by
      rw [State.breakLoad_port, hblind.port, hx]
    simp only [endRead, State.busy_withPort, State.closeFrame_withPort hx, hblind formed s, State.breakLoad_withPort,
      State.closeFrame_withPort (hport _)]

/-- A frame that fits clocks out the last result and the reply as it was formed, whatever it is answered (R174, R176). -/
theorem endRead_fits_out (hblind : PortBlind finish) (formed : Formed) (s : State) :
    ((endRead f exempt breaks finish formed .fits s).port f.port).out =
      (s.port f.port).lastResult.code :: (zeros f.params ++ formed.reply) := by
  simp only [endRead]
  split
  · exact State.closeFrame_out _ _ _ _
  · rw [State.closeFrame_out, State.breakLoad_port, hblind.port]

theorem takeRead_whole_end (hl : s.live = true) {e : FrameEnd} (he : ∀ n, e ≠ .tooSoon n) :
    takeRead f exempt breaks form finish (.whole e) s =
      endRead f exempt breaks finish (s.formReply f exempt form) e s := by
  cases e with
  | tooSoon n => exact absurd rfl (he n)
  | fits | misfit bytes bits => simp only [takeRead, hl, if_true]

theorem takeRead_opens (hl : s.live = true) : takeRead f exempt breaks form finish .opened s =
    s.openFrame f (s.formReply f exempt form) := by
  simp only [takeRead, hl, if_true]
  rfl

theorem takeRead_closed_end (hl : s.live = true) {formed : Formed}
    (hframe : (s.port f.port).frame = some ⟨f.code, formed⟩) (e : FrameEnd) :
    takeRead f exempt breaks form finish (.closed e) s = endRead f exempt breaks finish formed e s := by
  simp only [takeRead, hl, hframe, if_true]

/-- The end of a frame that is not in progress is no event (log 10). -/
theorem takeRead_closed_none (hl : s.live = true) (hframe : (s.port f.port).frame = none) (e : FrameEnd) :
    takeRead f exempt breaks form finish (.closed e) s = s := by
  simp only [takeRead, hl, hframe, if_true]

end Read

/-- The two steps of a read frame do what the whole frame does; its reply stands from the first of them (R173, R176). -/
theorem exec_opened_then_closed {c : Instr} {p : Port} {e : FrameEnd} (hc : c.frame = some (.inr (.whole e)))
    (hp : c.port? = some p) (hl : s.live = true) (he : ∀ n, e ≠ .tooSoon n) :
    ∃ t, exec (c.reframe .opened) s = .next t ∧ t = s.withPort p { s.port p with frame := (t.port p).frame } ∧
      exec (c.reframe (.closed e)) t = exec c s ∧
      ∀ u : State, u.live = true → u.port p = t.port p → ∃ v w, exec (c.reframe (.closed .fits)) u = .next v ∧
        exec (c.reframe (.whole .fits)) s = .next w ∧ (v.port p).out = (w.port p).out := by
  obtain ⟨f, exempt, breaks, form, finish, hform⟩ := frameForm_of_read hc
  obtain rfl : f.port = p := Option.some.inj ((frameForm_port hform).symm.trans hp)
  have hblind := frameForm_portBlind hform
  have hrun (r : ReadFrame) (u : State) :
      exec (c.reframe r) u = .next (takeRead f exempt breaks form finish r u) := exec_frameForm (frameForm_reframe hform r) u
  have hclosed {u : State} (hu : u.live = true)
      (hframe : (u.port f.port).frame = some ⟨f.code, s.formReply f exempt form⟩) (e : FrameEnd) :=
    (hrun (.closed e) u).trans (congrArg _ (takeRead_closed_end hu hframe e))
  have hport := s.openFrame_port f (s.formReply f exempt form)
  refine ⟨s.openFrame f (s.formReply f exempt form), (hrun .opened s).trans (congrArg _ (takeRead_opens hl)), ?_, ?_,
    fun u hu hu' => ⟨_, _, hclosed hu (by rw [hu', hport]) .fits, hrun (.whole .fits) s, ?_⟩⟩
  · rw [hport]
    rfl
  · have hwhole := hrun (.whole e) s
    rw [reframe_self hc, takeRead_whole_end hl he] at hwhole
    rw [hwhole, hclosed ((s.openFrame_live f _).trans hl) (by rw [hport]) e, State.openFrame,
      endRead_withPort hblind he _ (by rfl)]
  · rw [endRead_fits_out hblind, takeRead_whole_end hl (fun _ => FrameEnd.noConfusion), endRead_fits_out hblind, hu', hport]

/-- The end of a read frame is no event on a port where none is in progress (log 10). -/
theorem exec_closed_idle {c : Instr} {p : Port} {e : FrameEnd} (hc : c.frame = some (.inr (.whole e)))
    (hp : c.port? = some p) (hl : s.live = true) (hframe : (s.port p).frame = none) :
    exec (c.reframe (.closed e)) s = .next s := by
  obtain ⟨f, exempt, breaks, form, finish, hform⟩ := frameForm_of_read hc
  obtain rfl : f.port = p := Option.some.inj ((frameForm_port hform).symm.trans hp)
  exact (exec_frameForm (frameForm_reframe hform _) s).trans (congrArg _ (takeRead_closed_none (form := form) hl hframe e))

end Sys2Proof.Machine
end

section
/-! O5. What the end of a read frame does with the reply formed at its start, and the reasons set in between (R139, R145,
R163, R164, R173, R176, R178). -/

namespace Sys2Proof.Machine

variable {s : State}

/-! ## What an open part does at the two steps -/

section Read
variable {f : FrameShape} {exempt breaks : Bool} {form : State → Formed} {finish : Formed → State → ResultCode × State}

theorem takeRead_opens_open (h : s.open) :
    takeRead f exempt breaks form finish .opened s = s.openFrame f (form s) := by
  rw [takeRead_opens (State.open_live h), State.formReply, State.open_busy h]
  rfl

theorem takeRead_closed_open (h : s.open) {formed : Formed} (hframe : (s.port f.port).frame = some ⟨f.code, formed⟩) :
    takeRead f exempt breaks form finish (.closed .fits) s =
      ((finish formed s).2.breakLoad (breaks && decide ((finish formed s).1 ≠ .busy))).closeFrame f.port
        (finish formed s).1 (zeros f.params ++ formed.reply) := by
  rw [takeRead_closed_end (State.open_live h) hframe]
  simp only [endRead, State.open_busy h, Bool.false_eq_true, if_false]

end Read

/-! ## READ_STATUS (R178) -/

/-- A reason is left if the status word showed it clear or at another count (R178). -/
theorem shownReason_ne (pending : Bool) (n m : Nat) :
    decide (shownReason pending n ≠ some m) = !(pending && decide (m = n)) := by
  cases pending <;> simp [shownReason, eq_comm]

/-- What the end of a READ_STATUS frame leaves of the reasons of `u`, its reply formed in `s` (R178). -/
def State.shownCleared (s u : State) : DriveReasons :=
  { u.driveReasons with
    grantWithdrawn := u.driveReasons.grantWithdrawn &&
      !(s.driveReasons.grantWithdrawn && decide (u.reasonCounts.grantWithdrawn = s.reasonCounts.grantWithdrawn))
    strokeDone := u.driveReasons.strokeDone &&
      !(s.driveReasons.strokeDone && decide (u.reasonCounts.strokeDone = s.reasonCounts.strokeDone))
    wakeDone := u.driveReasons.wakeDone &&
      !(s.driveReasons.wakeDone && decide (u.reasonCounts.wakeDone = s.reasonCounts.wakeDone)) }

theorem clearShown_formStatus (s u : State) :
    clearShown (formStatus .drive s).carried u = u.withDriveReasons (s.shownCleared u) := by
  simp only [clearShown, formStatus, shownReason_ne, State.shownCleared]

theorem exec_readStatus_opened (h : s.open) : exec (.readStatus .drive .opened) s =
    .next (s.openFrame (Layout.readStatus .drive) (formStatus .drive s)) := congrArg _ (takeRead_opens_open h)

/-- The end of a READ_STATUS frame whose reply was formed in `s` (R178). -/
theorem exec_readStatus_closed {s u : State} (h : u.open)
    (hframe : (u.port .drive).frame = some ⟨(Layout.readStatus .drive).code, formStatus .drive s⟩) :
    exec (.readStatus .drive (.closed .fits)) u = .next ((clearShown (formStatus .drive s).carried u).closeFrame .drive
      (finishRead (formStatus .drive) clearShown (formStatus .drive s) u).1 (s.statusWord .drive)) :=
  congrArg _ ((takeRead_closed_open (f := Layout.readStatus .drive) h hframe).trans rfl)

/-- WAKE_DONE set after the reply was formed stays, the reasons it showed go (R178, R145). -/
theorem readStatus_over_wake (h : s.open) (hs : s.supply = .waking) :
    ∃ t u v, exec (.readStatus .drive .opened) s = .next t ∧ exec .wakeComplete t = .next u ∧
      exec (.readStatus .drive (.closed .fits)) u = .next v ∧
      v.driveReasons = { s.driveReasons with grantWithdrawn := false, strokeDone := false, wakeDone := true } := by
  refine ⟨_, _, _, exec_readStatus_opened h, exec_wakeComplete hs, exec_readStatus_closed (s := s) h rfl, ?_⟩
  rw [clearShown_formStatus, State.closeFrame_driveReasons]
  simp [State.shownCleared, State.openFrame]

/-- What the end of the frame leaves of the reasons, whatever fell between (R178). -/
theorem readStatus_clears_shown {s u : State} (hs : s.open) (hu : u.open) :
    ∃ t v, exec (.readStatus .drive .opened) s = .next t ∧
      exec (.readStatus .drive (.closed .fits)) (u.withDrivePort t.drivePort) = .next v ∧
      v.sameBut u [.driveReasons, .drivePort] ∧ v.driveReasons = s.shownCleared u := by
  refine ⟨_, _, exec_readStatus_opened hs, exec_readStatus_closed (s := s) hu rfl, fun b hb => ?_, ?_⟩
  · rw [clearShown_formStatus]
    cases b <;> simp_all [Block.same]
  · rw [clearShown_formStatus]
    rfl

/-! ## READ_FAULT and READ_GRANT (R139, R164) -/

theorem clearFault_since {n : Nat} (h : s.reasonCounts.fault ≠ n) (port : Port) :
    clearFault port (.fault n) s = s := by
  cases port <;> simp only [clearFault, decide_eq_true h, Bool.and_true] <;> rfl

/-- STOP_IN on a KNITTING course: FAULT is set on both ports and counted (R160, R163). -/
theorem takeStopIn_raises {c : Course} {cs : List Course} (hc : s.queue.courses = c :: cs) (hk : c.state = .knitting) :
    s.takeStopIn.patternReasons = { s.patternReasons with fault := true } ∧
    s.takeStopIn.driveReasons = { s.driveReasons with fault := true } ∧
    s.takeStopIn.reasonCounts = { s.reasonCounts with fault := s.reasonCounts.fault + 1 } := by
  obtain ⟨-, -, -, -, hpattern, hdrive, hcounts, -⟩ :=
    State.strokeFault_effect (s := s.setLatch) ((congrArg _ s.setLatch_queue).trans hc) hk .stopRequest none none
  rw [State.setLatch_patternReasons] at hpattern
  rw [State.setLatch_driveReasons] at hdrive
  rw [State.setLatch_reasonCounts] at hcounts
  exact ⟨hpattern, hdrive, hcounts⟩

theorem State.takeStopIn_port (s : State) (p : Port) : s.takeStopIn.port p = s.port p := by
  cases p <;> simp [State.port, State.takeStopIn]

theorem State.takeStopIn_open (h : s.open) : s.takeStopIn.open :=
  ⟨by simpa [State.takeStopIn] using h.1, by simpa [State.takeStopIn] using h.2⟩

/-- FAULT raised after the reply was formed stays on both ports, whichever of them reads (R164; log 8). -/
theorem readFault_over_stop {c : Course} {cs : List Course} (h : s.open) (hf : s.stops.faultRecord.isSome = true)
    (hc : s.queue.courses = c :: cs) (hk : c.state = .knitting) (hs : s.pins.stopIn = false) (port : Port) :
    ∃ t u v, exec (.readFault port .opened) s = .next t ∧ exec .stopInAssertion t = .next u ∧
      exec (.readFault port (.closed .fits)) u = .next v ∧
      v.patternReasons = { s.patternReasons with fault := true } ∧
      v.driveReasons = { s.driveReasons with fault := true } := by
  obtain ⟨r, hr⟩ := Option.isSome_iff_exists.1 hf
  have hform : formFault s = ⟨r.bytes, .ok, .fault s.reasonCounts.fault⟩ := by simp only [formFault, hr]
  generalize ht : s.openFrame (Layout.readFault port) (formFault s) = t
  have hopen : t.open := by
    rw [← ht]
    simpa [State.open, State.openFrame] using h
  have hstopIn : t.pins.stopIn = false := by rw [← ht, State.openFrame, State.withPort_pins, hs]
  have hqueue : t.stopAsserted.queue.courses = c :: cs := by
    rw [State.stopAsserted, State.withPins_queue, ← ht, State.openFrame, State.withPort_queue, hc]
  have hframe : (t.stopAsserted.takeStopIn.port port).frame = some ⟨(Layout.readFault port).code, formFault s⟩ := by
    rw [State.takeStopIn_port, ← ht]
    cases port <;> rfl
  obtain ⟨hpattern, hdrive, hcounts⟩ := takeStopIn_raises hqueue hk
  have hsince : t.stopAsserted.takeStopIn.reasonCounts.fault ≠ s.reasonCounts.fault := by
    rw [hcounts, ← ht]
    simp [State.stopAsserted, State.openFrame]
  refine ⟨t, _, _, congrArg Host.Outcome.next ((takeRead_opens_open h).trans ht),
    exec_stopInAssertion_running hopen.1 hstopIn, congrArg Host.Outcome.next (takeRead_closed_open
      (f := Layout.readFault port) (State.takeStopIn_open (s := t.stopAsserted) hopen) hframe), ?_⟩
  rw [State.closeFrame_patternReasons, State.closeFrame_driveReasons, State.breakLoad_patternReasons,
    State.breakLoad_driveReasons, hform, finishRead, clearFault_since hsince, hpattern, hdrive, ← ht]
  simp [State.stopAsserted, State.openFrame]

theorem clearOutcomeReason_since {s u : State} (h : u.reasonCounts.outcome ≠ s.reasonCounts.outcome)
    (ho : s.arm.outcome.isSome = true) :
    clearOutcomeReason (formGrant s).carried u = u := by
  obtain ⟨o, ho⟩ := Option.isSome_iff_exists.1 ho
  cases o <;> simp only [formGrant, ho, clearOutcomeReason, decide_eq_true h, Bool.and_true] <;> rfl

/-- The reason of an outcome record written after the reply was formed stays (R139; log 8). -/
theorem readGrant_over_outcome {s u : State} (hs : s.open) (hu : u.open) (ho : s.arm.outcome.isSome = true)
    (hn : u.reasonCounts.outcome ≠ s.reasonCounts.outcome) :
    ∃ t v, exec (.readGrant .opened) s = .next t ∧
      exec (.readGrant (.closed .fits)) (u.withDrivePort t.drivePort) = .next v ∧ v.driveReasons = u.driveReasons := by
  generalize ht : s.openFrame Layout.readGrant (formGrant s) = t
  have hopened : exec (.readGrant .opened) s = .next t := congrArg Host.Outcome.next ((takeRead_opens_open hs).trans ht)
  have hframe : ((u.withDrivePort t.drivePort).port .drive).frame = some ⟨Layout.readGrant.code, formGrant s⟩ := by
    rw [← ht]
    rfl
  refine ⟨t, _, hopened,
    congrArg Host.Outcome.next (takeRead_closed_open (s := u.withDrivePort t.drivePort) hu hframe), ?_⟩
  rw [State.closeFrame_driveReasons, State.breakLoad_driveReasons, finishRead,
    clearOutcomeReason_since (u := u.withDrivePort t.drivePort) hn ho]
  rfl

/-- Settles O5, from the two steps of a read frame and, for each reason, what is raised between them. -/
theorem replyThenEnd : Obligations.ReplyThenEnd :=
  ⟨fun _ _ _ _ hc hp hl he => ⟨exec_opened_then_closed hc hp hl he, exec_closed_idle hc hp hl⟩,
    fun _ => readStatus_over_wake, fun _ _ => readStatus_clears_shown,
    fun s c cs ho hf hc hk hs => by
      obtain ⟨t, u, v, ht, hu, hv, hp, -⟩ := readFault_over_stop ho hf hc hk hs .pattern
      obtain ⟨t', u', v', ht', hu', hv', -, hd⟩ := readFault_over_stop ho hf hc hk hs .drive
      exact ⟨t, u, v, t', u', v', ht, hu, hv, hp, ht', hu', hv', hd⟩,
    fun _ _ => readGrant_over_outcome⟩

end Sys2Proof.Machine
end

section
/-! O31. REQUEST_STROKE and stage 1 of arming (R124, R125, R127, R136, R137, R139). -/

namespace Sys2Proof.Machine

variable {s : State} {c : Course} {cs : List Course}

theorem exec_requestStroke (h : s.open) {r : ResultCode} {t : State} (ho : ownRequestStroke s = (r, t)) :
    exec (.requestStroke .fits) s = .next (t.withDrivePort ⟨r, none, [t.drivePort.lastResult.code]⟩) :=
  congrArg _ (takeWrite_drive h rfl ho)

/-! ## The checks before the arming (R124) -/

theorem ownRequestStroke_notNow (h : s.geo.mode = .offline ∨ s.pastQueued = true) :
    ownRequestStroke s = (.notNow, s) := by
  unfold ownRequestStroke
  split
  · rfl
  · next hmode =>
    have hpast := h.resolve_left hmode
    split
    · next hnone => simp [State.pastQueued, State.headIs, hnone] at hpast
    · next c hc =>
      rw [if_pos fun hq => ?_]
      rw [State.pastQueued_eq_false.2 fun d hd => Option.some.inj (hc.symm.trans hd) ▸ hq] at hpast
      cases hpast

theorem ownRequestStroke_empty (hm : s.geo.mode = .ready) (h : s.queue.courses = []) :
    ownRequestStroke s = (.empty, s) := by
  simp [ownRequestStroke, State.head?, hm, h]

/-- On a QUEUED head course in READY the arming begins, and stage 1 is carried out (R125, R127). -/
theorem ownRequestStroke_arms (hm : s.geo.mode = .ready) (h : s.queue.courses = c :: cs) (hc : c.state = .queued) :
    ownRequestStroke s = (.ok, match s.conditions c with
      | some reason => s.enterArming.refuseArming c.tag reason 1
      | none => s.enterArming) := by
  have hsame : s.enterArming.conditions c = s.conditions c := rfl
  simp only [ownRequestStroke, hm, State.head?_cons h, hc, hsame]
  cases s.conditions c <;> rfl

/-! ## Entering ARMING, and the refusal of stage 1 -/

theorem State.enterArming_eq (h : s.queue.courses = c :: cs) : s.enterArming =
    ((s.withQueue { s.queue with courses := { c with state := .arming, grant := none } :: cs }).withArm
      { ArmingEngine.initial with stage := some .locks, driveCap := s.arm.driveCap }).withDriveReasons
        { s.driveReasons with grantReady := false, refusalReady := false } := by
  simp only [State.enterArming, State.changeHead, h]
  rfl

theorem State.enterArming_courses (h : s.queue.courses = c :: cs) :
    s.enterArming.queue.courses = { c with state := .arming, grant := none } :: cs := by
  rw [State.enterArming_eq h]
  rfl

/-- Stage 1 passes with every condition met (R127). -/
theorem State.conditions_none (hv : s.pos.valid = true) (hk : s.pos.rackKnown = true) (hr : s.pos.racking = c.racking)
    (hs : s.supply = .on) (hl : s.stops.latch = false) : s.conditions c = none := by
  simp [State.conditions, hv, hk, hr, hs, hl]

/-- Stage 1 finds the first condition that fails, in the order of the statement (R127). -/
theorem State.conditions_some {reason : ArmingRefusal}
    (h : (s.pos.valid = false ∧ reason = .notHomed) ∨
      (s.pos.valid = true ∧ s.pos.rackKnown = false ∧ reason = .rackUnknown) ∨
      (s.pos.valid = true ∧ s.pos.rackKnown = true ∧ s.pos.racking ≠ c.racking ∧
        reason = .rackMismatch s.pos.racking c.racking) ∨
      (s.pos.valid = true ∧ s.pos.rackKnown = true ∧ s.pos.racking = c.racking ∧ s.supply ≠ .on ∧
        reason = .supplyNotOn s.supply) ∨
      (s.pos.valid = true ∧ s.pos.rackKnown = true ∧ s.pos.racking = c.racking ∧ s.supply = .on ∧
        s.stops.latch = true ∧ reason = .stopLatched s.pins.stopIn)) : s.conditions c = some reason := by
  rcases h with ⟨hv, rfl⟩ | ⟨hv, hk, rfl⟩ | ⟨hv, hk, hr, rfl⟩ | ⟨hv, hk, hr, hs, rfl⟩ | ⟨hv, hk, hr, hs, hl, rfl⟩
  · simp [State.conditions, hv]
  · simp [State.conditions, hv, hk]
  · simp [State.conditions, hv, hk, hr]
  · simp [State.conditions, hv, hk, hr, hs]
  · simp [State.conditions, hv, hk, hr, hs, hl]

/-- A refusal of an ARMING course, as one state (R71, R136, R137). -/
theorem State.refuseArming_eq (h : s.queue.courses = c :: cs) (hc : c.state = .arming) (tag : BitVec 16)
    (r : ArmingRefusal) (n : Nat) : s.refuseArming tag r n =
      ((((s.releaseCourse.withQueue { s.queue with
          courses := { c with state := .queued, lastRefusal := some ⟨r, n⟩ } :: cs }).withArm
        { s.arm with stage := none, outcome := some (.refusal ⟨tag, r, n⟩) }).withDriveReasons
          { s.driveReasons with refusalReady := true }).withPatternReasons
            { s.patternReasons with headRefused := true }).withReasonCounts
              { s.reasonCounts with outcome := s.reasonCounts.outcome + 1 } := by
  -- Block by block: what a refusal writes by its effect, every other block by the frame of the operation.
  obtain ⟨hqueue, harm, hmem, htech, himage, hdrive, hpattern, hcounts⟩ := State.refuseArming_effect h tag r n
  apply State.ext <;> simp_all [State.releaseCourse]

/-- With no lock held and the image clear there is nothing to release (R25, R49, R87). -/
theorem State.releaseCourse_idle (h : s.mem.locks = [] ∧ s.tech.locks = [] ∧ s.image = .cleared) : s.releaseCourse = s := by
  obtain ⟨hmem, htech, himage⟩ := h
  rw [State.releaseCourse, ← hmem, ← htech, ← himage]
  rfl

/-- Settles O31, from the checks of the command in order and the refusal of stage 1 as one state. -/
theorem requestStroke : Obligations.RequestStroke := by
  refine ⟨fun s ho => ⟨fun h => exec_requestStroke ho (ownRequestStroke_notNow h), fun hm h =>
      exec_requestStroke ho (ownRequestStroke_empty hm h), fun c cs hm h hc hv hk hr hs hl => ?_⟩,
    fun s c cs reason ho hlocks hm h hc hfail => ?_⟩
  · have hown := ownRequestStroke_arms hm h hc
    rw [State.conditions_none hv hk hr hs hl, State.enterArming_eq h] at hown
    exact exec_requestStroke ho hown
  · obtain ⟨-, hfree, -⟩ := hlocks
    have hown := ownRequestStroke_arms hm h hc
    rw [State.conditions_some hfail] at hown
    dsimp only at hown
    have hidle : s.enterArming.releaseCourse = s.enterArming := State.releaseCourse_idle (hfree
      (State.pastQueued_eq_false.2 fun d hd => Option.some.inj ((State.head?_cons h).symm.trans hd) ▸ hc))
    rw [State.refuseArming_eq (State.enterArming_courses h) rfl, hidle, State.enterArming_eq h, ← hc] at hown
    exact exec_requestStroke ho hown

end Sys2Proof.Machine
end

section
/-! O41. Stages 8 and 9 of arming: the granted speed class, the checks at completion, and the grant (R132, R134, R135,
R138). -/

namespace Sys2Proof.Machine

variable {s : State} {c : Course} {cs : List Course}

/-! ## Stage 8 (R132) -/

/-- The classes of which the least is granted (R132). -/
def State.speedCaps (s : State) (c : Course) : List Nat :=
  c.speed :: s.arm.driveCap :: ((match c.kind with | .transfer => [s.geo.record.xferCap] | .knit => []) ++
    s.image.plan.map fun e => (s.geo.record.carrierCap[e.carrier] : Nat))

theorem State.mem_speedCaps {v : Nat} : v ∈ s.speedCaps c ↔ v = c.speed ∨ v = s.arm.driveCap ∨
    (c.kind = .transfer ∧ v = s.geo.record.xferCap) ∨
    ∃ e ∈ s.image.plan, v = (s.geo.record.carrierCap[e.carrier] : Nat) := by
  cases hk : c.kind <;> simp [State.speedCaps, hk, eq_comm]

/-- The granted class is the least of them. -/
theorem State.grantedClass_least (s : State) (c : Course) :
    s.grantedClass c ∈ s.speedCaps c ∧ ∀ v ∈ s.speedCaps c, s.grantedClass c ≤ v :=
  List.min?_eq_some_iff.1 (by rw [State.speedCaps, List.min?_cons']; rfl)

theorem exec_speedClass (h : s.queue.courses = c :: cs) (hc : c.state = .arming) (hst : s.arm.stage = some .speed) :
    exec .speedClass s = .next (s.findSpeed c) :=
  congrArg Host.Outcome.next (State.atStage_head h hc hst s.findSpeed)

/-! ## Stage 9 (R134, R135, R138) -/

theorem exec_completionAndGrant (h : s.queue.courses = c :: cs) (hc : c.state = .arming)
    (hst : s.arm.stage = some .completion) : exec .completionAndGrant s = .next (s.completeArming c) :=
  congrArg Host.Outcome.next (State.atStage_head h hc hst s.completeArming)

theorem State.completeArming_notHomed (h : s.arm.positionLost = true ∨ s.pos.valid = false) :
    s.completeArming c = s.refuseArming c.tag .notHomed 9 := by
  rcases h with h | h <;> simp [State.completeArming, h]

theorem State.completeArming_stopped (hp : s.arm.positionLost = false) (hv : s.pos.valid = true)
    (h : s.arm.stopSeen = true ∨ s.stops.latch = true) :
    s.completeArming c = s.refuseArming c.tag (.stopLatched s.pins.stopIn) 9 := by
  rcases h with h | h <;> simp [State.completeArming, hp, hv, h]

theorem State.completeArming_grants (hp : s.arm.positionLost = false) (hv : s.pos.valid = true)
    (hs : s.arm.stopSeen = false) (hl : s.stops.latch = false) : s.completeArming c = s.grantStroke c := by
  simp [State.completeArming, hp, hv, hs, hl]

/-- The grant record, its ends in the words of the statement (R138). -/
theorem State.grantRecord_eq {l r : Int} (h : s.image.extent = some (l, r)) : s.grantRecord c = {
    tag := c.tag, direction := c.direction
    start := if c.direction = .l2r then s.arm.turnLeft else s.arm.turnRight
    finish := if c.direction = .l2r then s.arm.turnRight else s.arm.turnLeft
    left := l, right := r, speed := s.arm.grantedSpeed
    clampedLeft := s.arm.clampedLeft, clampedRight := s.arm.clampedRight, speedCapped := s.arm.speedCapped
    suppressed := s.arm.suppressed, carrierIdle := s.arm.carrierIdle
    engaged := s.image.plan.map fun e => (e.carrier, e.pickup, e.release) } := by
  rw [State.grantRecord, h]
  cases c.direction <;> rfl

/-- A grant: the course is ARMED with its grant summary and no refusal, the outcome record is the grant, its reasons are
set (R135). -/
theorem State.grantStroke_eq (h : s.queue.courses = c :: cs) : s.grantStroke c =
    ((((s.withQueue { s.queue with courses := { c with
        state := .armed, lastRefusal := none,
        grant := some ⟨(s.grantRecord c).left, (s.grantRecord c).right, (s.grantRecord c).speed⟩ } :: cs }).withArm
      { s.arm with stage := none, outcome := some (.grant (s.grantRecord c)) }).withDriveReasons
        { s.driveReasons with grantReady := true }).withPatternReasons
          { s.patternReasons with headRefused := false }).withReasonCounts
            { s.reasonCounts with outcome := s.reasonCounts.outcome + 1 } := by
  simp only [State.grantStroke, State.raiseOutcome, State.changeHead, h, Bool.or_true, Bool.not_true, Bool.or_false]
  rfl

/-- Settles O41, from the least of the classes that count and the checks of stage 9 in order. -/
theorem speedClassAndGrant : Obligations.SpeedClassAndGrant := by
  refine ⟨fun s c cs h hc hst => ?_, fun s c cs l r h hc hst hx => ⟨fun hlost => ?_, fun hp hv hstop => ?_,
    fun hp hv hs hl => ?_⟩⟩
  · obtain ⟨hmem, hle⟩ := s.grantedClass_least c
    have hcap {v : Nat} (hv : v = c.speed ∨ v = s.arm.driveCap ∨ (c.kind = .transfer ∧ v = s.geo.record.xferCap) ∨
        ∃ e ∈ s.image.plan, v = (s.geo.record.carrierCap[e.carrier] : Nat)) : s.grantedClass c ≤ v :=
      hle v (State.mem_speedCaps.2 hv)
    exact ⟨s.grantedClass c, exec_speedClass h hc hst, hcap (.inl rfl), hcap (.inr (.inl rfl)),
      fun hk => hcap (.inr (.inr (.inl ⟨hk, rfl⟩))), fun e he => hcap (.inr (.inr (.inr ⟨e, he, rfl⟩))),
      State.mem_speedCaps.1 hmem⟩
  · rw [exec_completionAndGrant h hc hst, State.completeArming_notHomed hlost]
  · rw [exec_completionAndGrant h hc hst, State.completeArming_stopped hp hv hstop]
  · rw [exec_completionAndGrant h hc hst, State.completeArming_grants hp hv hs hl, State.grantStroke_eq h,
      State.grantRecord_eq hx]

end Sys2Proof.Machine
end

section
/-! O45. A selection on a head whose pulse is running is an OVERSPEED, and a pulse ends (R152, R153, R162 to R164). -/

namespace Sys2Proof.Machine

variable {s : State} {c : Course} {cs : List Course} {r : StrokeRecord} {a b : Bool} {p : Nat} {h : Head}

/-! ## The fault -/

/-- A selection other than MISS while the head's pulse runs is not issued: it is the fault (R153). -/
theorem State.select_overspeed (hr : s.heads.stroke = some r) (hact : s.actionAt h r.next[h] ≠ .miss)
    (hpulse : s.heads.pulses[h] = true) : s.select h = s.strokeFault .overspeed none (some h) := by
  simp only [State.select, hr]
  rw [if_neg hact, if_pos hpulse]

theorem State.withFreeIndex_sameBut (s : State) (n : Nat) : (s.withFreeIndex n).sameBut s [.freeIndex] := by
  intro y hy
  cases y <;> simp_all [Block.same]

/-- After a fault every head's lines are at rest and no pulse runs (R163). -/
theorem State.silent_heads {x : HeadSequencers} (hs : s.heads = x.silence) (h : Head) :
    s.headLines h = (false, false, false) ∧ s.heads.pulses[h] = false := by
  rw [State.headLines_eq, hs, HeadSequencers.silence_lines]
  exact ⟨rfl, HeadSequencers.silence_pulses x h⟩

/-- A carrier that was ENGAGED before the count is HELD where the catcher stands after it (R106, R123). -/
theorem State.counted_hold (s : State) (r : StrokeRecord) (a b : Bool) (p : Nat) (k : Carrier) :
    (s.counted r a b p).carriers[k].hold = match (s.followed r.direction p k).status with
      | .engaged x => ⟨.held x, s.carriers[k].rail⟩
      | _ => s.followed r.direction p k := by
  have hheld := CarrierEntry.hold_eq (s.followed r.direction p k)
  rw [State.followed_rail] at hheld
  rw [State.counted_carriers]
  exact hheld

/-- An OVERSPEED of head `h` taken as P moves, block by block (R162 to R164). -/
theorem State.counted_overspeed (hkn : s.knits c r) (hq : s.queue.courses = c :: cs) (n : Nat) (h : Head) :
    let t := ((s.counted r a b p).withFreeIndex n).strokeFault .overspeed none (some h)
    t.queue = { s.queue with courses := { c with state := .faulted, lastFault := some .overspeed } :: cs } ∧
    t.stops = { s.stops with
      latch := true, faultRecord := some ⟨c.tag, .overspeed, none, some h, p, r.next, false⟩ } ∧
    t.heads = HeadSequencers.silence { s.heads with stroke := some { r with furthest := r.reach p } } ∧
    (∀ k : Carrier, t.carriers[k] = (s.counted r a b p).carriers[k].hold) ∧
    t.patternReasons = { s.patternReasons with fault := true } ∧
    t.driveReasons = { s.driveReasons with fault := true } ∧
    t.sameBut (s.moved a b p) [.queue, .stops, .heads, .carriers, .retained, .patternReasons, .driveReasons,
      .reasonCounts, .freeIndex] := by
  have hframe : ((s.counted r a b p).withFreeIndex n).sameBut (s.moved a b p) [.freeIndex, .heads, .carriers, .retained] :=
    State.counted_frame _ ((State.withFreeIndex_sameBut _ n).mono (by simp)) (by simp)
  obtain ⟨hheads, hcarriers, hqueue, hstops, hpattern, hdrive, -⟩ :=
    State.strokeFault_effect (s := (s.counted r a b p).withFreeIndex n) (c := c) (cs := cs)
      (by rw [State.withFreeIndex_queue, State.counted_queue, hq]) hkn.2.1 .overspeed none (some h)
  have hrecord : ((s.counted r a b p).withFreeIndex n).faultRecordNow c .overspeed none (some h) =
      ⟨c.tag, .overspeed, none, some h, p, r.next, false⟩ := by
    rw [State.faultRecordNow, hframe .pos (by decide)]
    rfl
  refine ⟨?_, ?_, hheads, hcarriers, ?_, ?_, ((State.strokeFault_sameBut _ _ _).mono (by simp)).trans
    (hframe.mono (by simp))⟩
  · rw [hqueue, hframe .queue (by decide)]
    rfl
  · rw [hstops, hrecord, hframe .stops (by decide)]
    rfl
  · rw [hpattern, hframe .patternReasons (by decide)]
    rfl
  · rw [hdrive, hframe .driveReasons (by decide)]
    rfl

/-- A count whose one work due is a selection on a head whose pulse is running (R150, R153); the free index moves with the
fault (log 12). -/
theorem exec_count_overspeed (hkn : s.knits c r) (hd : c.direction = r.direction) (hc : s.countsTo a b p)
    (hdue : (s.counted r a b p).dueWork { r with furthest := r.reach p } s.pos.count = [.select h])
    (hact : (s.counted r a b p).actionAt h r.next[h] ≠ .miss) (hpulse : s.heads.pulses[h] = true) :
    exec (.encoderTransition a b) s = .next
      (((s.counted r a b p).withFreeIndex (s.freeIndex + 1)).strokeFault .overspeed none (some h)) := by
  have hfault : (s.counted r a b p).faulting { r with furthest := r.reach p } s.pos.count (.select h) = true :=
    Bool.and_eq_true_iff.2 ⟨decide_eq_true hact, hpulse⟩
  have hknitting : ((s.counted r a b p).withFreeIndex (s.freeIndex + 1)).headIs .knitting = true := hkn.counted_headIs
  rw [exec_count_single hkn hd hc hdue, if_pos hfault, State.runWork, if_pos hknitting]
  exact congrArg _ (State.select_overspeed (r := { r with furthest := r.reach p }) rfl hact hpulse)

/-! ## The end of a pulse -/

/-- The heads after the pulse of head `h` has ended (R152). -/
def HeadSequencers.endPulse (x : HeadSequencers) (h : Head) : HeadSequencers :=
  { x with pulses := x.pulses.set h.val false, lines := x.lines.set h.val .miss }

theorem HeadSequencers.endPulse_lines (x : HeadSequencers) (h h' : Head) :
    (x.endPulse h).lines[h'] = if h' = h then .miss else x.lines[h'] := by
  simp [HeadSequencers.endPulse, Vector.getElem_set, Fin.ext_iff, eq_comm]

theorem HeadSequencers.endPulse_pulses (x : HeadSequencers) (h h' : Head) :
    (x.endPulse h).pulses[h'] = if h' = h then false else x.pulses[h'] := by
  simp [HeadSequencers.endPulse, Vector.getElem_set, Fin.ext_iff, eq_comm]

theorem exec_pulseEnd_running (hpulse : s.heads.pulses[h] = true) :
    exec (.pulseEnd h) s = .next (s.withHeads (s.heads.endPulse h)) :=
  congrArg _ (if_pos hpulse)

/-- Without a pulse running there is no such event (log 6). -/
theorem exec_pulseEnd_idle (hpulse : s.heads.pulses[h] = false) : exec (.pulseEnd h) s = .next s :=
  congrArg _ (if_neg (Bool.eq_false_iff.1 hpulse))

theorem State.withHeads_sameBut (s : State) (x : HeadSequencers) : (s.withHeads x).sameBut s [.heads] := by
  intro y hy
  cases y <;> simp_all [Block.same]

/-- Settles O45: the late selection and its record, the count that brings it, and the end of a pulse. -/
theorem pulsesAndOverspeed : Obligations.PulsesAndOverspeed := by
  refine ⟨⟨fun s c r h hkn hpulse hact => ?_, ?_⟩, fun s h => ⟨fun hpulse => ?_, exec_pulseEnd_idle⟩⟩
  · have ⟨hhead, hk, hstroke⟩ := hkn
    obtain ⟨cs, hq⟩ : ∃ cs, s.queue.courses = c :: cs := List.head?_eq_some_iff.1 hhead
    obtain ⟨-, -, -, hstops, -⟩ := State.strokeFault_effect hq hk .overspeed none (some h)
    have hselect := State.select_overspeed hstroke hact hpulse
    refine ⟨hselect, s.faultRecordNow c .overspeed none (some h), by rw [hselect, hstops], rfl, ?_, rfl⟩
    rw [State.faultRecordNow, hstroke]
  · intro s c cs r a b p h hkn hq hd hc hmoves hthere hheads hquiet hwithin i hlow hhigh hlist hpulse
    have hact : (s.counted r a b p).actionAt h r.next[h] ≠ .miss := by
      rw [State.actionAt_eq, State.counted_geo, State.counted_image, State.counted_pos, listEntry, if_pos ⟨hlow, hhigh⟩]
      exact hlist
    have hdue := State.counted_dueWork_select (a := a) (b := b) hmoves hthere hheads hquiet hwithin
    obtain ⟨hqueue, hstops, hafter, hcarriers, hpattern, hdrive, hframe⟩ :=
      State.counted_overspeed (a := a) (b := b) (p := p) hkn hq (s.freeIndex + 1) h
    exact ⟨_, exec_count_overspeed hkn hd hc hdue hact hpulse, hqueue, hstops, congrArg HeadSequencers.stroke hafter,
      State.silent_heads hafter, fun k => (hcarriers k).trans (s.counted_hold r a b p k), hpattern, hdrive, hframe⟩
  · refine ⟨_, exec_pulseEnd_running hpulse, rfl, s.heads.endPulse_lines h, fun h' => ?_,
      s.heads.endPulse_pulses h, s.withHeads_sameBut _⟩
    rw [State.headLines_eq, State.headLines_eq, State.withHeads_heads, HeadSequencers.endPulse_lines, apply_ite Action.pins]
    rfl

end Sys2Proof.Machine
end

section
/-! O51. The power-fail warning by the state of the head course, and the resume record it takes (R146, R169, R170). -/

namespace Sys2Proof.Machine

variable {s : State} {c : Course} {cs : List Course}

/-! ## The event -/

/-- The state with PFW asserted. -/
def State.pfwAsserted (s : State) : State := s.withPins { s.pins with pfw := true }

theorem exec_pfwAssertion_running (hp : s.phase = .running) (hpfw : s.pins.pfw = false) :
    exec .pfwAssertion s = .next s.pfwAsserted.takePfw := by
  change execPfwAssertion s = _
  simp only [execPfwAssertion, hpfw, hp, Bool.false_eq_true, if_false]
  rfl

/-- An assertion of an input that is asserted already is no event (log 6). -/
theorem exec_pfwAssertion_again (hpfw : s.pins.pfw = true) : exec .pfwAssertion s = .next s := by
  change execPfwAssertion s = _
  simp only [execPfwAssertion, hpfw, if_true]

/-- An input that is asserted already is left as it is. -/
theorem State.pfwAsserted_self (hpfw : s.pins.pfw = true) : s.pfwAsserted = s := by
  rw [State.pfwAsserted, ← hpfw]
  rfl

/-- While the part does not run only the input changes (log 18). -/
theorem exec_pfwAssertion_recorded (hp : s.phase ≠ .running) : exec .pfwAssertion s = .next s.pfwAsserted := by
  cases hpfw : s.pins.pfw with
  | true => rw [exec_pfwAssertion_again hpfw, State.pfwAsserted_self hpfw]
  | false =>
    change execPfwAssertion s = _
    cases hphase : s.phase with
    | running => exact absurd hphase hp
    | _ =>
      simp only [execPfwAssertion, hpfw, hphase, Bool.false_eq_true, if_false]
      rfl

theorem State.pfwAsserted_sameBut (s : State) : s.pfwAsserted.sameBut s [.pins] := by
  intro y hy
  cases y <;> simp_all [Block.same, State.pfwAsserted]

/-! ## The warning's effect on the head course (R169) -/

/-- The warning by the state of the head course. -/
theorem State.warnCourse_cons (h : s.queue.courses = c :: cs) : s.warnCourse =
    match c.state with
    | .queued => s
    | .arming => s.returnToQueued
    | .armed => s.returnToQueued
    | .knitting => s.strokeFault .powerWarning none none
    | .faulted => s := by
  simp only [State.warnCourse, State.head?_cons h, Option.map_some]
  cases c.state <;> rfl

/-- No course, a QUEUED one and a FAULTED one stay as they are. -/
theorem State.warnCourse_still (h : ∀ c cs, s.queue.courses = c :: cs → c.state = .queued ∨ c.state = .faulted) :
    s.warnCourse = s := by
  rcases hq : s.queue.courses with _ | ⟨c, cs⟩
  · simp [State.warnCourse, State.head?, hq]
  · rw [State.warnCourse_cons hq]
    rcases h c cs hq with hc | hc <;> rw [hc]

theorem State.warnCourse_requeues (h : s.queue.courses = c :: cs) (hc : c.state = .arming ∨ c.state = .armed) :
    s.warnCourse = s.returnToQueued := by
  rw [State.warnCourse_cons h]
  rcases hc with hc | hc <;> rw [hc]

theorem State.warnCourse_faults (h : s.queue.courses = c :: cs) (hc : c.state = .knitting) :
    s.warnCourse = s.strokeFault .powerWarning none none := by
  rw [State.warnCourse_cons h, hc]

/-- Every warning leaves the course as it is, sends it back to QUEUED, or faults it. -/
theorem State.warnCourse_cases (s : State) : s.warnCourse = s ∨
    (∃ c cs, s.queue.courses = c :: cs ∧ (c.state = .arming ∨ c.state = .armed) ∧ s.warnCourse = s.returnToQueued) ∨
    ∃ c cs, s.queue.courses = c :: cs ∧ c.state = .knitting ∧ s.warnCourse = s.strokeFault .powerWarning none none := by
  rcases hq : s.queue.courses with _ | ⟨c, cs⟩
  · exact .inl (State.warnCourse_still fun c cs h => by simp [hq] at h)
  · cases hc : c.state with
    | arming => exact .inr (.inl ⟨c, cs, rfl, .inl hc, State.warnCourse_requeues hq (.inl hc)⟩)
    | armed => exact .inr (.inl ⟨c, cs, rfl, .inr hc, State.warnCourse_requeues hq (.inr hc)⟩)
    | knitting => exact .inr (.inr ⟨c, cs, rfl, hc, State.warnCourse_faults hq hc⟩)
    | _ => exact .inl (by rw [State.warnCourse_cons hq, hc])

/-- The head course keeps its place, its tag and its rows (R71, R163). -/
theorem State.warnCourse_head (h : s.queue.courses = c :: cs) :
    ∃ c', s.warnCourse.head? = some c' ∧ c'.tag = c.tag ∧ c'.resolved = c.resolved := by
  rcases s.warnCourse_cases with hw | ⟨d, ds, hd, -, hw⟩ | ⟨d, ds, hd, hk, hw⟩
  · exact ⟨c, by rw [hw, State.head?_cons h], rfl, rfl⟩
  · obtain ⟨hqueue, -⟩ := State.returnToQueued_effect h
    exact ⟨{ c with state := .queued }, by rw [hw, State.head?, hqueue]; rfl, rfl, rfl⟩
  · obtain ⟨rfl, -⟩ := List.cons.inj (h.symm.trans hd)
    obtain ⟨-, -, hqueue, -⟩ := State.strokeFault_effect h hk .powerWarning none none
    exact ⟨{ c with state := .faulted, lastFault := some .powerWarning }, by rw [hw, State.head?, hqueue]; rfl, rfl, rfl⟩

/-- The warning only adds to the changes waiting for retained memory. -/
theorem State.warnCourse_retained (s : State) :
    ∃ l, s.warnCourse.retained = { s.retained with writes := s.retained.writes ++ l } := by
  rcases s.warnCourse_cases with hw | ⟨d, ds, -, -, hw⟩ | ⟨d, ds, hd, hk, hw⟩
  · exact ⟨[], by rw [hw, List.append_nil]⟩
  · exact ⟨[], by rw [hw, State.returnToQueued_retained, List.append_nil]⟩
  · obtain ⟨-, -, -, -, -, -, -, hretained⟩ := State.strokeFault_effect hd hk .powerWarning none none
    rwa [hw]

/-- Without a KNITTING course the stop unit stays. -/
theorem State.warnCourse_stops (h : s.headIs .knitting = false) : s.warnCourse.stops = s.stops := by
  rcases s.warnCourse_cases with hw | ⟨d, ds, -, -, hw⟩ | ⟨d, ds, hd, hk, -⟩
  · rw [hw]
  · rw [hw, State.returnToQueued_stops]
  · simp [State.headIs_cons hd, hk] at h

/-! ## The latch, the supply and the resume record (R146, R169, R170) -/

/-- The resume record a warning takes. -/
def State.pfwRecord (s : State) : ResumeRecord := s.warnCourse.resumeRecordAfter (s.head?.map Course.state)

/-- A warning is its effect on the course, then the latch, the supply and the record; no course is ARMING by then, so the
latch leaves no stop-seen note (log 27). -/
theorem State.takePfw_eq (s : State) : s.takePfw =
    ((s.warnCourse.withStops { s.warnCourse.stops with latch := true, resume := some s.pfwRecord }).withSupply
      .standby).queueRetained (.resume s.pfwRecord) := by
  have hidle : s.warnCourse.headIs .arming = false := State.headIs_eq_false_iff.2 s.warnCourse_standing.2.1
  rw [State.takePfw, State.setLatch_eq hidle]
  rfl

theorem State.takePfw_stops (s : State) :
    s.takePfw.stops = { s.warnCourse.stops with latch := true, resume := some s.pfwRecord } := by
  rw [State.takePfw_eq]
  rfl

theorem State.takePfw_supply (s : State) : s.takePfw.supply = .standby := by
  rw [State.takePfw_eq]
  rfl

theorem State.takePfw_sameBut (s : State) : s.takePfw.sameBut s.warnCourse [.supply, .stops, .retained] := by
  rw [State.takePfw_eq]
  intro y hy
  cases y <;> simp_all [Block.same]

/-- The record waits to be written, behind what the warning itself has to write. -/
theorem State.takePfw_retained (s : State) : ∃ l, s.takePfw.retained =
    { s.retained with writes := s.retained.writes ++ l ++ [.resume s.pfwRecord] } := by
  obtain ⟨l, hl⟩ := s.warnCourse_retained
  refine ⟨l, ?_⟩
  rw [State.takePfw_eq, State.queueRetained, State.withRetained_retained, State.withSupply_retained,
    State.withStops_retained, hl]

theorem State.pfwRecord_pointers (s : State) : s.pfwRecord.pointers = s.ptrs := s.warnCourse_ptrs

/-- The record carries the fault record of a course that is FAULTED after the warning. -/
theorem State.pfwRecord_fault (s : State) :
    s.pfwRecord.fault = if s.takePfw.headIs .faulted then s.takePfw.stops.faultRecord else none := by
  rw [State.takePfw_eq]
  rfl

theorem State.pfwRecord_empty (h : s.queue.courses = []) : s.pfwRecord.head = none ∧ s.pfwRecord.rows = [] := by
  have hwarned : s.warnCourse = s := State.warnCourse_still fun c cs hq => by simp [h] at hq
  have hhead : s.head? = none := by simp [State.head?, h]
  simp [State.pfwRecord, hwarned, State.resumeRecordAfter, hhead]

/-- The record names the head course with its state before the warning, and its rows. -/
theorem State.pfwRecord_cons (h : s.queue.courses = c :: cs) :
    s.pfwRecord.head = some (c.tag, c.state) ∧ s.pfwRecord.rows = c.resolved := by
  obtain ⟨c', hhead, htag, hrows⟩ := State.warnCourse_head h
  simp [State.pfwRecord, State.resumeRecordAfter, hhead, State.head?_cons h, htag, hrows]

/-! ## The warning by the state of the head course -/

theorem State.takePfw_still (h : s.warnCourse = s) : s.takePfw.sameBut s [.supply, .stops, .retained] := by
  have hframe := s.takePfw_sameBut
  rwa [h] at hframe

/-- An ARMING or ARMED course is back at QUEUED (R71, R169). -/
theorem State.takePfw_requeues (h : s.queue.courses = c :: cs) (hc : c.state = .arming ∨ c.state = .armed) :
    s.takePfw.queue = { s.queue with courses := { c with state := .queued } :: cs } ∧
    s.takePfw.mem = ⟨s.mem.cells, []⟩ ∧ s.takePfw.tech = ⟨s.tech.tables, []⟩ ∧ s.takePfw.image = .cleared ∧
    s.takePfw.arm = { s.arm with stage := none } ∧
    s.takePfw.driveReasons = { s.driveReasons with
      grantReady := s.driveReasons.grantReady && decide (c.state = .arming) } ∧
    s.takePfw.sameBut s [.supply, .stops, .retained, .queue, .mem, .tech, .image, .arm, .driveReasons] := by
  have hframe := s.takePfw_sameBut
  rw [State.warnCourse_requeues h hc] at hframe
  obtain ⟨hqueue, hmem, htech, himage, harm, hdrive⟩ := State.returnToQueued_effect h
  have hgrant : (!decide (c.state = .armed)) = decide (c.state = .arming) := by
    rcases hc with hc | hc <;> rw [hc] <;> rfl
  rw [hgrant] at hdrive
  exact ⟨(hframe .queue (by decide)).trans hqueue, (hframe .mem (by decide)).trans hmem,
    (hframe .tech (by decide)).trans htech, (hframe .image (by decide)).trans himage,
    (hframe .arm (by decide)).trans harm, (hframe .driveReasons (by decide)).trans hdrive,
    (hframe.mono (by simp)).trans (s.returnToQueued_sameBut.mono (by simp))⟩

/-- A KNITTING course takes the POWER_WARNING fault (R163, R164, R169). -/
theorem State.takePfw_faults (h : s.queue.courses = c :: cs) (hc : c.state = .knitting) :
    s.takePfw.queue = { s.queue with courses := { c with state := .faulted, lastFault := some .powerWarning } :: cs } ∧
    s.takePfw.stops.faultRecord = some (s.faultRecordNow c .powerWarning none none) := by
  obtain ⟨-, -, hqueue, hstops, -⟩ := State.strokeFault_effect h hc .powerWarning none none
  have hwarned := State.warnCourse_faults h hc
  refine ⟨?_, ?_⟩
  · rw [s.takePfw_sameBut .queue (by decide), hwarned, hqueue]
  · rw [State.takePfw_stops, hwarned, hstops]

/-- Settles O51: the warning taken from the state with PFW asserted, then the assertions that only record the input and the
release. -/
theorem powerFailWarning : Obligations.PowerFailWarning := by
  refine ⟨fun s hp hpfw => ?_, fun s => exec_pfwAssertion_again, fun s => exec_pfwAssertion_recorded, fun s => rfl⟩
  have hstill (hw : s.pfwAsserted.warnCourse = s.pfwAsserted)  :
      s.pfwAsserted.takePfw.sameBut s [.pins, .supply, .stops, .retained] :=
    ((State.takePfw_still hw).mono (by simp)).trans (s.pfwAsserted_sameBut.mono (by simp))
  have hstops := s.pfwAsserted.takePfw_stops
  refine ⟨_, s.pfwAsserted.pfwRecord, exec_pfwAssertion_running hp hpfw, s.pfwAsserted.takePfw_pins,
    s.pfwAsserted.takePfw_supply, by rw [hstops], by rw [hstops], s.pfwAsserted.takePfw_retained,
    s.pfwAsserted.pfwRecord_pointers, s.pfwAsserted.pfwRecord_fault, fun hq => ?_, fun hk => ?_, fun c cs hq => ?_⟩
  · obtain ⟨hhead, hrows⟩ := State.pfwRecord_empty (s := s.pfwAsserted) hq
    exact ⟨hhead, hrows, hstill (State.warnCourse_still fun c cs h => by cases hq.symm.trans h)⟩
  · rw [hstops, State.warnCourse_stops (s := s.pfwAsserted) hk]
    rfl
  · obtain ⟨hhead, hrows⟩ := State.pfwRecord_cons (s := s.pfwAsserted) hq
    refine ⟨hhead, hrows, fun hc => hstill (State.warnCourse_still fun d ds h => ?_), fun hc => ?_, fun hc => ?_⟩
    · obtain ⟨rfl, -⟩ := List.cons.inj (hq.symm.trans h)
      exact hc
    · obtain ⟨hqueue, hmem, htech, himage, harm, hdrive, hframe⟩ := State.takePfw_requeues (s := s.pfwAsserted) hq hc
      exact ⟨hqueue, hmem, htech, himage, harm, hdrive,
        (hframe.mono (by simp)).trans (s.pfwAsserted_sameBut.mono (by simp))⟩
    · obtain ⟨hqueue, hfault⟩ := State.takePfw_faults (s := s.pfwAsserted) hq hc
      exact ⟨hqueue, _, hfault, rfl, rfl, rfl⟩

end Sys2Proof.Machine
end

section
/-! O48. A stroke fault and what it leaves; outside KNITTING a fault cause raises none (R162 to R164). -/

namespace Sys2Proof.Machine

variable {s : State} {r : StrokeRecord}

theorem FaultReason.resumable_eq_decide (x : FaultReason) :
    x.resumable = decide (x = .stopRequest ∨ x = .yarnBreak) := by
  rw [Bool.eq_iff_iff, FaultReason.resumable_iff, decide_eq_true_iff]

/-- The fault record while a stroke record stands, field by field (R162, R164). -/
theorem State.faultRecordNow_eq (hr : s.heads.stroke = some r) (c : Course) (reason : FaultReason) (k : Option Carrier)
    (h : Option Head) : s.faultRecordNow c reason k h = ⟨c.tag, reason, k, h, s.pos.count, r.next,
      decide (reason = .stopRequest ∨ reason = .yarnBreak)⟩ := by
  rw [State.faultRecordNow, hr, FaultReason.resumable_eq_decide]

/-- Settles O48: no fault outside KNITTING, and the effects on a KNITTING head course block by block, with the fault record
read off the stroke record that the fault keeps. -/
theorem strokeFaultEffects : Obligations.StrokeFaultEffects := by
  refine fun s reason carrier head => ⟨fun hidle => State.strokeFault_idle hidle reason carrier head,
    fun c cs r hq hk hr => ?_⟩
  obtain ⟨hheads, hcarriers, hqueue, hstops, hpattern, hdrive, hcounts, hretained⟩ :=
    State.strokeFault_effect hq hk reason carrier head
  refine ⟨_, rfl, ?_, fun h => ⟨?_, ?_⟩, fun k => ?_, hqueue, ?_, hpattern, hdrive, hcounts, hretained, ?_⟩
  · rw [hheads]
    exact hr
  · rw [hheads, HeadSequencers.silence_lines]
  · rw [hheads, HeadSequencers.silence_pulses]
  · rw [hcarriers]
    exact CarrierEntry.hold_eq _
  · rw [hstops, State.faultRecordNow_eq hr]
  · exact (State.strokeFault_sameBut reason carrier head).mono (by simp)

end Sys2Proof.Machine
end

section
/-! O1. A step is the command at the front of the queue; an empty queue idles (R173, R176; log 1). -/

namespace Sys2Proof.Machine

theorem step_withPending_cons (c : Instr) (rest : List Instr) (s : State) :
    step (s.withPending (c :: rest)) = exec c (s.withPending rest) := rfl

theorem step_of_pending_nil {s : State} (h : s.pending = []) : step s = .next s := by
  simp only [step, h]

/-- Settles O1, from the two cases of the queue. -/
theorem stepTakesFront : Obligations.StepTakesFront :=
  ⟨step_withPending_cons, fun _ => step_of_pending_nil⟩

end Sys2Proof.Machine
end

section
/-! O2. Decoding the frame of a well-formed command gives the command back (R173, R181, R182). -/

namespace Sys2Proof

/-! ## Words read back from their bytes (R181) -/

theorem wordBytes_append (x : BitVec 16) : x.extractLsb' 8 8 ++ x.extractLsb' 0 8 = x :=
  (BitVec.extractLsb'_append_extractLsb'_eq_extractLsb' rfl).trans BitVec.extractLsb'_eq_self

theorem longBytes_append (x : BitVec 32) :
    (x.extractLsb' 24 8 ++ x.extractLsb' 16 8) ++ (x.extractLsb' 8 8 ++ x.extractLsb' 0 8) = x := by
  have hhigh : x.extractLsb' 24 8 ++ x.extractLsb' 16 8 = x.extractLsb' 16 16 :=
    BitVec.extractLsb'_append_extractLsb'_eq_extractLsb' rfl
  have hlow : x.extractLsb' 8 8 ++ x.extractLsb' 0 8 = x.extractLsb' 0 16 :=
    BitVec.extractLsb'_append_extractLsb'_eq_extractLsb' rfl
  rw [hhigh, hlow]
  exact (BitVec.extractLsb'_append_extractLsb'_eq_extractLsb' rfl).trans BitVec.extractLsb'_eq_self

@[simp] theorem paramByte_cons_zero (b : Byte) (p : List Byte) : paramByte (b :: p) 0 = b := rfl

@[simp] theorem paramByte_cons_succ (b : Byte) (p : List Byte) (i : Nat) :
    paramByte (b :: p) (i + 1) = paramByte p i := rfl

@[simp] theorem paramByte_word_succ (x : BitVec 16) (p : List Byte) (i : Nat) :
    paramByte (wordBytes x ++ p) (i + 2) = paramByte p i := rfl

@[simp] theorem paramWord_word_zero (x : BitVec 16) (p : List Byte) : paramWord (wordBytes x ++ p) 0 = x :=
  wordBytes_append x

@[simp] theorem paramWord_cons_succ (b : Byte) (p : List Byte) (i : Nat) :
    paramWord (b :: p) (i + 1) = paramWord p i := rfl

@[simp] theorem paramWord_word_succ (x : BitVec 16) (p : List Byte) (i : Nat) :
    paramWord (wordBytes x ++ p) (i + 2) = paramWord p i := rfl

theorem endOf_of_length {need have_ : Nat} (h : have_ = need) : endOf need have_ 0 = .fits := if_pos ⟨h, rfl⟩

/-! ## The course record (R182) -/

theorem decodeEntry_encodeEntry (e : EntryFrame) (p : List Byte) : decodeEntry (encodeEntry e ++ p) = e := by
  simp [decodeEntry, encodeEntry]

theorem decodeEntries_encodeEntries (l : List EntryFrame) : decodeEntries l.length (l.flatMap encodeEntry) = l := by
  induction l with
  | nil => rfl
  | cons e l ih =>
    rw [List.flatMap_cons, List.length_cons, decodeEntries, decodeEntry_encodeEntry,
      List.drop_left' (Laws.encodeEntry_length e), ih]

/-- The entry count of a course record, read back from its byte. -/
theorem paramByte_encodeCourse {r : CourseFrame} (h : r.entries.length < 256) :
    (paramByte (encodeCourse r) 11).toNat = r.entries.length := by
  have hbyte : paramByte (encodeCourse r) 11 = BitVec.ofNat 8 r.entries.length := rfl
  rw [hbyte, BitVec.toNat_ofNat, Nat.mod_eq_of_lt (by omega)]

theorem decodeCourse_encodeCourse {r : CourseFrame} (h : r.entries.length < 256) :
    decodeCourse (encodeCourse r) = r := by
  have hentries : (encodeCourse r).drop 12 = r.entries.flatMap encodeEntry := rfl
  rw [decodeCourse, paramByte_encodeCourse h, if_pos (Laws.encodeCourse_length r), hentries,
    decodeEntries_encodeEntries]
  simp [encodeCourse]

/-! ## Frames whose length depends on their parameters (R28, R30, R33, R65) -/

theorem decodeFrame_writeRow (row start : BitVec 16) (data : List Byte) :
    decodeFrame .pattern (0x10 :: (wordBytes row ++ wordBytes start ++ data)) 0 =
      some (.writeRow .fits row start data) := by
  have hlength : (wordBytes row ++ wordBytes start ++ data).length =
      (Layout.writeRow ((wordBytes row ++ wordBytes start ++ data).length - 4)).length := by
    simp [FrameShape.length, Layout.writeRow, wordBytes]
    omega
  have hdecode : decodeFrame .pattern (0x10 :: (wordBytes row ++ wordBytes start ++ data)) 0 = some (.writeRow
      (endOf _ (wordBytes row ++ wordBytes start ++ data).length 0)
      (row.extractLsb' 8 8 ++ row.extractLsb' 0 8) (start.extractLsb' 8 8 ++ start.extractLsb' 0 8) data) := rfl
  rw [hdecode, endOf_of_length hlength, wordBytes_append, wordBytes_append]

theorem decodeFrame_rowContinue (data : List Byte) :
    decodeFrame .pattern (0x11 :: data) 0 = some (.rowContinue .fits data) :=
  congrArg (fun e => some (Instr.rowContinue e data)) (endOf_of_length (by rfl))

theorem decodeFrame_readRow (row start count : BitVec 16) {p : List Byte}
    (hp : p.length = (Layout.readRow count).reply) :
    decodeFrame .pattern (0x12 :: (wordBytes row ++ wordBytes start ++ wordBytes count ++ p)) 0 =
      some (.readRow (.whole .fits) row start count) := by
  have hdecode : decodeFrame .pattern (0x12 :: (wordBytes row ++ wordBytes start ++ wordBytes count ++ p)) 0 =
      some (.readRow (.whole (endOf (Layout.readRow (count.extractLsb' 8 8 ++ count.extractLsb' 0 8)).length
          (wordBytes row ++ wordBytes start ++ wordBytes count ++ p).length 0))
        (row.extractLsb' 8 8 ++ row.extractLsb' 0 8) (start.extractLsb' 8 8 ++ start.extractLsb' 0 8)
        (count.extractLsb' 8 8 ++ count.extractLsb' 0 8)) := rfl
  have hlength : (wordBytes row ++ wordBytes start ++ wordBytes count ++ p).length = (Layout.readRow count).length := by
    rw [List.length_append, hp]
    rfl
  rw [hdecode, wordBytes_append, wordBytes_append, wordBytes_append, endOf_of_length hlength]

theorem decodeFrame_commitCourse {r : CourseFrame} (h : r.entries.length < 256) :
    decodeFrame .pattern (0x30 :: encodeCourse r) 0 = some (.commitCourse .fits r) := by
  have hdecode : decodeFrame .pattern (0x30 :: encodeCourse r) 0 = some (.commitCourse
      (endOf (Layout.commitCourse (paramByte (encodeCourse r) 11).toNat).length (encodeCourse r).length 0)
      (decodeCourse (encodeCourse r))) := rfl
  have hlength : (encodeCourse r).length = (Layout.commitCourse r.entries.length).length := Laws.encodeCourse_length r
  rw [hdecode, paramByte_encodeCourse h, decodeCourse_encodeCourse h, endOf_of_length hlength]

/-! ## The frame of a command (R173, R181) -/

/-- The bytes of a whole frame, its parameters and the zeros sent while the reply is clocked out, decode to the
command. -/
theorem decodeFrame_encodeParams {c : Instr} {f : FrameShape} (hs : c.shape = some f) (hw : c.wellFormed = true)
    (hfit : c.fitsWhole = true) :
    decodeFrame f.port (f.code :: (encodeParams c ++ List.replicate f.reply 0)) 0 = some c := by
  cases c with
  | readStatus port frame | softReset port frame | readGeometryField port frame | readFault port frame =>
    cases hs
    obtain rfl := of_decide_eq_true hfit
    cases port <;> rfl
  | writeRow frame row start data =>
    cases hs
    obtain rfl := of_decide_eq_true hfit
    simpa [encodeParams, Layout.writeRow] using decodeFrame_writeRow row start data
  | rowContinue frame data =>
    cases hs
    obtain rfl := of_decide_eq_true hfit
    simpa [encodeParams, Layout.rowContinue] using decodeFrame_rowContinue data
  | readRow frame row start count =>
    cases hs
    obtain rfl := of_decide_eq_true hfit
    exact decodeFrame_readRow row start count List.length_replicate
  | commitCourse frame record =>
    cases hs
    obtain rfl := of_decide_eq_true hfit
    have hentries : record.entries.length < 256 := by simpa [Instr.wellFormed] using hw
    simpa [encodeParams, Layout.commitCourse] using decodeFrame_commitCourse hentries
  | testCell frame row cell =>
    cases hs
    obtain rfl := of_decide_eq_true hfit
    exact congrArg₂ (fun r j => some (Instr.testCell (.whole .fits) r j)) (wordBytes_append row) (wordBytes_append cell)
  | exchangeCell frame row cell colour =>
    cases hs
    obtain rfl := of_decide_eq_true hfit
    exact congrArg₂ (fun r j => some (Instr.exchangeCell (.whole .fits) r j colour)) (wordBytes_append row)
      (wordBytes_append cell)
  | conditionalExchangeCell frame row cell expected new =>
    cases hs
    obtain rfl := of_decide_eq_true hfit
    exact congrArg₂ (fun r j => some (Instr.conditionalExchangeCell (.whole .fits) r j expected new))
      (wordBytes_append row) (wordBytes_append cell)
  | scanRow frame row a b set direction =>
    cases hs
    obtain rfl := of_decide_eq_true hfit
    have h := congrArg₂ (fun r a b set => some (Instr.scanRow (.whole .fits) r a b set direction))
      (wordBytes_append row) (wordBytes_append a)
    exact congr (congr h (wordBytes_append b)) (wordBytes_append set)
  | setPointer frame pointer current low high mode step =>
    cases hs
    obtain rfl := of_decide_eq_true hfit
    have h := congrArg₂ (fun c l h => some (Instr.setPointer .fits pointer c l h mode step)) (wordBytes_append current)
      (wordBytes_append low)
    exact congr h (wordBytes_append high)
  | setZone frame left right =>
    cases hs
    obtain rfl := of_decide_eq_true hfit
    exact congrArg₂ (fun l r => some (Instr.setZone .fits l r)) (wordBytes_append left) (wordBytes_append right)
  | setCarrier frame carrier position =>
    cases hs
    obtain rfl := of_decide_eq_true hfit
    exact congrArg (fun x => some (Instr.setCarrier .fits carrier x)) (wordBytes_append position)
  | setGeometryField frame field index value =>
    cases hs
    obtain rfl := of_decide_eq_true hfit
    exact congrArg (fun x => some (Instr.setGeometryField .fits field index x)) (longBytes_append value)
  | _ =>
    cases hs <;> (obtain rfl := of_decide_eq_true hfit; rfl)

/-- Of what has no row of the command table, an event has no frame and the frame of an unknown command no length to
fit. -/
theorem fitsWhole_of_shape_none {c : Instr} (hs : c.shape = none) (hw : c.wellFormed = true) : c.fitsWhole = false := by
  cases c with
  | unknownCommand port frame code =>
    cases frame with
    | fits => simp [Instr.wellFormed] at hw
    | misfit bytes bits | tooSoon bytes => rfl
  | _ => cases hs <;> rfl

/-- Settles O2, from the decoding of the parameters of each command of the command table. -/
theorem decodeOfEncode : Obligations.DecodeOfEncode := by
  intro c hw hfit
  cases hs : c.shape with
  | none => exact absurd hfit (Bool.eq_false_iff.1 (fitsWhole_of_shape_none hs hw))
  | some f => exact ⟨f.port, _, by rw [encodeFrame, hs]; rfl, decodeFrame_encodeParams hs hw hfit⟩

end Sys2Proof
end

section
/-! O6. READ_STATUS and the status word (R9, R177, R178, R182). -/

namespace Sys2Proof.Machine

variable {s : State}

/-! ## A byte of flags (R181) -/

theorem byteOf_natCast (n : Nat) : byteOf n = BitVec.ofNat 8 n := BitVec.ofInt_natCast 8 n

/-- The number a byte of flags is made of, as the natural number with these bits. -/
theorem foldr_flags_eq_bits (l : List Bool) :
    l.foldr (fun b n => 2 * n + (if b then 1 else 0)) (0 : Int) = (l.foldr Nat.bit 0 : Nat) := by
  induction l with
  | nil => rfl
  | cons b l ih =>
    rw [List.foldr_cons, ih, List.foldr_cons, Nat.bit_val]
    cases b <;> simp

theorem testBit_foldr_bit (l : List Bool) (i : Nat) : (l.foldr Nat.bit 0).testBit i = l.getD i false := by
  induction l generalizing i with
  | nil => simp
  | cons b l ih =>
    cases i with
    | zero => simp
    | succ i => simp [Nat.testBit_bit_succ, ih]

/-- A byte of flags has each flag at its place, the first in bit 0; the bits beyond the flags are clear. -/
theorem flagBits_getElem (l : List Bool) {i : Nat} (h : i < 8) : (flagBits l)[i] = l.getD i false := by
  rw [flagBits, foldr_flags_eq_bits, byteOf_natCast, ← BitVec.getLsbD_eq_getElem h, BitVec.getLsbD_ofNat,
    decide_eq_true h, Bool.true_and, testBit_foldr_bit]

/-! ## The bytes of the status word (R177, R182) -/

theorem SupplyState.code_bits (p : SupplyState) :
    p.code[0] = decide (p = .waking) ∧ p.code[1] = decide (p = .on) := by
  cases p <;> decide

/-- The code of the head course's state, 0 without a course. -/
def headStateCode : Option CourseState → Byte
  | none => 0
  | some st => st.code

theorem headStateCode_low (o : Option CourseState) : (headStateCode o).extractLsb' 0 4 = (match o with
    | none => 0#4 | some .queued => 1#4 | some .arming => 2#4 | some .armed => 3#4 | some .knitting => 4#4
    | some .faulted => 5#4) := by
  rcases o with _ | (_ | _ | _ | _ | _) <;> rfl

/-- A state's code stands in the low four bits. -/
theorem headStateCode_high (o : Option CourseState) :
    (headStateCode o)[4] = false ∧ (headStateCode o)[5] = false ∧ (headStateCode o)[6] = false ∧
      (headStateCode o)[7] = false := by
  rcases o with _ | (_ | _ | _ | _ | _) <;> decide

/-- Beside flags that leave the low four bits clear the code stays readable. -/
theorem extractLsb'_low_or_flags (x : Byte) (a b c : Bool) :
    (x ||| flagBits [false, false, false, false, a, b, c]).extractLsb' 0 4 = x.extractLsb' 0 4 := by
  refine BitVec.eq_of_getElem_eq fun i hi => ?_
  have hclear : (flagBits [false, false, false, false, a, b, c])[i]'(by omega) = false := by
    rw [flagBits_getElem]
    interval_cases i <;> rfl
  simp [BitVec.getLsbD_eq_getElem (show i < 8 by omega), hclear]

/-- The two bytes of a number of 16 bits are those a frame carries it in (R181). -/
theorem be2_toNat (x : BitVec 16) : be2 x.toNat = wordBytes x := by
  have hhigh : (x.toNat : Int) / 256 = (x.toNat / 256 : Nat) := (Int.natCast_ediv _ _).symm
  rw [be2, hhigh, byteOf_natCast, byteOf_natCast]
  simp [wordBytes, BitVec.extractLsb', Nat.shiftRight_eq_div_pow]

theorem State.statusWord_eq (s : State) (port : Port) : s.statusWord port =
    [flagBits [decide (s.geo.mode = .ready), s.geo.storeBusy, s.supply.code.getLsbD 0, s.supply.code.getLsbD 1,
        s.stops.latch, s.pos.valid, s.pos.rackKnown],
      headStateCode (s.head?.map Course.state) |||
        flagBits [false, false, false, false, s.geo.settingsBlank, s.retained.lost, s.load.overrun]] ++
    wordBytes ((s.head?.map Course.tag).getD 0) ++
    [BitVec.ofNat 8 s.queuedCount, BitVec.ofNat 8 s.queue.completions.length, s.attentionByte port] := by
  unfold State.statusWord
  rw [byteOf_natCast, byteOf_natCast]
  rcases s.head? with _ | c
  · rfl
  · dsimp only
    rw [be2_toNat]
    rfl

/-! ## The frame of READ_STATUS (R9, R177, R178) -/

/-- While the part runs a whole READ_STATUS frame is carried out, also while the settings store is written. -/
theorem exec_readStatus_whole (h : s.phase = .running) (port : Port) :
    exec (.readStatus port (.whole .fits)) s =
      .next ((clearShown (formStatus port s).carried s).closeFrame port .ok (s.statusWord port)) := by
  have hl : s.live = true := State.live_iff.2 (.inr h)
  have hb : s.busy true = false := State.busy_eq_false_iff.2 ⟨by simp [h], .inr rfl⟩
  refine congrArg Host.Outcome.next ((takeRead_whole_end hl fun _ => FrameEnd.noConfusion).trans ?_)
  simp only [State.formReply, endRead, hb, Bool.false_eq_true, if_false, finishRead_self]
  cases port <;> rfl

/-- With nothing between the reply and the end the three reasons are clear. -/
theorem clearShown_formStatus_self (s : State) : clearShown (formStatus .drive s).carried s =
    s.withDriveReasons { s.driveReasons with grantWithdrawn := false, strokeDone := false, wakeDone := false } := by
  simp [clearShown_formStatus, State.shownCleared]

/-- Settles O6, from the bytes of the status word and what a whole frame clears. -/
theorem readStatusReports : Obligations.ReadStatusReports := by
  refine ⟨fun s h => ⟨exec_readStatus_whole h .pattern, ?_⟩, fun s port => ?_, fun s => ?_, fun s => ?_⟩
  · rw [exec_readStatus_whole h .drive, clearShown_formStatus_self]
    rfl
  · rw [State.statusWord_eq]
    refine ⟨rfl, fun b0 b1 h0 h1 => ⟨?_, ?_, ?_⟩, rfl, rfl, rfl, rfl⟩
    · cases h0
      simp [flagBits_getElem, SupplyState.code_bits]
    · cases h1
      exact (extractLsb'_low_or_flags _ _ _ _).trans (headStateCode_low _)
    · cases h1
      simp [flagBits_getElem, headStateCode_high]
  · rw [State.statusWord_eq]
    refine ⟨_, rfl, ?_⟩
    simp [State.attentionByte, flagBits_getElem, State.coursesLow]
  · rw [State.statusWord_eq]
    refine ⟨_, rfl, ?_⟩
    simp [State.attentionByte, flagBits_getElem]

end Sys2Proof.Machine
end

section
/-! O7. SOFT_RESET (R27, R85, R109, R119, R143, R158, R179). -/

namespace Sys2Proof.Machine

variable {s : State}

/-! ## The frame of SOFT_RESET -/

/-- Whether the head course forbids a SOFT_RESET: it is ARMING, ARMED or KNITTING. -/
def State.underWay (s : State) : Bool := s.headIs .arming || s.headIs .armed || s.headIs .knitting

theorem State.breakLoad_underWay (s : State) (b : Bool) : (s.breakLoad b).underWay = s.underWay := by
  simp [State.underWay, State.headIs, State.head?]

theorem ownSoftReset_eq (s : State) : ownSoftReset s = if s.underWay then (.notNow, s) else (.ok, s.softReset) := rfl

/-- A SOFT_RESET frame clears the continuation flag on the Pattern Port, whatever it is answered (R27). -/
theorem exec_softReset_fits (h : s.open) (p : Port) : exec (.softReset p .fits) s =
    .next ((ownSoftReset (s.breakLoad (Port.breaksLoad p))).2.closeFrame p
      (ownSoftReset (s.breakLoad (Port.breaksLoad p))).1 []) :=
  congrArg Host.Outcome.next (takeWrite_fits h (Layout.softReset p) (Port.breaksLoad p) ownSoftReset)

theorem exec_softReset_refused (h : s.open) (hu : s.underWay = true) (p : Port) :
    exec (.softReset p .fits) s = .next ((s.breakLoad (Port.breaksLoad p)).closeFrame p .notNow []) := by
  rw [exec_softReset_fits h, ownSoftReset_eq, State.breakLoad_underWay, hu, if_pos rfl]

theorem exec_softReset_accepted (h : s.open) (hu : s.underWay = false) (p : Port) :
    exec (.softReset p .fits) s = .next ((s.breakLoad (Port.breaksLoad p)).softReset.closeFrame p .ok []) := by
  rw [exec_softReset_fits h, ownSoftReset_eq, State.breakLoad_underWay, hu, if_neg Bool.false_ne_true]

theorem State.closeFrame_port (s : State) (p : Port) (r : ResultCode) (l : List Byte) :
    (s.closeFrame p r l).port p = ⟨r, none, (s.port p).lastResult.code :: l⟩ := State.withPort_port _ _ _

/-- The end of a frame touches its port alone, and the load cursor where the frame breaks a load. -/
theorem State.breakLoad_closeFrame_sameBut (s : State) (b : Bool) (p : Port) (r : ResultCode) (l : List Byte) :
    ((s.breakLoad b).closeFrame p r l).sameBut s [.load, .patternPort, .drivePort] := by
  intro x hx
  cases p <;> cases x <;> simp_all [Block.same]

theorem State.breakLoad_load (s : State) (p : Port) : (s.breakLoad (Port.breaksLoad p)).load =
    if p = .pattern then ⟨s.load.row, s.load.cell, false, s.load.overrun⟩ else s.load := by
  cases p <;> rfl

/-! ## The blocks after a SOFT_RESET -/

/-- What SOFT_RESET does to an open FETCH_COMPLETION frame stays within the frame (R78). -/
theorem PortState.dropCompletion_eq (p : PortState) : ∃ frame, p.dropCompletion = { p with frame := frame } := by
  unfold PortState.dropCompletion
  split
  · split <;> exact ⟨_, rfl⟩
  · exact ⟨_, rfl⟩

@[simp] theorem PortState.dropCompletion_lastResult (p : PortState) : p.dropCompletion.lastResult = p.lastResult := by
  obtain ⟨frame, h⟩ := p.dropCompletion_eq
  rw [h]

@[simp] theorem PortState.dropCompletion_out (p : PortState) : p.dropCompletion.out = p.out := by
  obtain ⟨frame, h⟩ := p.dropCompletion_eq
  rw [h]

theorem State.softReset_lastResult (s : State) (p : Port) :
    (s.softReset.port p).lastResult = (s.port p).lastResult := by
  cases p <;> simp [State.softReset, State.port]

@[simp] theorem State.softReset_geo (s : State) :
    s.softReset.geo = { s.geo with check := 0, mode := .offline } := by simp [State.softReset]
@[simp] theorem State.softReset_pos (s : State) :
    s.softReset.pos = { s.pos with valid := false, homing := false, racking := 0, rackKnown := false } := by
  simp [State.softReset]
@[simp] theorem State.softReset_mem (s : State) : s.softReset.mem = ⟨s.mem.cells, []⟩ := by
  simp [State.softReset, State.releaseCourse]
@[simp] theorem State.softReset_tech (s : State) : s.softReset.tech = ⟨s.tech.tables, []⟩ := by
  simp [State.softReset, State.releaseCourse]
@[simp] theorem State.softReset_load (s : State) : s.softReset.load = ⟨0, 0, false, false⟩ := by
  simp [State.softReset, LoadCursor.initial]
@[simp] theorem State.softReset_ptrs (s : State) : s.softReset.ptrs = pointersInitial := by simp [State.softReset]
@[simp] theorem State.softReset_queue (s : State) : s.softReset.queue = ⟨[], [], 0, 1279, 2⟩ := by
  simp [State.softReset, CourseQueue.initial]
@[simp] theorem State.softReset_arm (s : State) : s.softReset.arm = .initial := by simp [State.softReset]
@[simp] theorem State.softReset_image (s : State) : s.softReset.image = .cleared := by
  simp [State.softReset, State.releaseCourse]
@[simp] theorem State.softReset_heads (s : State) : s.softReset.heads = .initial := by simp [State.softReset]
@[simp] theorem State.softReset_catchers (s : State) : s.softReset.catchers = catchersRaised := by
  simp [State.softReset]
@[simp] theorem State.softReset_supply (s : State) : s.softReset.supply = .standby := by simp [State.softReset]
@[simp] theorem State.softReset_stops (s : State) : s.softReset.stops = ⟨s.stops.latch, none, s.stops.resume⟩ := by
  simp [State.softReset]
@[simp] theorem State.softReset_patternReasons (s : State) :
    s.softReset.patternReasons = ⟨false, false, false, s.patternReasons.resumeValid⟩ := by
  simp [State.softReset, PatternReasons.none]
@[simp] theorem State.softReset_driveReasons (s : State) :
    s.softReset.driveReasons = ⟨false, false, false, false, false, false⟩ := by
  simp [State.softReset, DriveReasons.none]

/-- HELD carriers become UNKNOWN where they stand, every other entry is kept (R109). -/
theorem State.softReset_carriers (s : State) (k : Carrier) :
    s.softReset.carriers[k] = match s.carriers[k].status with
      | .held _ => ⟨.unknown, s.carriers[k].rail⟩
      | _ => s.carriers[k] := by
  have hdrop : s.softReset.carriers[k] = s.carriers[k].dropHeld := s.changeCarriers_get (fun _ e => e.dropHeld) k
  exact hdrop.trans (CarrierEntry.dropHeld_eq _)

/-- Only changes that wait to be written are added to retained memory (R107). -/
theorem State.softReset_retained (s : State) :
    ∃ l, s.softReset.retained = { s.retained with writes := s.retained.writes ++ l } := by
  obtain ⟨l, hl⟩ := s.changeCarriers_retained fun _ e => e.dropHeld
  exact ⟨l, by simpa [State.softReset] using hl⟩

/-- SOFT_RESET leaves the load cursor at its reset value whatever it was. -/
theorem State.breakLoad_softReset (s : State) (b : Bool) : (s.breakLoad b).softReset = s.softReset := by
  cases b <;> rfl

/-- Settles O7, from the two answers of the frame and the blocks that SOFT_RESET writes. -/
theorem softResetValues : Obligations.SoftResetValues := by
  refine ⟨fun s p ho hu => ⟨_, exec_softReset_refused ho hu p, s.breakLoad_closeFrame_sameBut _ _ _ _, ?_, ?_⟩,
    fun s p ho hu => ⟨s.softReset.closeFrame p .ok [], ?_, ?_, ?_⟩⟩
  · rw [State.closeFrame_port, State.breakLoad_port]
  · rw [State.closeFrame_load, State.breakLoad_load]
  · rw [exec_softReset_accepted ho hu, State.breakLoad_softReset]
  · rw [State.closeFrame_port, State.softReset_lastResult]
  · have hlost : s.softReset.retained.lost = s.retained.lost := by
      obtain ⟨l, hl⟩ := s.softReset_retained
      rw [hl]
    refine ⟨by simp, by simp, by simp, by simp, by simp, by simp, by simp, fun i => ?_, by simp, by simp, by simp,
      by simp, fun r => ?_, fun k => ?_, by simp, by simp, by simp [hlost], by simp, by simp, by simp⟩
    · rw [State.closeFrame_ptrs, State.softReset_ptrs, pointersInitial_get]
    · rw [State.closeFrame_catchers, State.softReset_catchers, catchersRaised_get]
    · rw [State.closeFrame_carriers]
      exact s.softReset_carriers k

end Sys2Proof.Machine
end

section
/-! SUPPORT. What the commands' own rules leave of the ports and of the waiting commands: SOFT_RESET drops the record
of an open FETCH_COMPLETION frame, nothing else writes a port (R78, R173, R174). -/

namespace Sys2Proof.Machine

variable {s t u : State}

/-! ## The relation -/

/-- The waiting commands, the Drive Port, and the Pattern Port's last result and output are as they were. -/
def AnswersKept (s t : State) : Prop :=
  t.pending = s.pending ∧ t.drivePort = s.drivePort ∧ t.patternPort.lastResult = s.patternPort.lastResult ∧
    t.patternPort.out = s.patternPort.out

theorem AnswersKept.refl (s : State) : AnswersKept s s := ⟨rfl, rfl, rfl, rfl⟩

theorem AnswersKept.trans (h : AnswersKept s t) (h' : AnswersKept t u) : AnswersKept s u := by
  obtain ⟨hpending, hdrive, hlast, hout⟩ := h
  obtain ⟨hpending', hdrive', hlast', hout'⟩ := h'
  exact ⟨hpending'.trans hpending, hdrive'.trans hdrive, hlast'.trans hlast, hout'.trans hout⟩

theorem AnswersKept.breakLoad (s : State) (b : Bool) : AnswersKept s (s.breakLoad b) := by simp [AnswersKept]

/-! ## The rules of the commands -/

namespace AnswersKept

theorem ownSoftReset (s : State) : AnswersKept s (ownSoftReset s).2 := by
  unfold Machine.ownSoftReset
  split
  · exact .refl s
  · simp [AnswersKept, State.softReset]

theorem loadCells (s : State) (cells : List Colour) : AnswersKept s (s.loadCells cells).2 := .refl s

theorem ownWriteRow (row start : BitVec 16) (data : List Byte) (s : State) :
    AnswersKept s (ownWriteRow row start data s).2 := by
  unfold Machine.ownWriteRow
  split
  · split
    · exact .refl s
    · exact .loadCells (s.withLoad _) _
  · exact .refl s

theorem ownRowContinue (data : List Byte) (s : State) : AnswersKept s (ownRowContinue data s).2 := by
  unfold Machine.ownRowContinue; split <;> [exact .loadCells s _; exact .refl s]

theorem ownWriteTechnique (table colour front back parity : Byte) (s : State) :
    AnswersKept s (ownWriteTechnique table colour front back parity s).2 := by
  unfold Machine.ownWriteTechnique; split <;> [(split <;> exact .refl _); exact .refl s]

theorem ownSetPointer (pointer : Byte) (current low high : BitVec 16) (mode step : Byte) (s : State) :
    AnswersKept s (ownSetPointer pointer current low high mode step s).2 := by
  unfold Machine.ownSetPointer; split <;> exact .refl _

theorem ownCommitCourse (record : CourseFrame) (s : State) : AnswersKept s (ownCommitCourse record s).2 := by
  unfold Machine.ownCommitCourse; split <;> [exact .refl s; (split <;> exact .refl _)]

theorem ownDiscardHead (s : State) : AnswersKept s (ownDiscardHead s).2 := by
  unfold Machine.ownDiscardHead; split <;> simp [AnswersKept, State.clearHeadRefused]

theorem ownSetCarrier (carrier : Byte) (position : BitVec 16) (s : State) :
    AnswersKept s (ownSetCarrier carrier position s).2 := by
  unfold Machine.ownSetCarrier
  split
  · exact .refl s
  · dsimp only; split_ifs <;> simp [AnswersKept]

theorem ownSetCarrierLimit (carrier speed : Byte) (s : State) :
    AnswersKept s (ownSetCarrierLimit carrier speed s).2 := by
  unfold Machine.ownSetCarrierLimit; split <;> [exact .refl s; (split <;> exact .refl _)]

theorem ownClearResumeRecord (s : State) : AnswersKept s (ownClearResumeRecord s).2 := by
  unfold Machine.ownClearResumeRecord; split <;> [exact .refl s; (dsimp only; split <;> simp [AnswersKept])]

theorem ownSetGeometryField (field index : Byte) (value : BitVec 32) (s : State) :
    AnswersKept s (ownSetGeometryField field index value s).2 := by
  unfold Machine.ownSetGeometryField; split <;> [exact .refl s; (split <;> simp [AnswersKept])]

theorem ownGoOnline (s : State) : AnswersKept s (ownGoOnline s).2 := by
  unfold Machine.ownGoOnline; split_ifs <;> simp [AnswersKept]

theorem ownGoOffline (s : State) : AnswersKept s (ownGoOffline s).2 := by
  unfold Machine.ownGoOffline; split <;> exact .refl _

theorem ownStoreSettings (s : State) : AnswersKept s (ownStoreSettings s).2 := by
  unfold Machine.ownStoreSettings; split <;> exact .refl _

theorem ownHomeArm (s : State) : AnswersKept s (ownHomeArm s).2 := by
  unfold Machine.ownHomeArm; split <;> exact .refl _

theorem ownSetRacking (racking : Byte) (s : State) : AnswersKept s (ownSetRacking racking s).2 := by
  unfold Machine.ownSetRacking; split <;> [exact .refl s; (split <;> exact .refl _)]

theorem ownActuatorsOn (s : State) : AnswersKept s (ownActuatorsOn s).2 := by
  unfold Machine.ownActuatorsOn; split <;> [exact .refl s; (split <;> exact .refl _)]

theorem ownActuatorsOff (s : State) : AnswersKept s (ownActuatorsOff s).2 := by
  unfold Machine.ownActuatorsOff; split <;> exact .refl _

theorem ownRequestStroke (s : State) : AnswersKept s (ownRequestStroke s).2 := by
  unfold Machine.ownRequestStroke
  split
  · exact .refl s
  · split
    · exact .refl s
    · split <;> [exact .refl s; (split <;> simp [AnswersKept])]

theorem ownBeginStroke (s : State) : AnswersKept s (ownBeginStroke s).2 := by
  unfold Machine.ownBeginStroke
  split_ifs
  case neg => split <;> [exact .refl s; (dsimp only; split <;> simp [AnswersKept])]
  all_goals exact .refl s

theorem ownAbandonStroke (s : State) : AnswersKept s (ownAbandonStroke s).2 := by
  unfold Machine.ownAbandonStroke; split <;> simp [AnswersKept]

theorem ownResumeStroke (s : State) : AnswersKept s (ownResumeStroke s).2 := by
  unfold Machine.ownResumeStroke
  split
  · exact .refl s
  · split <;> [(split_ifs <;> simp [AnswersKept]); exact .refl s]

theorem ownClearStop (s : State) : AnswersKept s (ownClearStop s).2 := by
  unfold Machine.ownClearStop; split <;> exact .refl _

theorem clearShown (c : Carried) (s : State) : AnswersKept s (clearShown c s) := by
  unfold Machine.clearShown; split <;> exact .refl _

theorem clearFault (p : Port) (c : Carried) (s : State) : AnswersKept s (clearFault p c s) := by
  unfold Machine.clearFault; split <;> [(split <;> exact .refl _); exact .refl s]

theorem clearOutcomeReason (c : Carried) (s : State) : AnswersKept s (clearOutcomeReason c s) := by
  unfold Machine.clearOutcomeReason; split <;> exact .refl _

theorem finishFetch (formed : Formed) (s : State) : AnswersKept s (finishFetch formed s).2 := by
  unfold Machine.finishFetch; split <;> exact .refl _

end AnswersKept

/-- No command's own rule touches what the ports have answered, or the waiting commands. -/
theorem AnswersKept.frameForm {c : Instr} {w : FrameForm} (h : frameForm c = some w) : w.Keeps AnswersKept := by
  cases c with
  | writeRow e row start data => cases h; exact fun u _ => .ownWriteRow row start data u
  | rowContinue e data => cases h; exact fun u _ => .ownRowContinue data u
  | exchangeCell frame row cell colour => cases h; exact fun _ u _ => .refl u
  | conditionalExchangeCell frame row cell expected new => cases h; exact fun _ u _ => .refl u
  | writeTechnique e table colour front back parity =>
    cases h; exact fun u _ => .ownWriteTechnique table colour front back parity u
  | readStatus port frame => cases h; exact fun _ u _ => .clearShown _ u
  | readFault port frame => cases h; exact fun _ u _ => .clearFault _ _ u
  | readGrant frame => cases h; exact fun _ u _ => .clearOutcomeReason _ u
  | fetchCompletion frame => cases h; exact fun formed u _ => .finishFetch formed u
  | softReset port e => cases h; exact fun u _ => .ownSoftReset u
  | setPointer e p current low high mode step =>
    cases h; exact fun u _ => .ownSetPointer p current low high mode step u
  | setGeometryField e field index value => cases h; exact fun u _ => .ownSetGeometryField field index value u
  | setCarrierLimit e carrier speed => cases h; exact fun u _ => .ownSetCarrierLimit carrier speed u
  | setRacking e racking => cases h; exact fun u _ => .ownSetRacking racking u
  | setSpeedCap e speed => cases h; exact fun u _ => .refl u
  | commitCourse e record => cases h; exact fun u _ => .ownCommitCourse record u
  | discardHead e => cases h; exact fun u _ => .ownDiscardHead u
  | setZone e left right => cases h; exact fun u _ => .refl u
  | setWantLevel e level => cases h; exact fun u _ => .refl u
  | setCarrier e carrier position => cases h; exact fun u _ => .ownSetCarrier carrier position u
  | clearResumeRecord e => cases h; exact fun u _ => .ownClearResumeRecord u
  | goOnline e => cases h; exact fun u _ => .ownGoOnline u
  | goOffline e => cases h; exact fun u _ => .ownGoOffline u
  | storeSettings e => cases h; exact fun u _ => .ownStoreSettings u
  | homeArm e => cases h; exact fun u _ => .ownHomeArm u
  | actuatorsOn e => cases h; exact fun u _ => .ownActuatorsOn u
  | actuatorsOff e => cases h; exact fun u _ => .ownActuatorsOff u
  | requestStroke e => cases h; exact fun u _ => .ownRequestStroke u
  | beginStroke e => cases h; exact fun u _ => .ownBeginStroke u
  | abandonStroke e => cases h; exact fun u _ => .ownAbandonStroke u
  | resumeStroke e => cases h; exact fun u _ => .ownResumeStroke u
  | clearStop e => cases h; exact fun u _ => .ownClearStop u
  | unknownCommand port e code => cases h; trivial
  | _ => cases h <;> exact fun _ u _ => .refl u

end Sys2Proof.Machine
end

section
/-! O4. Every command answers a next state and leaves the waiting commands; no port's answers change by the other port or
by an event that is not a reset or the loss of power (R173, R174, R176). -/

namespace Sys2Proof.Machine

variable {s t u : State}

/-! ## A frame of a port -/

/-- The end of a read frame is what its command's rule leaves, with a new state of the frame's own port. -/
theorem endRead_answers {finish : Formed → State → ResultCode × State}
    (hf : ∀ formed u, u.phase = .running → AnswersKept u (finish formed u).2) (f : FrameShape) (exempt breaks : Bool)
    (formed : Formed) (e : FrameEnd) (hl : s.live = true) :
    ∃ u x, AnswersKept s u ∧ endRead f exempt breaks finish formed e s = u.withPort f.port x := by
  cases e with
  | tooSoon bytes => exact ⟨s, _, .refl s, (s.withPort_self f.port).symm⟩
  | misfit bytes bits => exact ⟨s, _, .refl s, rfl⟩
  | fits =>
    simp only [endRead]
    split
    · exact ⟨s, _, .refl s, rfl⟩
    · next hb =>
      have hrun := State.running_of_live hl (Bool.eq_false_iff.2 hb)
      exact ⟨_, _, (hf formed s hrun).trans (.breakLoad _ _), rfl⟩

/-- A frame is what its command's rule leaves, with a new state of the frame's own port. -/
theorem FrameForm.take_answers {w : FrameForm} (h : w.Keeps AnswersKept) (s : State) :
    ∃ u x, AnswersKept s u ∧ w.take s = u.withPort w.port x := by
  cases hl : s.live with
  | false => exact ⟨s, _, .refl s, FrameForm.take_of_not_live hl w⟩
  | true =>
    cases w with
    | write f breaks own e =>
      simp only [FrameForm.take, takeWrite, hl, if_true]
      cases e with
      | tooSoon bytes => exact ⟨s, _, .refl s, rfl⟩
      | misfit bytes bits => exact ⟨s, _, .refl s, rfl⟩
      | fits =>
        dsimp only
        split
        · exact ⟨s, _, .refl s, rfl⟩
        · next hb =>
          have hopen := State.breakLoad_open (State.open_of_live hl (Bool.eq_false_iff.2 hb)) breaks
          exact ⟨_, _, (AnswersKept.breakLoad s breaks).trans (h _ hopen), rfl⟩
    | read f exempt breaks form finish frame =>
      have hsame : s = s.withPort f.port (s.port f.port) := (s.withPort_self f.port).symm
      simp only [FrameForm.take, takeRead, hl, if_true]
      split
      · exact ⟨s, _, .refl s, rfl⟩
      · exact endRead_answers h f exempt breaks _ _ hl
      · exact ⟨s, _, .refl s, rfl⟩
      · split
        · split
          · exact endRead_answers h f exempt breaks _ _ hl
          · exact ⟨s, _, .refl s, hsame⟩
        · exact ⟨s, _, .refl s, hsame⟩
    | unknown port e =>
      simp only [FrameForm.take, takeUnknown, hl, if_true]
      cases e with
      | tooSoon bytes => exact ⟨s, _, .refl s, rfl⟩
      | misfit bytes bits =>
        dsimp only
        split
        · exact ⟨s, _, .refl s, rfl⟩
        · exact ⟨_, _, .breakLoad s _, rfl⟩
      | fits =>
        dsimp only
        split
        · exact ⟨s, _, .refl s, rfl⟩
        · exact ⟨_, _, .breakLoad s _, rfl⟩

/-- A command of a port: what its rule leaves, with a new state of that port. -/
theorem exec_answers {c : Instr} {p : Port} (hp : c.port? = some p) (h : exec c s = .next t) :
    ∃ u x, AnswersKept s u ∧ t = u.withPort p x := by
  obtain ⟨w, hw, rfl⟩ := frameForm_of_port hp
  obtain ⟨u, x, hu, hx⟩ := FrameForm.take_answers (AnswersKept.frameForm hw) s
  rw [exec_frameForm hw, hx] at h
  cases h
  exact ⟨u, x, hu, rfl⟩

/-! ## Events -/

/-- Both ports and the waiting commands are as they were. -/
def PortsKept (s t : State) : Prop :=
  t.patternPort = s.patternPort ∧ t.drivePort = s.drivePort ∧ t.pending = s.pending

theorem PortsKept.refl (s : State) : PortsKept s s := ⟨rfl, rfl, rfl⟩

theorem PortsKept.atStage {stage : ArmingStage} {act : Course → State} (h : ∀ c, PortsKept s (act c)) :
    PortsKept s (s.atStage stage act) := by
  rcases s.atStage_cases stage act with he | ⟨c, -, -, -, he⟩
  · rw [he]; exact .refl s
  · rw [he]; exact h c

theorem PortsKept.startUpEnd (h : exec .startUpEnd s = .next t) : PortsKept s t := by
  by_cases hs : s.phase = .startUp
  · rw [exec_startUpEnd hs] at h
    cases h
    dsimp only
    split_ifs <;> simp [PortsKept, State.startedUp]
  · rw [exec_startUpEnd_idle hs] at h
    cases h
    exact .refl s

/-- No event but a power-on, a loss of power and RESET touches a port or the waiting commands. -/
theorem PortsKept.event {c : Instr} (hc : c.port? = none) (hp : c.isPower = false) (h : exec c s = .next t) :
    PortsKept s t := by
  cases c with
  | powerOn => cases hp
  | powerLoss => cases hp
  | resetAssertion => cases hp
  | resetRelease => cases hp
  | storeWriteComplete => cases h; split <;> exact .refl _
  | wakeComplete => cases h; split <;> exact .refl _
  | locksAndResolution => cases h; exact .atStage fun c => by simp [PortsKept]
  | zoneStage => cases h; exact .atStage fun c => by simp [PortsKept]
  | imageStage => cases h; exact .atStage fun c => by simp [PortsKept]
  | transferPairing => cases h; exact .atStage fun c => by simp [PortsKept]
  | carrierPlan => cases h; exact .atStage fun c => by simp [PortsKept]
  | extentAndTurningPoints => cases h; exact .atStage fun c => by simp [PortsKept]
  | speedClass => cases h; exact .atStage fun c => by simp [PortsKept]
  | completionAndGrant => cases h; exact .atStage fun c => by simp [PortsKept]
  | encoderTransition a b => cases h; dsimp only; split_ifs <;> simp [PortsKept]
  | pulseEnd head => cases h; split <;> exact .refl _
  | indexPulse => cases h; split_ifs <;> simp [PortsKept]
  | stopInAssertion => cases h; dsimp only; split <;> [exact .refl s; (split <;> simp [PortsKept])]
  | stopInRelease => cases h; dsimp only; split <;> exact .refl _
  | yarnSensorBreak k => cases h; dsimp only; split <;> [exact .refl s; (split <;> simp [PortsKept])]
  | yarnSensorBreakEnd k => cases h; exact .refl _
  | pfwAssertion => cases h; dsimp only; split <;> [exact .refl s; (split <;> simp [PortsKept])]
  | pfwRelease => cases h; exact .refl _
  | resumeRecordWriteComplete => cases h; split <;> [(dsimp only; split <;> exact .refl _); exact .refl s]
  | retainedWriteComplete => cases h; split <;> [(split <;> exact .refl _); exact .refl s]
  | startUpEnd => exact .startUpEnd h
  | backupSupplyFailure => cases h; exact .refl _
  | _ => cases hc

/-! ## Power and RESET -/

@[simp] theorem State.clearVolatile_pending (latch : Bool) : (s.clearVolatile latch).pending = s.pending := by
  simp [State.clearVolatile]

@[simp] theorem State.holdReset_pending (s : State) : s.holdReset.pending = s.pending := by simp [State.holdReset]

@[simp] theorem State.beginStartUp_pending (s : State) : s.beginStartUp.pending = s.pending := by
  simp [State.beginStartUp, State.recoverRetained, State.loadSettings]

/-- A power-on, a loss of power and RESET put the ports at rest and leave the waiting commands. -/
theorem exec_power_pending {c : Instr} (hp : c.isPower = true) (h : exec c s = .next t) : t.pending = s.pending := by
  cases c with
  | powerOn => cases h; split <;> [(split <;> simp); rfl; rfl; rfl]
  | powerLoss => cases h; split <;> simp
  | resetAssertion => cases h; dsimp only; split <;> simp
  | resetRelease => cases h; dsimp only; split <;> simp
  | _ => cases hp

/-! ## The statement -/

/-- No command ends in a fault or a refusal. -/
theorem exec_isNext (c : Instr) (s : State) : ∃ t, exec c s = .next t := by
  cases c <;> exact ⟨_, rfl⟩

theorem exec_pending {c : Instr} (h : exec c s = .next t) : t.pending = s.pending := by
  cases hc : c.port? with
  | some p =>
    obtain ⟨u, x, ⟨hpending, -⟩, rfl⟩ := exec_answers hc h
    rw [State.withPort_pending, hpending]
  | none =>
    cases hp : c.isPower with
    | true => exact exec_power_pending hp h
    | false => obtain ⟨-, -, hpending⟩ := PortsKept.event hc hp h; exact hpending

/-- Settles O4, from what a frame of a port and what an event leave of the ports. -/
theorem answersAndPorts : Obligations.AnswersAndPorts := by
  refine ⟨fun c s => ?_, fun c s t h => ⟨fun hp => ?_, fun hp => ?_, fun hc hp => ?_⟩⟩
  · obtain ⟨t, ht⟩ := exec_isNext c s
    exact ⟨t, ht, exec_pending ht⟩
  · obtain ⟨u, x, ⟨-, hdrive, -, -⟩, rfl⟩ := exec_answers hp h
    exact hdrive
  · obtain ⟨u, x, ⟨-, -, hlast, hout⟩, rfl⟩ := exec_answers hp h
    exact ⟨hlast, hout⟩
  · obtain ⟨hpattern, hdrive, -⟩ := PortsKept.event hc hp h
    exact ⟨hpattern, hdrive⟩

end Sys2Proof.Machine
end
